-- ==== Sys2Proof/Word.lean ====
section
/-! DEFINITION. The bit-vector types of the spec (00_scope.md R10): 32-bit words, bytes, half-words, 40-bit longs
and 64-bit doubles. -/

namespace Sys2Proof

/-- A 32-bit register value, instruction word or address (00_scope.md R7, XLEN and ALEN). -/
abbrev Word := BitVec 32

/-- One byte of memory (20_memory.md R90). -/
abbrev Byte := BitVec 8

/-- A 16-bit half of a register (44_multiply.md R320). -/
abbrev Half := BitVec 16

/-- A 40-bit `long` value (10_state.md R24). -/
abbrev Long := BitVec 40

/-- A 64-bit value of a register pair (10_state.md R23). -/
abbrev Double := BitVec 64

end Sys2Proof
end

