-- ==== Sys2Proof/Config.lean ====
section
/-! DEFINITION. What a device fixes (00_scope.md R7, 92_eei_decisions.md O1 to O8) and the free values, the opaque
constants that stand for every value the spec leaves undefined. -/

namespace Sys2Proof

/-- VARIANT: which CPU the part has (00_scope.md R2). -/
inductive Variant where
  | c67x
  | c67xPlus
deriving DecidableEq, Repr

/-- ENDIAN (20_memory.md R96). -/
inductive Endian where
  | little
  | big
deriving DecidableEq, Repr

/-- FP.tie, how round-to-nearest breaks a tie (47_float_arith.md R410(a), 92_eei_decisions.md O7). -/
inductive TieRule where
  | toEven
  | awayFromZero
deriving DecidableEq, Repr

/-- FP.tiny, when underflow is detected (47_float_arith.md R410(b), 92_eei_decisions.md O3). -/
inductive TinyRule where
  | afterRounding
  | beforeRounding
deriving DecidableEq, Repr

/-- What stands behind a region of the address map (20_memory.md R104). -/
inductive RegionKind where
  | memory
  | peripheral
deriving DecidableEq, Repr

/-- Which of the two views reaches a region: instruction fetch, load and store, or both on the same bytes
(20_memory.md R91, R104). -/
inductive RegionView where
  | fetch
  | data
  | shared
deriving DecidableEq, Repr

/-- One region of MEMORY_MAP: `size` bytes from address `base` (20_memory.md R104). -/
structure Region where
  base : Nat
  size : Nat
  kind : RegionKind
  view : RegionView
deriving DecidableEq, Repr

/-- The parameters a device fixes (00_scope.md R7). No step changes them. NREG and EP_SPAN follow from `variant`. -/
structure Device where
  variant : Variant
  endian : Endian
  revisionId : BitVec 8
  /-- PWRD_SUPPORTED (60_exceptions.md R525). -/
  pwrdSupported : Bool
  /-- PCC_SUPPORTED (10_state.md R43): no rule makes an effect depend on it (92_eei_decisions.md D12). -/
  pccSupported : Bool
  /-- DCC_SUPPORTED (10_state.md R43), likewise. -/
  dccSupported : Bool
  /-- PWRD_CLEARED_ON_WAKE (92_eei_decisions.md O4). -/
  pwrdClearedOnWake : Bool
  /-- SAT_WRITE1_CLEARS (92_eei_decisions.md O2). -/
  satWrite1Clears : Bool
  /-- FP.tie. -/
  tie : TieRule
  /-- FP.tiny. -/
  tiny : TinyRule
  /-- FP.info_on_overflow (92_eei_decisions.md D19). -/
  infoOnOverflow : Bool
  /-- EXTERNAL_WRITERS: whether other bus masters write memory; what they write is in `State.inputs` (20_memory.md R112,
  92_eei_decisions.md D13). -/
  externalWriters : Bool
  /-- MEMORY_MAP: the first region that holds an address speaks for it. -/
  map : List Region
deriving DecidableEq, Repr

/-- NREG (10_state.md R20). -/
def Variant.registers : Variant → Nat
  | .c67x => 16
  | .c67xPlus => 32

/-- EP_SPAN: an execute packet may cross a fetch-packet boundary (30_encoding.md R125). -/
def Variant.packetsSpan : Variant → Bool
  | .c67x => false
  | .c67xPlus => true

/-- CPU ID (10_state.md R38). -/
def Variant.cpuId : Variant → BitVec 8
  | .c67x => 2
  | .c67xPlus => 3

/-- CSR.EN (10_state.md R42). -/
def Endian.enBit : Endian → Bool
  | .little => true
  | .big => false

/-- The device the model takes after reset: log entries 1, 5 and 6 (DESIGN CHOICE). -/
def Device.standard : Device where
  variant := .c67xPlus
  endian := .little
  revisionId := 0
  pwrdSupported := true
  pccSupported := true
  dccSupported := true
  pwrdClearedOnWake := false
  satWrite1Clears := false
  tie := .toEven
  tiny := .afterRounding
  infoOnOverflow := true
  externalWriters := false
  map := [⟨0, 2 ^ 32, .memory, .shared⟩]

namespace Config

/-- A free 32-bit value: what the spec calls undefined, applied to the counter `State.free` (log entry 7). -/
opaque freeWord : Nat → Word

/-- What the fetch of a byte returns whose value the spec leaves undefined, a byte that a store has changed or that no
memory backs (20_memory.md R105, R114), applied to the counter `State.free` and the byte's address (log entries 9 and 19).
-/
opaque freeCode : Nat → Nat → Byte

/-- FP.rcp_sp: the hardware's table for RCPSP (47_float_arith.md R410(d), R436; log entry 29). -/
opaque rcpSp : Word → Word

/-- FP.rcp_dp: the hardware's table for RCPDP (R437; log entry 29). -/
opaque rcpDp : Double → Double

/-- FP.rsqr_sp: the hardware's table for RSQRSP (R438; log entry 29). -/
opaque rsqrSp : Word → Word

/-- FP.rsqr_dp: the hardware's table for RSQRDP (R439; log entry 29). -/
opaque rsqrDp : Double → Double

end Config

/-- A free byte, drawn from the free word of the same number. -/
def freeByte (n : Nat) : Byte := (Config.freeWord n).extractLsb' 0 8

/-- A free bit, drawn from the free word of the same number. -/
def freeBit (n : Nat) : Bool := (Config.freeWord n).getLsbD 0

/-- A free word-aligned address: an undefined branch target (46_branch_nop.md R390). -/
def freeTarget (n : Nat) : Word := Config.freeWord n &&& 0xFFFFFFFC#32

end Sys2Proof
end

