-- ==== Sys2Proof/Syntax.lean ====
section
/-! DEFINITION. The instructions as syntax: one constructor of `Instr` for each row of spec/opcode_table.json, with
operand records shared by the rows of one shape (30_encoding.md R130 to R149). Odd pair registers, reserved
conditions and reserved addressing modes cannot be written: they are no instruction (R131, R142, R150, R153). -/

namespace Sys2Proof

/-- The two sides: register file A with the units ending in 1, file B with those ending in 2 (10_state.md R22). -/
inductive Side where
  | a
  | b
deriving DecidableEq, Repr

/-- The side a cross path reads from (40_execution_model.md R186). -/
def Side.other : Side → Side
  | .a => .b
  | .b => .a

/-- The registers a condition can test (30_encoding.md R130). -/
inductive CondReg where
  | b0
  | b1
  | b2
  | a1
  | a2
deriving DecidableEq, Repr

/-- The condition of an instruction (30_encoding.md R130). -/
inductive Cond where
  /-- creg = 000, z = 0: unconditional. -/
  | always
  /-- z = 0: the register is nonzero, `[reg]`. -/
  | nonzero (r : CondReg)
  /-- z = 1: the register is zero, `[!reg]`. -/
  | zero (r : CondReg)
deriving DecidableEq, Repr

/-- A 5-bit register number (30_encoding.md R149). -/
abbrev Reg := BitVec 5

/-- A register pair, named by half its even register's number (10_state.md R23). -/
abbrev Pair := BitVec 4

/-- The even register of a pair: the low word. -/
def Pair.even (p : Pair) : Reg := p ++ 0#1

/-- The odd register of a pair: the high word, or bits 39-32 of a long. -/
def Pair.odd (p : Pair) : Reg := p ++ 1#1

/-- A 5-bit constant field, signed or unsigned as its row says (30_encoding.md R149). -/
abbrev Cst5 := BitVec 5

/-- A 4-bit unsigned constant (30_encoding.md R149). -/
abbrev Ucst4 := BitVec 4

/-- Two sources and a destination, one source through the cross path when `x`: which one is the row's (R149). -/
structure Bin (α β γ : Type) where
  cond : Cond
  side : Side
  x : Bool
  src1 : α
  src2 : β
  dst : γ
deriving DecidableEq, Repr

/-- A subtract of the C67x+ .S unit: src1 - src2, or its reverse src2 - src1 (40_execution_model.md R180; log entry 31). -/
structure SubForm (α : Type) extends Bin α α α where
  reverse : Bool
deriving DecidableEq, Repr

/-- Two sources and a destination, none of which can use the cross path. -/
structure BinN (α β γ : Type) where
  cond : Cond
  side : Side
  src1 : α
  src2 : β
  dst : γ
deriving DecidableEq, Repr

/-- One source, through the cross path when `x`, and a destination. -/
structure Un (β γ : Type) where
  cond : Cond
  side : Side
  x : Bool
  src2 : β
  dst : γ
deriving DecidableEq, Repr

/-- One source that cannot use the cross path, and a destination. -/
structure UnN (β γ : Type) where
  cond : Cond
  side : Side
  src2 : β
  dst : γ
deriving DecidableEq, Repr

/-- A bit-field operation with constants (format SF, 30_encoding.md R144). -/
structure FieldOp where
  cond : Cond
  side : Side
  src2 : Reg
  csta : BitVec 5
  cstb : BitVec 5
  dst : Reg
deriving DecidableEq, Repr

/-- A 16-bit constant and a destination (format SK16, 30_encoding.md R143). -/
structure Const16 where
  cond : Cond
  side : Side
  cst : BitVec 16
  dst : Reg
deriving DecidableEq, Repr

/-- The written 32-bit constant of MVKL and MVKLH (30_encoding.md R165). -/
structure Const32 where
  cond : Cond
  side : Side
  cst : Word
  dst : Reg
deriving DecidableEq, Repr

/-- A branch displacement (format SB, 30_encoding.md R145). -/
structure Disp where
  cond : Cond
  side : Side
  scst21 : BitVec 21
deriving DecidableEq, Repr

/-- A branch through a register, on .S2 only (30_encoding.md R146). -/
structure BranchReg where
  cond : Cond
  x : Bool
  src2 : Reg
deriving DecidableEq, Repr

/-- MVC from a control register, on .S2 only (43_compare_move.md R305). -/
structure MvcRead where
  cond : Cond
  creg : BitVec 5
  dst : Reg
deriving DecidableEq, Repr

/-- MVC to a control register, on .S2 only (43_compare_move.md R305). -/
structure MvcWrite where
  cond : Cond
  x : Bool
  src2 : Reg
  creg : BitVec 5
deriving DecidableEq, Repr

/-- The address modifications of a load or store (30_encoding.md R142). -/
inductive AddrMode where
  | negOffset
  | posOffset
  | preDec
  | preInc
  | postDec
  | postInc
deriving DecidableEq, Repr

/-- The offset operand of a load or store (30_encoding.md R142). -/
inductive Offset where
  | cst (ucst5 : BitVec 5)
  | reg (offsetR : Reg)
deriving DecidableEq, Repr

/-- A load or store with a register or 5-bit offset (format LS, 30_encoding.md R140): `unit` is the side of the .D
unit and of the address registers, `side` that of the data register and the T path. -/
structure Mem (γ : Type) where
  cond : Cond
  unit : Side
  side : Side
  mode : AddrMode
  base : Reg
  offset : Offset
  data : γ
deriving DecidableEq, Repr

/-- A load or store with a 15-bit offset from B14 or B15, on .D2 only (format LSK, 30_encoding.md R141). -/
structure MemK where
  cond : Cond
  side : Side
  /-- The base register is B15, else B14. -/
  fromB15 : Bool
  ucst15 : BitVec 15
  data : Reg
deriving DecidableEq, Repr

/-- A destination alone, for ZERO. -/
structure Dst (γ : Type) where
  cond : Cond
  side : Side
  dst : γ
deriving DecidableEq, Repr

/-- The forms of MV (30_encoding.md R165, 43_compare_move.md R300). -/
inductive MvForm where
  | l (o : Un Reg Reg)
  | lLong (o : UnN Pair Pair)
  | s (o : Un Reg Reg)
  | d (o : UnN Reg Reg)
deriving DecidableEq, Repr

/-- The forms of NEG (30_encoding.md R165, 41_integer_arith.md R240). -/
inductive NegForm where
  | l (o : Un Reg Reg)
  | lLong (o : UnN Pair Pair)
  | s (o : Un Reg Reg)
deriving DecidableEq, Repr

/-- The forms of NOT (30_encoding.md R165, 42_logic_shift_bitfield.md R264). -/
inductive NotForm where
  | l (o : Un Reg Reg)
  | s (o : Un Reg Reg)
deriving DecidableEq, Repr

/-- The forms of ZERO (30_encoding.md R165, 41_integer_arith.md R241): on .S it is MVK 0 or SUB. -/
inductive ZeroForm where
  | l (o : Dst Reg)
  | lLong (o : Dst Pair)
  | d (o : Dst Reg)
  | sMvk (o : Dst Reg)
  | sSub (o : Dst Reg)
deriving DecidableEq, Repr

/-- The instructions: one constructor for each row of spec/opcode_table.json, in its order. -/
inductive Instr where
  /-- ABS .L1,.L2: src2 xsint, dst sint (R221). -/
  | abs (o : Un Reg Reg)
  /-- ABS .L1,.L2: src2 slong, dst slong (R221). -/
  | absLong (o : UnN Pair Pair)
  /-- ADD .L1,.L2: src1 sint, src2 xsint, dst sint (R222). -/
  | addL (o : Bin Reg Reg Reg)
  /-- ADD .L1,.L2: src1 sint, src2 xsint, dst slong (R222). -/
  | addLWide (o : Bin Reg Reg Pair)
  /-- ADD .L1,.L2: src1 xsint, src2 slong, dst slong (R222). -/
  | addLLong (o : Bin Reg Pair Pair)
  /-- ADD .L1,.L2: src1 scst5, src2 xsint, dst sint (R222). -/
  | addLC (o : Bin Cst5 Reg Reg)
  /-- ADD .L1,.L2: src1 scst5, src2 slong, dst slong (R222). -/
  | addLLongC (o : BinN Cst5 Pair Pair)
  /-- ADDU .L1,.L2: src1 uint, src2 xuint, dst ulong (R228). -/
  | adduWide (o : Bin Reg Reg Pair)
  /-- ADDU .L1,.L2: src1 xuint, src2 ulong, dst ulong (R228). -/
  | adduLong (o : Bin Reg Pair Pair)
  /-- ADDSP .L1,.L2: src1 sp, src2 xsp, dst sp (R412). -/
  | addspL (o : Bin Reg Reg Reg)
  /-- ADDDP .L1,.L2: src1 dp, src2 xdp, dst dp (R414). -/
  | adddpL (o : Bin Pair Pair Pair)
  /-- AND .L1,.L2: src1 uint, src2 xuint, dst uint (R261). -/
  | andL (o : Bin Reg Reg Reg)
  /-- AND .L1,.L2: src1 scst5, src2 xuint, dst uint (R261). -/
  | andLC (o : Bin Cst5 Reg Reg)
  /-- CMPEQ .L1,.L2: src1 sint, src2 xsint, dst uint (R291). -/
  | cmpeq (o : Bin Reg Reg Reg)
  /-- CMPEQ .L1,.L2: src1 scst5, src2 xsint, dst uint (R291). -/
  | cmpeqC (o : Bin Cst5 Reg Reg)
  /-- CMPEQ .L1,.L2: src1 xsint, src2 slong, dst uint (R291). -/
  | cmpeqLong (o : Bin Reg Pair Reg)
  /-- CMPEQ .L1,.L2: src1 scst5, src2 slong, dst uint (R291). -/
  | cmpeqLongC (o : BinN Cst5 Pair Reg)
  /-- CMPGT .L1,.L2: src1 sint, src2 xsint, dst uint (R292). -/
  | cmpgt (o : Bin Reg Reg Reg)
  /-- CMPGT .L1,.L2: src1 scst5, src2 xsint, dst uint (R292). -/
  | cmpgtC (o : Bin Cst5 Reg Reg)
  /-- CMPGT .L1,.L2: src1 xsint, src2 slong, dst uint (R292). -/
  | cmpgtLong (o : Bin Reg Pair Reg)
  /-- CMPGT .L1,.L2: src1 scst5, src2 slong, dst uint (R292). -/
  | cmpgtLongC (o : BinN Cst5 Pair Reg)
  /-- CMPGTU .L1,.L2: src1 uint, src2 xuint, dst uint (R293). -/
  | cmpgtu (o : Bin Reg Reg Reg)
  /-- CMPGTU .L1,.L2: src1 ucst4, src2 xuint, dst uint (R293). -/
  | cmpgtuC (o : Bin Ucst4 Reg Reg)
  /-- CMPGTU .L1,.L2: src1 xuint, src2 ulong, dst uint (R293). -/
  | cmpgtuLong (o : Bin Reg Pair Reg)
  /-- CMPGTU .L1,.L2: src1 ucst4, src2 ulong, dst uint (R293). -/
  | cmpgtuLongC (o : BinN Ucst4 Pair Reg)
  /-- CMPLT .L1,.L2: src1 sint, src2 xsint, dst uint (R294). -/
  | cmplt (o : Bin Reg Reg Reg)
  /-- CMPLT .L1,.L2: src1 scst5, src2 xsint, dst uint (R294). -/
  | cmpltC (o : Bin Cst5 Reg Reg)
  /-- CMPLT .L1,.L2: src1 xsint, src2 slong, dst uint (R294). -/
  | cmpltLong (o : Bin Reg Pair Reg)
  /-- CMPLT .L1,.L2: src1 scst5, src2 slong, dst uint (R294). -/
  | cmpltLongC (o : BinN Cst5 Pair Reg)
  /-- CMPLTU .L1,.L2: src1 uint, src2 xuint, dst uint (R295). -/
  | cmpltu (o : Bin Reg Reg Reg)
  /-- CMPLTU .L1,.L2: src1 ucst4, src2 xuint, dst uint (R295). -/
  | cmpltuC (o : Bin Ucst4 Reg Reg)
  /-- CMPLTU .L1,.L2: src1 xuint, src2 ulong, dst uint (R295). -/
  | cmpltuLong (o : Bin Reg Pair Reg)
  /-- CMPLTU .L1,.L2: src1 ucst4, src2 ulong, dst uint (R295). -/
  | cmpltuLongC (o : BinN Ucst4 Pair Reg)
  /-- DPINT .L1,.L2: src2 dp, dst sint (R460). -/
  | dpint (o : UnN Pair Reg)
  /-- DPSP .L1,.L2: src2 dp, dst sp (R461). -/
  | dpsp (o : UnN Pair Reg)
  /-- DPTRUNC .L1,.L2: src2 dp, dst sint (R462). -/
  | dptrunc (o : UnN Pair Reg)
  /-- INTDP .L1,.L2: src2 xsint, dst dp (R463). -/
  | intdp (o : Un Reg Pair)
  /-- INTDPU .L1,.L2: src2 xuint, dst dp (R464). -/
  | intdpu (o : Un Reg Pair)
  /-- INTSP .L1,.L2: src2 xsint, dst sp (R465). -/
  | intsp (o : Un Reg Reg)
  /-- INTSPU .L1,.L2: src2 xuint, dst sp (R466). -/
  | intspu (o : Un Reg Reg)
  /-- LMBD .L1,.L2: src1 uint, src2 xuint, dst uint (R273). -/
  | lmbd (o : Bin Reg Reg Reg)
  /-- LMBD .L1,.L2: src1 cst5, src2 xuint, dst uint (R273). -/
  | lmbdC (o : Bin Cst5 Reg Reg)
  /-- NORM .L1,.L2: src2 xsint, dst uint (R274). -/
  | norm (o : Un Reg Reg)
  /-- NORM .L1,.L2: src2 slong, dst uint (R274). -/
  | normLong (o : UnN Pair Reg)
  /-- OR .L1,.L2: src1 uint, src2 xuint, dst uint (R262). -/
  | orL (o : Bin Reg Reg Reg)
  /-- OR .L1,.L2: src1 scst5, src2 xuint, dst uint (R262). -/
  | orLC (o : Bin Cst5 Reg Reg)
  /-- SADD .L1,.L2: src1 sint, src2 xsint, dst sint (R230). -/
  | sadd (o : Bin Reg Reg Reg)
  /-- SADD .L1,.L2: src1 xsint, src2 slong, dst slong (R230). -/
  | saddLong (o : Bin Reg Pair Pair)
  /-- SADD .L1,.L2: src1 scst5, src2 xsint, dst sint (R230). -/
  | saddC (o : Bin Cst5 Reg Reg)
  /-- SADD .L1,.L2: src1 scst5, src2 slong, dst slong (R230). -/
  | saddLongC (o : BinN Cst5 Pair Pair)
  /-- SAT .L1,.L2: src2 slong, dst sint (R231). -/
  | sat (o : UnN Pair Reg)
  /-- SPINT .L1,.L2: src2 xsp, dst sint (R468). -/
  | spint (o : Un Reg Reg)
  /-- SPTRUNC .L1,.L2: src2 xsp, dst sint (R469). -/
  | sptrunc (o : Un Reg Reg)
  /-- SSUB .L1,.L2: src1 sint, src2 xsint, dst sint (R232). -/
  | ssub (o : Bin Reg Reg Reg)
  /-- SSUB .L1,.L2: src1 xsint, src2 sint, dst sint (R232). -/
  | ssubX (o : Bin Reg Reg Reg)
  /-- SSUB .L1,.L2: src1 scst5, src2 xsint, dst sint (R232). -/
  | ssubC (o : Bin Cst5 Reg Reg)
  /-- SSUB .L1,.L2: src1 scst5, src2 slong, dst slong (R232). -/
  | ssubLongC (o : BinN Cst5 Pair Pair)
  /-- SUB .L1,.L2: src1 sint, src2 xsint, dst sint (R233). -/
  | subL (o : Bin Reg Reg Reg)
  /-- SUB .L1,.L2: src1 xsint, src2 sint, dst sint (R233). -/
  | subLX (o : Bin Reg Reg Reg)
  /-- SUB .L1,.L2: src1 sint, src2 xsint, dst slong (R233). -/
  | subLWide (o : Bin Reg Reg Pair)
  /-- SUB .L1,.L2: src1 xsint, src2 sint, dst slong (R233). -/
  | subLWideX (o : Bin Reg Reg Pair)
  /-- SUB .L1,.L2: src1 scst5, src2 xsint, dst sint (R233). -/
  | subLC (o : Bin Cst5 Reg Reg)
  /-- SUB .L1,.L2: src1 scst5, src2 slong, dst slong (R233). -/
  | subLLongC (o : BinN Cst5 Pair Pair)
  /-- SUBU .L1,.L2: src1 uint, src2 xuint, dst ulong (R238). -/
  | subuWide (o : Bin Reg Reg Pair)
  /-- SUBU .L1,.L2: src1 xuint, src2 uint, dst ulong (R238). -/
  | subuWideX (o : Bin Reg Reg Pair)
  /-- SUBC .L1,.L2: src1 uint, src2 xuint, dst uint (R237). -/
  | subc (o : Bin Reg Reg Reg)
  /-- SUBSP .L1,.L2: src1 sp, src2 xsp, dst sp (R430). -/
  | subspL (o : Bin Reg Reg Reg)
  /-- SUBSP .L1,.L2: src1 xsp, src2 sp, dst sp (R430). -/
  | subspLX (o : Bin Reg Reg Reg)
  /-- SUBDP .L1,.L2: src1 dp, src2 xdp, dst dp (R432). -/
  | subdpL (o : Bin Pair Pair Pair)
  /-- SUBDP .L1,.L2: src1 xdp, src2 dp, dst dp (R432). -/
  | subdpLX (o : Bin Pair Pair Pair)
  /-- XOR .L1,.L2: src1 uint, src2 xuint, dst uint (R263). -/
  | xorL (o : Bin Reg Reg Reg)
  /-- XOR .L1,.L2: src1 scst5, src2 xuint, dst uint (R263). -/
  | xorLC (o : Bin Cst5 Reg Reg)
  /-- ABSDP .S1,.S2: src2 dp, dst dp (R435). -/
  | absdp (o : UnN Pair Pair)
  /-- ABSSP .S1,.S2: src2 xsp, dst sp (R434). -/
  | abssp (o : Un Reg Reg)
  /-- ADD .S1,.S2: src1 sint, src2 xsint, dst sint (R222). -/
  | addS (o : Bin Reg Reg Reg)
  /-- ADD .S1,.S2: src1 scst5, src2 xsint, dst sint (R222). -/
  | addSC (o : Bin Cst5 Reg Reg)
  /-- ADD2 .S1,.S2: src1 sint, src2 xsint, dst sint (R229). -/
  | add2 (o : Bin Reg Reg Reg)
  /-- AND .S1,.S2: src1 uint, src2 xuint, dst uint (R261). -/
  | andS (o : Bin Reg Reg Reg)
  /-- AND .S1,.S2: src1 scst5, src2 xuint, dst uint (R261). -/
  | andSC (o : Bin Cst5 Reg Reg)
  /-- CLR .S1,.S2: src1 uint, src2 xuint, dst uint (R269). -/
  | clrReg (o : Bin Reg Reg Reg)
  /-- CMPEQDP .S1,.S2: src1 dp, src2 xdp, dst sint (R452). -/
  | cmpeqdp (o : Bin Pair Pair Reg)
  /-- CMPEQSP .S1,.S2: src1 sp, src2 xsp, dst sint (R451). -/
  | cmpeqsp (o : Bin Reg Reg Reg)
  /-- CMPGTDP .S1,.S2: src1 dp, src2 xdp, dst sint (R454). -/
  | cmpgtdp (o : Bin Pair Pair Reg)
  /-- CMPGTSP .S1,.S2: src1 sp, src2 xsp, dst sint (R453). -/
  | cmpgtsp (o : Bin Reg Reg Reg)
  /-- CMPLTDP .S1,.S2: src1 dp, src2 xdp, dst sint (R456). -/
  | cmpltdp (o : Bin Pair Pair Reg)
  /-- CMPLTSP .S1,.S2: src1 sp, src2 xsp, dst sint (R455). -/
  | cmpltsp (o : Bin Reg Reg Reg)
  /-- EXT .S1,.S2: src1 uint, src2 xsint, dst sint (R271). -/
  | extReg (o : Bin Reg Reg Reg)
  /-- EXTU .S1,.S2: src1 uint, src2 xuint, dst uint (R272). -/
  | extuReg (o : Bin Reg Reg Reg)
  /-- OR .S1,.S2: src1 uint, src2 xuint, dst uint (R262). -/
  | orS (o : Bin Reg Reg Reg)
  /-- OR .S1,.S2: src1 scst5, src2 xuint, dst uint (R262). -/
  | orSC (o : Bin Cst5 Reg Reg)
  /-- RCPDP .S1,.S2: src2 dp, dst dp (R437). -/
  | rcpdp (o : UnN Pair Pair)
  /-- RCPSP .S1,.S2: src2 xsp, dst sp (R436). -/
  | rcpsp (o : Un Reg Reg)
  /-- RSQRDP .S1,.S2: src2 dp, dst dp (R439). -/
  | rsqrdp (o : UnN Pair Pair)
  /-- RSQRSP .S1,.S2: src2 xsp, dst sp (R438). -/
  | rsqrsp (o : Un Reg Reg)
  /-- SET .S1,.S2: src1 uint, src2 xuint, dst uint (R270). -/
  | setReg (o : Bin Reg Reg Reg)
  /-- SHL .S1,.S2: src1 uint, src2 xsint, dst sint (R265). -/
  | shl (o : Bin Reg Reg Reg)
  /-- SHL .S1,.S2: src1 uint, src2 slong, dst slong (R265). -/
  | shlLong (o : BinN Reg Pair Pair)
  /-- SHL .S1,.S2: src1 uint, src2 xuint, dst ulong (R265). -/
  | shlWide (o : Bin Reg Reg Pair)
  /-- SHL .S1,.S2: src1 ucst5, src2 xsint, dst sint (R265). -/
  | shlC (o : Bin Cst5 Reg Reg)
  /-- SHL .S1,.S2: src1 ucst5, src2 slong, dst slong (R265). -/
  | shlLongC (o : BinN Cst5 Pair Pair)
  /-- SHL .S1,.S2: src1 ucst5, src2 xuint, dst ulong (R265). -/
  | shlWideC (o : Bin Cst5 Reg Pair)
  /-- SHR .S1,.S2: src1 uint, src2 xsint, dst sint (R266). -/
  | shr (o : Bin Reg Reg Reg)
  /-- SHR .S1,.S2: src1 uint, src2 slong, dst slong (R266). -/
  | shrLong (o : BinN Reg Pair Pair)
  /-- SHR .S1,.S2: src1 ucst5, src2 xsint, dst sint (R266). -/
  | shrC (o : Bin Cst5 Reg Reg)
  /-- SHR .S1,.S2: src1 ucst5, src2 slong, dst slong (R266). -/
  | shrLongC (o : BinN Cst5 Pair Pair)
  /-- SHRU .S1,.S2: src1 uint, src2 xuint, dst uint (R267). -/
  | shru (o : Bin Reg Reg Reg)
  /-- SHRU .S1,.S2: src1 uint, src2 ulong, dst ulong (R267). -/
  | shruLong (o : BinN Reg Pair Pair)
  /-- SHRU .S1,.S2: src1 ucst5, src2 xuint, dst uint (R267). -/
  | shruC (o : Bin Cst5 Reg Reg)
  /-- SHRU .S1,.S2: src1 ucst5, src2 ulong, dst ulong (R267). -/
  | shruLongC (o : BinN Cst5 Pair Pair)
  /-- SPDP .S1,.S2: src2 xsp, dst dp (R467). -/
  | spdp (o : Un Reg Pair)
  /-- SSHL .S1,.S2: src1 uint, src2 xsint, dst sint (R268). -/
  | sshl (o : Bin Reg Reg Reg)
  /-- SSHL .S1,.S2: src1 ucst5, src2 xsint, dst sint (R268). -/
  | sshlC (o : Bin Cst5 Reg Reg)
  /-- SUB .S1,.S2: src1 sint, src2 xsint, dst sint (R233). -/
  | subS (o : Bin Reg Reg Reg)
  /-- SUB .S1,.S2: src1 scst5, src2 xsint, dst sint (R233). -/
  | subSC (o : Bin Cst5 Reg Reg)
  /-- SUB2 .S1,.S2: src1 sint, src2 xsint, dst sint (R239). -/
  | sub2 (o : Bin Reg Reg Reg)
  /-- XOR .S1,.S2: src1 uint, src2 xuint, dst uint (R263). -/
  | xorS (o : Bin Reg Reg Reg)
  /-- XOR .S1,.S2: src1 scst5, src2 xuint, dst uint (R263). -/
  | xorSC (o : Bin Cst5 Reg Reg)
  /-- ADD .D1,.D2: src1 sint, src2 sint, dst sint (R222). -/
  | addD (o : BinN Reg Reg Reg)
  /-- ADD .D1,.D2: src1 ucst5, src2 sint, dst sint (R222). -/
  | addDC (o : BinN Cst5 Reg Reg)
  /-- SUB .D1,.D2: src1 sint, src2 sint, dst sint (R233). -/
  | subD (o : BinN Reg Reg Reg)
  /-- SUB .D1,.D2: src1 ucst5, src2 sint, dst sint (R233). -/
  | subDC (o : BinN Cst5 Reg Reg)
  /-- ADDAB .D1,.D2: src1 sint, src2 sint, dst sint (R223). -/
  | addab (o : BinN Reg Reg Reg)
  /-- ADDAB .D1,.D2: src1 ucst5, src2 sint, dst sint (R223). -/
  | addabC (o : BinN Cst5 Reg Reg)
  /-- ADDAH .D1,.D2: src1 sint, src2 sint, dst sint (R225). -/
  | addah (o : BinN Reg Reg Reg)
  /-- ADDAH .D1,.D2: src1 ucst5, src2 sint, dst sint (R225). -/
  | addahC (o : BinN Cst5 Reg Reg)
  /-- ADDAW .D1,.D2: src1 sint, src2 sint, dst sint (R226). -/
  | addaw (o : BinN Reg Reg Reg)
  /-- ADDAW .D1,.D2: src1 ucst5, src2 sint, dst sint (R226). -/
  | addawC (o : BinN Cst5 Reg Reg)
  /-- ADDAD .D1,.D2: src1 sint, src2 sint, dst sint (R224). -/
  | addad (o : BinN Reg Reg Reg)
  /-- ADDAD .D1,.D2: src1 ucst5, src2 sint, dst sint (R224). -/
  | addadC (o : BinN Cst5 Reg Reg)
  /-- SUBAB .D1,.D2: src1 sint, src2 sint, dst sint (R234). -/
  | subab (o : BinN Reg Reg Reg)
  /-- SUBAB .D1,.D2: src1 ucst5, src2 sint, dst sint (R234). -/
  | subabC (o : BinN Cst5 Reg Reg)
  /-- SUBAH .D1,.D2: src1 sint, src2 sint, dst sint (R235). -/
  | subah (o : BinN Reg Reg Reg)
  /-- SUBAH .D1,.D2: src1 ucst5, src2 sint, dst sint (R235). -/
  | subahC (o : BinN Cst5 Reg Reg)
  /-- SUBAW .D1,.D2: src1 sint, src2 sint, dst sint (R236). -/
  | subaw (o : BinN Reg Reg Reg)
  /-- SUBAW .D1,.D2: src1 ucst5, src2 sint, dst sint (R236). -/
  | subawC (o : BinN Cst5 Reg Reg)
  /-- MPY .M1,.M2: src1 slsb16, src2 xslsb16, dst sint (R321). -/
  | mpy (o : Bin Reg Reg Reg)
  /-- MPY .M1,.M2: src1 scst5, src2 xslsb16, dst sint (R321). -/
  | mpyC (o : Bin Cst5 Reg Reg)
  /-- MPYU .M1,.M2: src1 ulsb16, src2 xulsb16, dst uint (R322). -/
  | mpyu (o : Bin Reg Reg Reg)
  /-- MPYUS .M1,.M2: src1 ulsb16, src2 xslsb16, dst sint (R323). -/
  | mpyus (o : Bin Reg Reg Reg)
  /-- MPYSU .M1,.M2: src1 slsb16, src2 xulsb16, dst sint (R324). -/
  | mpysu (o : Bin Reg Reg Reg)
  /-- MPYSU .M1,.M2: src1 scst5, src2 xulsb16, dst sint (R324). -/
  | mpysuC (o : Bin Cst5 Reg Reg)
  /-- MPYH .M1,.M2: src1 smsb16, src2 xsmsb16, dst sint (R325). -/
  | mpyh (o : Bin Reg Reg Reg)
  /-- MPYHU .M1,.M2: src1 umsb16, src2 xumsb16, dst uint (R326). -/
  | mpyhu (o : Bin Reg Reg Reg)
  /-- MPYHUS .M1,.M2: src1 umsb16, src2 xsmsb16, dst sint (R327). -/
  | mpyhus (o : Bin Reg Reg Reg)
  /-- MPYHSU .M1,.M2: src1 smsb16, src2 xumsb16, dst sint (R328). -/
  | mpyhsu (o : Bin Reg Reg Reg)
  /-- MPYHL .M1,.M2: src1 smsb16, src2 xslsb16, dst sint (R329). -/
  | mpyhl (o : Bin Reg Reg Reg)
  /-- MPYHLU .M1,.M2: src1 umsb16, src2 xulsb16, dst uint (R330). -/
  | mpyhlu (o : Bin Reg Reg Reg)
  /-- MPYHULS .M1,.M2: src1 umsb16, src2 xslsb16, dst sint (R331). -/
  | mpyhuls (o : Bin Reg Reg Reg)
  /-- MPYHSLU .M1,.M2: src1 smsb16, src2 xulsb16, dst sint (R332). -/
  | mpyhslu (o : Bin Reg Reg Reg)
  /-- MPYLH .M1,.M2: src1 slsb16, src2 xsmsb16, dst sint (R333). -/
  | mpylh (o : Bin Reg Reg Reg)
  /-- MPYLHU .M1,.M2: src1 ulsb16, src2 xumsb16, dst uint (R334). -/
  | mpylhu (o : Bin Reg Reg Reg)
  /-- MPYLUHS .M1,.M2: src1 ulsb16, src2 xsmsb16, dst sint (R335). -/
  | mpyluhs (o : Bin Reg Reg Reg)
  /-- MPYLSHU .M1,.M2: src1 slsb16, src2 xumsb16, dst sint (R336). -/
  | mpylshu (o : Bin Reg Reg Reg)
  /-- SMPY .M1,.M2: src1 slsb16, src2 xslsb16, dst sint (R337). -/
  | smpy (o : Bin Reg Reg Reg)
  /-- SMPYHL .M1,.M2: src1 smsb16, src2 xslsb16, dst sint (R339). -/
  | smpyhl (o : Bin Reg Reg Reg)
  /-- SMPYLH .M1,.M2: src1 slsb16, src2 xsmsb16, dst sint (R340). -/
  | smpylh (o : Bin Reg Reg Reg)
  /-- SMPYH .M1,.M2: src1 smsb16, src2 xsmsb16, dst sint (R338). -/
  | smpyh (o : Bin Reg Reg Reg)
  /-- MPYSP .M1,.M2: src1 sp, src2 xsp, dst sp (R416). -/
  | mpysp (o : Bin Reg Reg Reg)
  /-- MPYDP .M1,.M2: src1 dp, src2 xdp, dst dp (R418). -/
  | mpydp (o : Bin Pair Pair Pair)
  /-- MPYI .M1,.M2: src1 sint, src2 xsint, dst sint (R341). -/
  | mpyi (o : Bin Reg Reg Reg)
  /-- MPYI .M1,.M2: src1 cst5, src2 xsint, dst sint (R341). -/
  | mpyiC (o : Bin Cst5 Reg Reg)
  /-- MPYID .M1,.M2: src1 sint, src2 xsint, dst sdint (R342). -/
  | mpyid (o : Bin Reg Reg Pair)
  /-- MPYID .M1,.M2: src1 cst5, src2 xsint, dst sdint (R342). -/
  | mpyidC (o : Bin Cst5 Reg Pair)
  /-- MPYSPDP .M1,.M2: src1 sp, src2 xdp, dst dp (R420); C67x+ only. -/
  | mpyspdp (o : Bin Reg Pair Pair)
  /-- MPYSP2DP .M1,.M2: src1 sp, src2 xsp, dst dp (R421); C67x+ only. -/
  | mpysp2dp (o : Bin Reg Reg Pair)
  /-- B .S2 (R392). -/
  | bReg (o : BranchReg)
  /-- B_IRP .S2 (R393). -/
  | bIrp (o : Cond)
  /-- B_NRP .S2 (R394). -/
  | bNrp (o : Cond)
  /-- MVC .S2 (R305). -/
  | mvcRead (o : MvcRead)
  /-- MVC .S2 (R305). -/
  | mvcWrite (o : MvcWrite)
  /-- EXTU .S1,.S2 (R272). -/
  | extuConst (o : FieldOp)
  /-- EXT .S1,.S2 (R271). -/
  | extConst (o : FieldOp)
  /-- SET .S1,.S2 (R270). -/
  | setConst (o : FieldOp)
  /-- CLR .S1,.S2 (R269). -/
  | clrConst (o : FieldOp)
  /-- ADDK .S1,.S2 (R227). -/
  | addk (o : Const16)
  /-- MVK .S1,.S2 (R306). -/
  | mvk (o : Const16)
  /-- MVKH .S1,.S2 (R307). -/
  | mvkh (o : Const16)
  /-- B .S1,.S2 (R391). -/
  | bDisp (o : Disp)
  /-- LDHU .D1,.D2 (R373). -/
  | ldhu (o : Mem Reg)
  /-- LDHU .D2 (R374). -/
  | ldhuK (o : MemK)
  /-- LDBU .D1,.D2 (R370). -/
  | ldbu (o : Mem Reg)
  /-- LDBU .D2 (R371). -/
  | ldbuK (o : MemK)
  /-- LDB .D1,.D2 (R370). -/
  | ldb (o : Mem Reg)
  /-- LDB .D2 (R371). -/
  | ldbK (o : MemK)
  /-- STB .D1,.D2 (R377). -/
  | stb (o : Mem Reg)
  /-- STB .D2 (R378). -/
  | stbK (o : MemK)
  /-- LDH .D1,.D2 (R373). -/
  | ldh (o : Mem Reg)
  /-- LDH .D2 (R374). -/
  | ldhK (o : MemK)
  /-- STH .D1,.D2 (R379). -/
  | sth (o : Mem Reg)
  /-- STH .D2 (R380). -/
  | sthK (o : MemK)
  /-- LDW .D1,.D2 (R375). -/
  | ldw (o : Mem Reg)
  /-- LDW .D2 (R376). -/
  | ldwK (o : MemK)
  /-- STW .D1,.D2 (R381). -/
  | stw (o : Mem Reg)
  /-- STW .D2 (R382). -/
  | stwK (o : MemK)
  /-- LDDW .D1,.D2 (R372). -/
  | lddw (o : Mem Pair)
  /-- NOP 1 to NOP 8: the field holds the count less one (R395, R147). -/
  | nop (o : BitVec 3)
  /-- NOP 9 (R395, R147). -/
  | nop9
  /-- IDLE none (R396). -/
  | idle
  /-- MV, a pseudo-instruction (R300, R165). -/
  | mv (o : MvForm)
  /-- NEG, a pseudo-instruction (R240, R165). -/
  | neg (o : NegForm)
  /-- NOT, a pseudo-instruction (R264, R165). -/
  | not (o : NotForm)
  /-- ZERO, a pseudo-instruction (R241, R165). -/
  | zero (o : ZeroForm)
  /-- MVKL, a pseudo-instruction (R308, R165). -/
  | mvkl (o : Const32)
  /-- MVKLH, a pseudo-instruction (R307, R165). -/
  | mvklh (o : Const32)
  /-- ADDSP .S1,.S2 (R412). C67x+ only, encoding not known to the spec (R151). -/
  | addspS (o : Bin Reg Reg Reg)
  /-- ADDDP .S1,.S2 (R414). C67x+ only, encoding not known to the spec (R151). -/
  | adddpS (o : Bin Pair Pair Pair)
  /-- SUBSP .S1,.S2, or its reverse src2 - src1 (R430, 40_execution_model.md R180). C67x+ only, encodings not known to the
  spec (R151). -/
  | subspS (o : SubForm Reg)
  /-- SUBDP .S1,.S2, or its reverse src2 - src1 (R432, 40_execution_model.md R180). C67x+ only, encodings not known to the
  spec (R151). -/
  | subdpS (o : SubForm Pair)
deriving DecidableEq, Repr

end Sys2Proof
end

