-- ==== Sys2Proof/Machine/State.lean ====
section
/-! DEFINITION. The state of the machine as plain data: every piece the spec names (10_state.md), the hidden state of
the exposed pipeline (10_state.md R76), the device's parameters (00_scope.md R7), the inputs still to come
(60_exceptions.md R483), and the reasons a step can stop. `State.reset` is the machine right after reset. -/

namespace Sys2Proof.Machine

/-- A general register: its file and its number (10_state.md R20). -/
structure RegName where
  side : Side
  num : Reg
deriving DecidableEq, Repr

/-- The kinds of functional unit (40_execution_model.md R180). -/
inductive UnitKind where
  | l
  | s
  | m
  | d
deriving DecidableEq, Repr

/-- A functional unit: .L1 is `⟨.l, .a⟩` (40_execution_model.md R180). -/
structure FUnit where
  kind : UnitKind
  side : Side
deriving DecidableEq, Repr

/-- The timing types of 40_execution_model.md R173 and R175. -/
inductive Timing where
  | singleCycle
  | mul16
  | twoCycleDp
  | dpCompare
  | fourCycle
  | intdp
  | load
  | store
  | branch
  | mpysp2dp
  | adddp
  | mpyspdp
  | mpyi
  | mpyid
  | mpydp
  /-- NOP and IDLE: no unit, no read, no write. -/
  | none
deriving DecidableEq, Repr

/-- What an issued instruction occupies, by which the resource rules judge it and the packets after it
(40_execution_model.md R184 to R196). -/
structure Issue where
  unit : Option FUnit
  timing : Timing
  /-- x = 1: the side's cross path is in use. -/
  cross : Bool
  /-- The registers read in cycle i, i+1, ... (40_execution_model.md R177), conditions not counted. -/
  reads : List (List RegName)
  /-- A 40-bit source (R189). -/
  longRead : Bool
  /-- A 40-bit result (R189). -/
  longWrite : Bool
  /-- The T path of a load or store: the side of its data register (R188). -/
  tPath : Option Side
  /-- LDDW (R191). -/
  doubleword : Bool
deriving DecidableEq, Repr

/-- A register write in flight (40_execution_model.md R171): it lands at the end of the cycle that is `left` cycles
after the current one. While `watchLeft` cycles remain, a write landing on a register of `watch` makes the value free
(40_execution_model.md R177, 92_eei_decisions.md D2; log entry 16). -/
structure PendingWrite where
  reg : RegName
  value : Word
  left : Nat
  watch : List RegName
  watchLeft : Nat
deriving DecidableEq, Repr

/-- A saturation on its way to CSR.SAT (10_state.md R41). `value` is true, or a free bit where the spec leaves SAT
undefined (42_logic_shift_bitfield.md R268; log entry 11). -/
structure PendingSat where
  left : Nat
  value : Bool
deriving DecidableEq, Repr

/-- The floating-point configuration registers (10_state.md R62). -/
inductive FpReg where
  | fadcr
  | faucr
  | fmcr
deriving DecidableEq, Repr

/-- Warning bits on their way to one half of a configuration register (10_state.md R72). `mask` is every bit the
instruction could set, for the case that its sources changed under it (log entry 16). -/
structure PendingWarn where
  left : Nat
  reg : FpReg
  side : Side
  bits : BitVec 11
  mask : BitVec 11
  watch : List RegName
  watchLeft : Nat
deriving DecidableEq, Repr

/-- A taken branch in flight (46_branch_nop.md R390), or the service packet's address of an interrupt entry
(60_exceptions.md R497). -/
structure PendingBranch where
  target : Word
  left : Nat
deriving DecidableEq, Repr

/-- The power-down modes of CSR.PWRD (10_state.md R40). -/
inductive PowerMode where
  /-- 9h: PD1, wake by an enabled interrupt. -/
  | pd1Enabled
  /-- 11h: PD1, wake by an enabled or nonenabled interrupt. -/
  | pd1Any
  /-- 1Ah: PD2, wake by reset. -/
  | pd2
  /-- 1Ch: PD3, wake by reset. -/
  | pd3
deriving DecidableEq, Repr

/-- A control-register effect of the current cycle; it lands at the end of the cycle (10_state.md R32). -/
inductive ControlEffect where
  /-- MVC to the control register of this address (43_compare_move.md R305). -/
  | write (creg : BitVec 5) (value : Word)
  /-- B IRP: GIE takes PGIE (46_branch_nop.md R393). -/
  | restoreGie
  /-- B NRP: NMIE becomes 1 (46_branch_nop.md R394). -/
  | setNmie
  /-- The power-down state that follows a reserved PWRD value, none if the CPU runs on (93_implementation_defined.md U7;
  log entry 14). -/
  | enterPower (mode : Option PowerMode)
deriving DecidableEq, Repr

/-- The two halves of a floating-point configuration register: bits 26-16 for side B and 10-0 for side A
(10_state.md R64, R68); the other bits are reserved. -/
structure FpConfig where
  a : BitVec 11
  b : BitVec 11
deriving DecidableEq, Repr

/-- The inputs of one cycle (60_exceptions.md R483): NMI, INT4..INT15 (bit n-4), RESET, and the bytes that other bus
masters write in it, on a device that has such masters (20_memory.md R112). -/
structure CycleInput where
  nmi : Bool
  ints : BitVec 12
  reset : Bool
  external : List Host.Cell
deriving DecidableEq, Repr

/-- Memory: (address, byte) pairs, addresses strictly rising, no pair holding the byte an unlisted address reads as
(`blankByte` of Machine/Memory.lean, log entry 4). -/
abbrev Memory := List Host.Cell

/-- The machine (10_state.md). -/
structure State where
  /-- The device's parameters (00_scope.md R7); no step changes them. -/
  device : Device
  /-- A0..A31 (R20). -/
  fileA : Vector Word 32
  /-- B0..B31 (R20). -/
  fileB : Vector Word 32
  /-- The address of the next execute packet to enter E1 (R27). -/
  pc : Word
  /-- AMR bits 25-0 (R34). -/
  amr : BitVec 26
  /-- CSR.PWRD (R40). -/
  pwrd : BitVec 6
  /-- CSR.SAT (R41). -/
  sat : Bool
  /-- CSR.PCC (R43). -/
  pcc : BitVec 3
  /-- CSR.DCC (R43). -/
  dcc : BitVec 3
  /-- CSR.PGIE (R44). -/
  pgie : Bool
  /-- CSR.GIE (R45). -/
  gie : Bool
  /-- IER.IE4..IE15, bit n-4 (R49). -/
  ie : BitVec 12
  /-- IER.NMIE (R50). -/
  nmie : Bool
  /-- IFR.IF4..IF15, bit n-4 (R52). -/
  ifl : BitVec 12
  /-- IFR.NMIF (R52). -/
  nmif : Bool
  /-- ISTP.ISTB (R57). -/
  istb : BitVec 22
  /-- IRP (R55). -/
  irp : Word
  /-- NRP (R56). -/
  nrp : Word
  /-- FADCR (R64). -/
  fadcr : FpConfig
  /-- FAUCR (R68). -/
  faucr : FpConfig
  /-- FMCR (R70). -/
  fmcr : FpConfig
  /-- Register writes in flight, load data included (R76). -/
  writes : List PendingWrite
  /-- SAT sets in flight (R41). -/
  sats : List PendingSat
  /-- Warning bits in flight (R72). -/
  warns : List PendingWarn
  /-- Branches in flight (46_branch_nop.md R390, 60_exceptions.md R497). -/
  branches : List PendingBranch
  /-- Control-register effects of the current cycle (R32). -/
  controls : List ControlEffect
  /-- The ISR write of the cycle before, bit n-4 (R54). -/
  isrPend : BitVec 12
  /-- The ICR write of the cycle before, bit n-4 (R48). -/
  icrPend : BitVec 12
  /-- What issued in each of the last nine cycles, the latest first (40_execution_model.md R190). -/
  history : List (List Issue)
  /-- Further cycles of a multicycle NOP (46_branch_nop.md R395). -/
  nopLeft : Nat
  /-- The idle state (46_branch_nop.md R396). -/
  idle : Bool
  /-- The power-down state (60_exceptions.md R525). -/
  powerDown : Option PowerMode
  /-- Empty cycles left of an interrupt entry (60_exceptions.md R497). -/
  emptyLeft : Nat
  /-- int_in, reset_in and the writes of other bus masters from the current cycle on; after the list's end nothing arrives
  (60_exceptions.md R483, 20_memory.md R112). -/
  inputs : List CycleInput
  /-- Data memory, and the bytes both views share (20_memory.md R91). -/
  mem : Memory
  /-- The bytes only the fetch view sees (20_memory.md R91). -/
  pmem : Memory
  /-- The model's own: addresses stored to in the current cycle (20_memory.md R109). -/
  stored : List Nat
  /-- Addresses whose byte a fetch no longer knows, rising: shared bytes a store has changed, and bytes another bus master
  has written (20_memory.md R114; log entries 19 and 36). -/
  codeStores : List Nat
  /-- The model's own: how many free values have been drawn (log entry 7). -/
  free : Nat
deriving DecidableEq, Repr

/-- Why a step stops with a fault: for no reason at all, since this CPU has no synchronous exception and reports no error
(60_exceptions.md R480). -/
inductive Fault
deriving DecidableEq, Repr

/-- Why a step is refused. -/
inductive Refusal where
  /-- Raised by an arm of `exec` whose instruction has no meaning yet. Safe. -/
  | notModelled (mnemonic : String)
  /-- Raised by the fetch of a word that matches no row of the opcode table (30_encoding.md R150, R153). Safe: the
  hardware's behaviour is undefined. -/
  | unassignedEncoding
  /-- Raised by the fetch of a word with a reserved creg and z (30_encoding.md R131). Safe, likewise. -/
  | reservedCondition
  /-- Raised by the fetch of a load or store with a reserved mode (30_encoding.md R142). Safe, likewise. -/
  | reservedAddressingMode
  /-- Raised by the fetch of an instruction or a register the variant does not have (30_encoding.md R152). Safe. -/
  | notOnThisVariant
  /-- Raised by the fetch of more than eight words in one execute packet (30_encoding.md R124). Safe. -/
  | packetTooLong
  /-- Raised on a C67x by p = 1 in the last word of a fetch packet (30_encoding.md R125). Safe. -/
  | packetCrossesFetchPacket
  /-- Raised by two instructions of a packet on one unit (40_execution_model.md R184). Safe. -/
  | unitUsedTwice
  /-- Raised by an instruction on a locked unit (40_execution_model.md R174). Safe. -/
  | unitLocked
  /-- Raised by two uses of one cross path in a cycle (40_execution_model.md R186, R195). Safe. -/
  | crossPath
  /-- Raised by two loads or stores of a packet on one T path (40_execution_model.md R188). Safe. -/
  | loadStorePaths
  /-- Raised by two long reads or writes on a side, or a long read with a store (40_execution_model.md R189). Safe. -/
  | longPort
  /-- Raised by a long result on the side of an LDDW issued four cycles before (40_execution_model.md R191). Safe. -/
  | lddwAndLongWrite
  /-- Raised by more than four reads of one register in a cycle (40_execution_model.md R192). Safe. -/
  | registerReads
  /-- Raised by two writes of one unit in a cycle, or a spacing of two long multiplies that the table forbids
  (40_execution_model.md R185, R196). Safe. -/
  | writePortHazard
  /-- Raised by MVC to an address that names no writable control register (93_implementation_defined.md U6). Safe. -/
  | undefinedControlRegister
deriving DecidableEq, Repr

/-- The machine right after reset (10_state.md R78, 70_reset_and_hazards.md R541 to R546). Registers, IRP and NRP,
which the spec leaves indeterminate, hold 0 (log entries 2 and 3); the device is the standard one (log entries 1, 5
and 6); memory lists nothing (log entry 4). -/
def State.reset : State where
  device := Device.standard
  fileA := Vector.replicate 32 0#32
  fileB := Vector.replicate 32 0#32
  pc := 0#32
  amr := 0#26
  pwrd := 0#6
  sat := false
  pcc := 0#3
  dcc := 0#3
  pgie := false
  gie := false
  ie := 0#12
  nmie := false
  ifl := 0#12
  nmif := false
  istb := 0#22
  irp := 0#32
  nrp := 0#32
  fadcr := ⟨0#11, 0#11⟩
  faucr := ⟨0#11, 0#11⟩
  fmcr := ⟨0#11, 0#11⟩
  writes := []
  sats := []
  warns := []
  branches := []
  controls := []
  isrPend := 0#12
  icrPend := 0#12
  history := []
  nopLeft := 0
  idle := false
  powerDown := none
  emptyLeft := 0
  inputs := []
  mem := []
  pmem := []
  stored := []
  codeStores := []
  free := 0

end Sys2Proof.Machine
end

