-- ==== Sys2Proof/Machine/Memory.lean ====
section
/-! DEFINITION. Memory as a canonical list of cells, the byte order of multi-byte accesses (20_memory.md R97), what
stands behind an address in each of the two views (20_memory.md R104), and the inputs of the current cycle. -/

namespace Sys2Proof.Machine

/-- What an address that memory does not list reads as: DESIGN CHOICE 0 (log entry 4; 70_reset_and_hazards.md R546). -/
def blankByte : Byte := 0#8

/-- The byte at an address. -/
def readByte : Memory → Nat → Byte
  | [], _ => blankByte
  | (k, v) :: rest, a => if k = a then v else readByte rest a

/-- Memory with one byte changed, canonical when memory was. -/
def writeByte : Memory → Nat → Byte → Memory
  | [], a, b => if b = blankByte then [] else [(a, b)]
  | (k, v) :: rest, a, b =>
    if a < k then if b = blankByte then (k, v) :: rest else (a, b) :: (k, v) :: rest
    else if a = k then if b = blankByte then rest else (a, b) :: rest
    else (k, v) :: writeByte rest a b

/-- The canonical form: addresses of the 32-bit space, strictly rising, no blank byte listed. -/
def Memory.wf : Memory → Bool
  | [] => true
  | (k, v) :: rest => decide (k < 2 ^ 32) && v != blankByte && rest.all (fun c => k < c.1) && Memory.wf rest

/-- The value whose byte k is the k-th of the list. -/
def joinBytes : List Byte → Nat
  | [] => 0
  | b :: rest => b.toNat + 256 * joinBytes rest

/-- Bytes 0 to n-1 of a value. -/
def splitBytes (v : Nat) : Nat → List Byte
  | 0 => []
  | n + 1 => BitVec.ofNat 8 v :: splitBytes (v / 256) n

/-- The address of byte k of an n-byte value at `a` (20_memory.md R97). Addresses wrap modulo 2^32 (R90). -/
def laneAddress (e : Endian) (a : Word) (n k : Nat) : Nat :=
  match e with
  | .little => (a + BitVec.ofNat 32 k).toNat
  | .big => (a + BitVec.ofNat 32 (n - 1 - k)).toNat

/-- The addresses of bytes 0 to n-1 of a value at `a`, in the order of the value's bytes. -/
def laneAddresses (e : Endian) (a : Word) (n : Nat) : List Nat := (List.range n).map (laneAddress e a n)

/-- MemRead(a, n) (20_memory.md R97), as a natural number. -/
def memRead (e : Endian) (m : Memory) (a : Word) (n : Nat) : Nat := joinBytes ((laneAddresses e a n).map (readByte m))

/-- Bytes written one after another. -/
def writeBytes (m : Memory) : List (Nat × Byte) → Memory
  | [] => m
  | (a, b) :: rest => writeBytes (writeByte m a b) rest

/-- The region holds the address. -/
def Region.holds (r : Region) (a : Nat) : Bool := decide (r.base ≤ a) && decide (a < r.base + r.size)

/-- The region that speaks for an address in the load and store view. -/
def dataRegion (d : Device) (a : Nat) : Option Region := d.map.find? fun r => Region.holds r a && r.view != .fetch

/-- The region that speaks for an address in the fetch view. -/
def fetchRegion (d : Device) (a : Nat) : Option Region := d.map.find? fun r => Region.holds r a && r.view != .data

/-- Memory stands behind the address, neither nothing nor a peripheral register (20_memory.md R105). -/
def isMemory : Option Region → Bool
  | none => false
  | some r => r.kind == .memory

/-- Memory backs the byte in the load and store view. -/
def dataBacked (d : Device) (a : Nat) : Bool := isMemory (dataRegion d a)

/-- Memory backs the byte in the fetch view. -/
def fetchBacked (d : Device) (a : Nat) : Bool := isMemory (fetchRegion d a)

/-- The fetch view shares the byte with the load and store view (20_memory.md R104). -/
def fetchShares (d : Device) (a : Nat) : Bool :=
  match fetchRegion d a with
  | some r => r.view == .shared
  | none => false

/-- A rising list with one more address. -/
def insertAddress (a : Nat) : List Nat → List Nat
  | [] => [a]
  | k :: rest => if a < k then a :: k :: rest else if a = k then k :: rest else k :: insertAddress a rest

/-- A rising list with more addresses. -/
def insertAddresses (addrs rising : List Nat) : List Nat := addrs.foldr insertAddress rising

/-! The inputs of the current cycle. -/

/-- The input of the current cycle; after the schedule's end nothing arrives (60_exceptions.md R483). -/
def State.input (s : State) : CycleInput :=
  match s.inputs with
  | [] => ⟨false, 0#12, false, []⟩
  | c :: _ => c

/-- The bytes that other bus masters write in this cycle: none in the base model (20_memory.md R112). -/
def State.external (s : State) : List Host.Cell :=
  if s.device.externalWriters then s.input.external.filter fun c => decide (c.1 < 2 ^ 32) else []

/-- Another bus master writes the byte in this cycle. -/
def State.contested (s : State) (a : Nat) : Bool := s.external.any fun c => c.1 == a

end Sys2Proof.Machine
end

