-- ==== Sys2Proof/Machine/Operands.lean ====
section
/-! DEFINITION. The operand forms (30_encoding.md R149, 10_state.md R23, R24): registers through the same side or the
cross path, longs, doubles, constants, half-words, conditions, and circular addressing (45_load_store.md R365). -/

namespace Sys2Proof.Machine

/-- The value of a general register (10_state.md R20). -/
def State.reg (s : State) (n : RegName) : Word :=
  match n.side with
  | .a => s.fileA[n.num.toNat]'(n.num.isLt)
  | .b => s.fileB[n.num.toNat]'(n.num.isLt)

/-- The side a source comes from: the other one through the cross path (40_execution_model.md R186). -/
def crossSide (side : Side) (x : Bool) : Side := if x then side.other else side

/-- The even register of a pair on a side. -/
def lowName (side : Side) (p : Pair) : RegName := ⟨side, Pair.even p⟩

/-- The odd register of a pair on a side. -/
def highName (side : Side) (p : Pair) : RegName := ⟨side, Pair.odd p⟩

/-- A source on the unit's own side. -/
def State.src (s : State) (side : Side) (r : Reg) : Word := s.reg ⟨side, r⟩

/-- A source that the x bit may take through the cross path. -/
def State.srcX (s : State) (side : Side) (x : Bool) (r : Reg) : Word := s.reg ⟨crossSide side x, r⟩

/-- A 40-bit source: bits 7-0 of the odd register above the even register (10_state.md R24). -/
def State.srcLong (s : State) (side : Side) (p : Pair) : Long :=
  (s.reg (highName side p)).extractLsb' 0 8 ++ s.reg (lowName side p)

/-- A 64-bit source (10_state.md R23). -/
def State.srcDouble (s : State) (side : Side) (p : Pair) : Double := s.reg (highName side p) ++ s.reg (lowName side p)

/-- A 64-bit source that the x bit may take through the cross path. -/
def State.srcDoubleX (s : State) (side : Side) (x : Bool) (p : Pair) : Double := s.srcDouble (crossSide side x) p

/-- scst5, extended to 32 bits (30_encoding.md R149). -/
def scst (k : Cst5) : Word := k.signExtend 32

/-- scst5, extended to 40 bits (30_encoding.md R149). -/
def scstLong (k : Cst5) : Long := k.signExtend 40

/-- ucst5, extended to 32 bits (30_encoding.md R149). -/
def ucst (k : Cst5) : Word := k.setWidth 32

/-- ucst4, extended to 32 bits (30_encoding.md R149). -/
def ucst4 (k : Ucst4) : Word := k.setWidth 32

/-- Bits 15-0 (44_multiply.md R320). -/
def lsb16 (v : Word) : Half := v.extractLsb' 0 16

/-- Bits 31-16 (44_multiply.md R320). -/
def msb16 (v : Word) : Half := v.extractLsb' 16 16

/-- The register a condition tests (30_encoding.md R130). -/
def CondReg.name : CondReg → RegName
  | .b0 => ⟨.b, 0#5⟩
  | .b1 => ⟨.b, 1#5⟩
  | .b2 => ⟨.b, 2#5⟩
  | .a1 => ⟨.a, 1#5⟩
  | .a2 => ⟨.a, 2#5⟩

/-- The condition holds (30_encoding.md R130). -/
def State.holds (s : State) : Cond → Bool
  | .always => true
  | .nonzero r => s.reg (CondReg.name r) != 0#32
  | .zero r => s.reg (CondReg.name r) == 0#32

/-- The AMR mode of a base register: 0 for every register but A4-A7 and B4-B7 (10_state.md R34, R35). -/
def amrMode (amr : BitVec 26) (n : RegName) : BitVec 2 :=
  if n.num.extractLsb' 2 3 = 0b001#3 then
    amr.extractLsb' (2 * (n.num.extractLsb' 0 2).toNat + (match n.side with | .a => 0 | .b => 8)) 2
  else 0#2

/-- BK0 and BK1 (10_state.md R36). -/
def amrBlock (amr : BitVec 26) (second : Bool) : BitVec 5 :=
  if second then amr.extractLsb' 21 5 else amr.extractLsb' 16 5

/-- Circular addressing: bits N to 0 come from the sum, the others from the base (45_load_store.md R365). -/
def circular (n : BitVec 5) (b r : Word) : Word :=
  let low := BitVec.ofNat 32 (2 ^ (n.toNat + 1) - 1)
  (b &&& ~~~low) ||| (r &&& low)

end Sys2Proof.Machine
end

