-- ==== Sys2Proof/Machine/Flags.lean ====
section
/-! DEFINITION. The status computations: saturation and CSR.SAT (10_state.md R41), the floating-point warning bits and
rounding modes (10_state.md R64, R68), and the views of the control registers (10_state.md R31 to R70). -/

namespace Sys2Proof.Machine

/-- The exact result is outside the n-bit two's-complement range. -/
def overflows (n : Nat) (v : Int) : Bool := decide (v < -2 ^ (n - 1)) || decide (2 ^ (n - 1) ≤ v)

/-- sat32 and sat40: the integer clamped to n bits (00_scope.md R11). -/
def saturate (n : Nat) (v : Int) : BitVec n :=
  if v < -2 ^ (n - 1) then BitVec.ofInt n (-2 ^ (n - 1))
  else if 2 ^ (n - 1) ≤ v then BitVec.ofInt n (2 ^ (n - 1) - 1)
  else BitVec.ofInt n v

/-- NAN1 (10_state.md R64). -/
def warnNan1 : BitVec 11 := 0b00000000001#11

/-- NAN2. -/
def warnNan2 : BitVec 11 := 0b00000000010#11

/-- DEN1. -/
def warnDen1 : BitVec 11 := 0b00000000100#11

/-- DEN2. -/
def warnDen2 : BitVec 11 := 0b00000001000#11

/-- INVAL. -/
def warnInval : BitVec 11 := 0b00000010000#11

/-- INFO. -/
def warnInfo : BitVec 11 := 0b00000100000#11

/-- OVER. -/
def warnOver : BitVec 11 := 0b00001000000#11

/-- INEX. -/
def warnInex : BitVec 11 := 0b00010000000#11

/-- UNDER, UND in FAUCR. -/
def warnUnder : BitVec 11 := 0b00100000000#11

/-- UNORD, in FAUCR only (10_state.md R68). -/
def warnUnord : BitVec 11 := 0b01000000000#11

/-- DIV0, in FAUCR only (10_state.md R68). -/
def warnDiv0 : BitVec 11 := 0b10000000000#11

/-- The warnings of an add, subtract or multiply: every warning bit of FADCR or FMCR (10_state.md R64). -/
def warnArith : BitVec 11 := 0b00111111111#11

/-- The warnings of a compare (48_float_compare_convert.md R450). -/
def warnCompare : BitVec 11 := 0b01000011111#11

/-- A bit that is raised or not. -/
def warnIf (c : Bool) (bit : BitVec 11) : BitVec 11 := if c then bit else 0#11

/-- The half of a configuration register that a side's unit uses (10_state.md R64). -/
def FpConfig.half (c : FpConfig) : Side → BitVec 11
  | .a => c.a
  | .b => c.b

/-- A configuration register with warning bits raised in one half. -/
def FpConfig.raise (c : FpConfig) (side : Side) (bits : BitVec 11) : FpConfig :=
  match side with
  | .a => { c with a := c.a ||| bits }
  | .b => { c with b := c.b ||| bits }

/-- The configuration register of a name. -/
def State.fpConfig (s : State) : FpReg → FpConfig
  | .fadcr => s.fadcr
  | .faucr => s.faucr
  | .fmcr => s.fmcr

/-- RMODE of a unit, read when the instruction issues (10_state.md R65, 92_eei_decisions.md D7). FAUCR has no RMODE
field, and its instructions do not round. -/
def State.rmode (s : State) (r : FpReg) (side : Side) : BitVec 2 :=
  match r with
  | .fadcr => (s.fadcr.half side).extractLsb' 9 2
  | .fmcr => (s.fmcr.half side).extractLsb' 9 2
  | .faucr => 0#2

/-- The 32 bits of a floating-point configuration register (10_state.md R64, R33). -/
def FpConfig.bits (c : FpConfig) : Word := 0#5 ++ c.b ++ 0#5 ++ c.a

/-- The fields of a 32-bit value written to a floating-point configuration register (10_state.md R64, R33). -/
def FpConfig.ofBits (v : Word) : FpConfig := ⟨v.extractLsb' 0 11, v.extractLsb' 16 11⟩

/-- CSR (10_state.md R37). -/
def State.csr (s : State) : Word :=
  s.device.variant.cpuId ++ s.device.revisionId ++ s.pwrd ++ BitVec.ofBool s.sat ++
    BitVec.ofBool s.device.endian.enBit ++ s.pcc ++ s.dcc ++ BitVec.ofBool s.pgie ++ BitVec.ofBool s.gie

/-- IER (10_state.md R49): bit 0 always reads 1. -/
def State.ier (s : State) : Word := 0#16 ++ s.ie ++ 0#2 ++ BitVec.ofBool s.nmie ++ 1#1

/-- IFR (10_state.md R52): bit 0 always reads 0. -/
def State.ifr (s : State) : Word := 0#16 ++ s.ifl ++ 0#2 ++ BitVec.ofBool s.nmif ++ 0#1

/-- The number of the lowest set bit, counted from `n`. -/
def lowestFrom (bits : BitVec 12) (n : Nat) : Nat → Option Nat
  | 0 => none
  | fuel + 1 => if bits.getLsbD n then some n else lowestFrom bits (n + 1) fuel

/-- The least n in 4..15 whose bit n-4 is set: the highest priority (60_exceptions.md R485). -/
def lowestInt (bits : BitVec 12) : Option Nat := (lowestFrom bits 0 12).map (· + 4)

/-- HPEINT (10_state.md R59). -/
def State.hpeint (s : State) : BitVec 5 :=
  if s.nmif && s.nmie then 1#5
  else match lowestInt (s.ifl &&& s.ie) with
    | some n => BitVec.ofNat 5 n
    | none => 0#5

/-- ISTP (10_state.md R57, R59). -/
def State.istp (s : State) : Word := s.istb ++ s.hpeint ++ 0#5

/-- PCE1: the address of the fetch packet that holds the packet in E1 (10_state.md R28, 92_eei_decisions.md D3). -/
def State.pce1 (s : State) : Word := s.pc.extractLsb' 5 27 ++ 0#5

/-- The control register a read of an address gives, none where the spec defines none (10_state.md R31). -/
def State.control (s : State) (a : BitVec 5) : Option Word :=
  if a = 0#5 then some (0#6 ++ s.amr)
  else if a = 1#5 then some s.csr
  else if a = 2#5 then some s.ifr
  else if a = 4#5 then some s.ier
  else if a = 5#5 then some s.istp
  else if a = 6#5 then some s.irp
  else if a = 7#5 then some s.nrp
  else if a = 16#5 then some s.pce1
  else if a = 18#5 then some s.fadcr.bits
  else if a = 19#5 then some s.faucr.bits
  else if a = 20#5 then some s.fmcr.bits
  else none

/-- What a PWRD value means (10_state.md R40). -/
inductive PowerField where
  | run
  | down (m : PowerMode)
  | reserved
deriving DecidableEq, Repr

/-- The PWRD values (10_state.md R40). -/
def powerField (v : BitVec 6) : PowerField :=
  if v = 0x00#6 then .run
  else if v = 0x09#6 then .down .pd1Enabled
  else if v = 0x11#6 then .down .pd1Any
  else if v = 0x1A#6 then .down .pd2
  else if v = 0x1C#6 then .down .pd3
  else .reserved

end Sys2Proof.Machine
end

