-- ==== Sys2Proof/Machine/Ops.lean ====
section
/-! DEFINITION. The named operations over registers, memory and the exposed pipeline that every meaning is written
with: queueing results (40_execution_model.md R171), addresses, loads and stores (45_load_store.md R363 to R366),
taking an interrupt and returning from one (60_exceptions.md R497, R505). -/

namespace Sys2Proof.Machine

/-- A step's outcome. -/
abbrev Result := Host.Outcome State Fault Refusal

/-- A general register changed at once. -/
def State.setReg (s : State) (n : RegName) (v : Word) : State :=
  match n.side with
  | .a => { s with fileA := s.fileA.set n.num.toNat v n.num.isLt }
  | .b => { s with fileB := s.fileB.set n.num.toNat v n.num.isLt }

/-- A free word is drawn: the counter moves on, so the next one is another (log entry 7). -/
def State.draw (s : State) : State := { s with free := s.free + 1 }

/-- The free word that the next draw gives. -/
def State.freeWord (s : State) : Word := Config.freeWord s.free

/-- The effect of an instruction whose condition is true. With a false one it changes nothing (30_encoding.md R133). -/
def guarded (c : Cond) (s : State) (effect : Result) : Result := if s.holds c then effect else .next s

/-- `x[side dst] <-{left} v` (00_scope.md R11). -/
def State.putWord (s : State) (side : Side) (dst : Reg) (left : Nat) (v : Word) : State :=
  { s with writes := s.writes ++ [⟨⟨side, dst⟩, v, left, [], 0⟩] }

/-- A write whose instruction still reads its sources for `n` more cycles (40_execution_model.md R177). -/
def State.putWatched (s : State) (r : RegName) (left : Nat) (v : Word) (watch : List RegName) (n : Nat) : State :=
  { s with writes := s.writes ++ [⟨r, v, left, watch, n⟩] }

/-- `xl[dst] <- v`: the odd register's upper 24 bits become 0 (10_state.md R24). -/
def State.putLong (s : State) (side : Side) (p : Pair) (v : Long) : State :=
  (s.putWord side (Pair.even p) 0 (v.extractLsb' 0 32)).putWord side (Pair.odd p) 0 ((v.extractLsb' 32 8).setWidth 32)

/-- A 64-bit result: the low word lands at `left`, the high word one cycle later (40_execution_model.md R178). -/
def State.putDouble (s : State) (side : Side) (p : Pair) (left : Nat) (v : Double) (watch : List RegName) (n : Nat) :
    State :=
  (s.putWatched (lowName side p) left (v.extractLsb' 0 32) watch n).putWatched (highName side p) (left + 1)
    (v.extractLsb' 32 32) watch n

/-- A saturation: CSR.SAT changes one cycle after the result lands (10_state.md R41). -/
def State.putSat (s : State) (left : Nat) (v : Bool) : State := { s with sats := s.sats ++ [⟨left + 1, v⟩] }

/-- A clamped result that landed `left` cycles later, and SAT if it was clamped (41_integer_arith.md R230). -/
def State.noteOverflow (s : State) (left : Nat) (clamped : Bool) : State :=
  if clamped then s.putSat left true else s

/-- Warning bits that land with the instruction's last result word (10_state.md R72). -/
def State.putWarn (s : State) (r : FpReg) (side : Side) (left : Nat) (bits mask : BitVec 11) (watch : List RegName)
    (n : Nat) : State :=
  { s with warns := s.warns ++ [⟨left, r, side, bits, mask, watch, n⟩] }

/-- A taken branch: five delay slots (46_branch_nop.md R390). -/
def State.putBranch (s : State) (target : Word) : State := { s with branches := s.branches ++ [⟨target, 5⟩] }

/-- A control-register effect that lands at the end of the cycle (10_state.md R32). -/
def State.putControl (s : State) (e : ControlEffect) : State := { s with controls := s.controls ++ [e] }

/-- A conditional instruction with one 32-bit result. -/
def issueWord (c : Cond) (side : Side) (dst : Reg) (left : Nat) (v : Word) (s : State) : Result :=
  guarded c s (.next (s.putWord side dst left v))

/-- A conditional single-cycle instruction with a 40-bit result. -/
def issueLong (c : Cond) (side : Side) (dst : Pair) (v : Long) (s : State) : Result :=
  guarded c s (.next (s.putLong side dst v))

/-- A conditional instruction with a 32-bit result clamped from an exact integer. -/
def issueSat32 (c : Cond) (side : Side) (dst : Reg) (left : Nat) (v : Int) (s : State) : Result :=
  guarded c s (.next ((s.putWord side dst left (saturate 32 v)).noteOverflow left (overflows 32 v)))

/-- A conditional single-cycle instruction with a 40-bit result clamped from an exact integer. -/
def issueSat40 (c : Cond) (side : Side) (dst : Pair) (v : Int) (s : State) : Result :=
  guarded c s (.next ((s.putLong side dst (saturate 40 v)).noteOverflow 0 (overflows 40 v)))

/-- A conditional single-cycle instruction whose result the spec leaves undefined for some operands: then a free word
(log entries 11 and 12). -/
def issueOpen (c : Cond) (side : Side) (dst : Reg) (v : Option Word) (s : State) : Result :=
  guarded c s (match v with
    | some w => .next (s.putWord side dst 0 w)
    | none => .next (s.draw.putWord side dst 0 s.freeWord))

/-! Addresses (45_load_store.md R365, R366). -/

/-- amr_add and amr_sub for base register `n` of value `b` and scaled offset `o` (45_load_store.md R365), none in AMR
mode 3, where the address is undefined (93_implementation_defined.md U3). -/
def State.amrStep (s : State) (n : RegName) (b o : Word) (subtract : Bool) : Option Word :=
  let r := if subtract then b - o else b + o
  let m := amrMode s.amr n
  if m = 0#2 then some r
  else if m = 1#2 then some (circular (amrBlock s.amr false) b r)
  else if m = 2#2 then some (circular (amrBlock s.amr true) b r)
  else none

/-- A computed address, a free word where it is undefined (log entry 10). -/
def State.addressOr (s : State) (v : Option Word) : Word := v.getD s.freeWord

/-- The free word of an undefined address is used up. -/
def State.drawFor (s : State) (v : Option Word) : State := if v.isSome then s else s.draw

/-- A conditional single-cycle address calculation (41_integer_arith.md R223 to R226, R234 to R236). -/
def issueAddress (c : Cond) (side : Side) (dst : Reg) (v : Option Word) (s : State) : Result := issueOpen c side dst v s

/-- The scaled offset of a load or store (45_load_store.md R366, R367). -/
def State.offset {γ : Type} (s : State) (o : Mem γ) (sh : Nat) : Word :=
  match o.offset with
  | .cst k => ucst k <<< sh
  | .reg r => s.reg ⟨o.unit, r⟩ <<< sh

/-- The mode subtracts the offset (30_encoding.md R142). -/
def subtracts : AddrMode → Bool
  | .negOffset | .preDec | .postDec => true
  | .posOffset | .preInc | .postInc => false

/-- The base register plus or minus the offset (45_load_store.md R366). -/
def State.modified {γ : Type} (s : State) (o : Mem γ) (sh : Nat) : Option Word :=
  s.amrStep ⟨o.unit, o.base⟩ (s.reg ⟨o.unit, o.base⟩) (s.offset o sh) (subtracts o.mode)

/-- The effective address `ea` (45_load_store.md R366). -/
def State.effective {γ : Type} (s : State) (o : Mem γ) (sh : Nat) : Word :=
  match o.mode with
  | .postDec | .postInc => s.reg ⟨o.unit, o.base⟩
  | _ => s.addressOr (s.modified o sh)

/-- The state with the base-register update queued, if the mode has one, and the free word used up if the computed
address is undefined (45_load_store.md R366, R363). -/
def State.updateBase {γ : Type} (s : State) (o : Mem γ) (sh : Nat) : State :=
  match o.mode with
  | .negOffset | .posOffset => s.drawFor (s.modified o sh)
  | _ => (s.drawFor (s.modified o sh)).putWord o.unit o.base 0 (s.addressOr (s.modified o sh))

/-- The base register of a 15-bit-offset form (45_load_store.md R368). -/
def MemK.base (o : MemK) : RegName := ⟨.b, if o.fromB15 then 15#5 else 14#5⟩

/-- The effective address of a 15-bit-offset form: always linear (45_load_store.md R368). -/
def State.effectiveK (s : State) (o : MemK) (sh : Nat) : Word := s.reg (MemK.base o) + (o.ucst15.setWidth 32 <<< sh)

/-! Loads and stores. -/

/-- The address is a multiple of the access size (20_memory.md R101). -/
def aligned (ea : Word) (sz : Nat) : Bool := ea.toNat % sz == 0

/-- The address of the aligned container of an access (93_implementation_defined.md U12). -/
def container (ea : Word) (sz : Nat) : Word := ea - BitVec.ofNat 32 (ea.toNat % sz)

/-- The addresses a load or store of `sz` bytes at `ea` touches (20_memory.md R97). -/
def State.touched (s : State) (ea : Word) (sz : Nat) : List Nat :=
  laneAddresses s.device.endian (container ea sz) sz

/-- The access has the meaning the spec gives it: it is aligned (20_memory.md R102), and memory backs every byte of it
(R105; log entry 9). -/
def State.defines (s : State) (ea : Word) (sz : Nat) : Bool :=
  aligned ea sz && (s.touched ea sz).all (dataBacked s.device)

/-- What a load reads, none where the value is undefined: the access is misaligned, or some byte of it is not backed by
memory (20_memory.md R102, R105), or another bus master writes some byte of it in the same cycle (R112; log entry 36). -/
def State.load (s : State) (ea : Word) (sz : Nat) : Option Nat :=
  if s.defines ea sz && !(s.touched ea sz).any s.contested then some (memRead s.device.endian s.mem ea sz) else none

/-- One byte stored: a free one where a store of the same cycle has written it already (20_memory.md R109), or another bus
master writes it in this cycle (R112; log entry 36). -/
def State.storeByte (s : State) (a : Nat) (b : Byte) : State :=
  { s with
    mem := writeByte s.mem a (if a ∈ s.stored ∨ s.contested a = true then freeByte s.free else b)
    stored := a :: s.stored
    codeStores := if fetchShares s.device a then insertAddress a s.codeStores else s.codeStores
    free := s.free + 1 }

/-- Bytes stored one after another. -/
def State.storeBytes (s : State) : List (Nat × Byte) → State
  | [] => s
  | (a, b) :: rest => State.storeBytes (s.storeByte a b) rest

/-- Free bytes: what a store leaves in its container where the spec gives it no meaning (20_memory.md R102, R105). -/
def freeBytes (from_ : Nat) : Nat → List Byte
  | 0 => []
  | n + 1 => freeByte from_ :: freeBytes (from_ + 1) n

/-- A store of the low `sz` bytes of `v` (45_load_store.md R364). Misaligned, or where memory does not back it, it leaves
free bytes in its aligned container (93_implementation_defined.md U12; log entries 8 and 9). -/
def State.store (s : State) (ea : Word) (sz : Nat) (v : Word) : State :=
  if s.defines ea sz then s.storeBytes ((s.touched ea sz).zip (splitBytes v.toNat sz))
  else { s with free := s.free + sz }.storeBytes ((s.touched ea sz).zip (freeBytes s.free sz))

/-- The register write of a load, its value free where it is undefined (log entries 8 and 9). -/
def State.finishLoad (s : State) (side : Side) (dst : Reg) (extend : Nat → Word) : Option Nat → State
  | some v => s.putWord side dst 4 (extend v)
  | none => s.draw.putWord side dst 4 s.freeWord

/-- A load with a register or 5-bit offset (45_load_store.md R363): the base update lands now, the data at i+4. -/
def issueLoad (o : Mem Reg) (sh : Nat) (extend : Nat → Word) (s : State) : Result :=
  guarded o.cond s
    (.next ((s.updateBase o sh).finishLoad o.side o.data extend (s.load (s.effective o sh) (2 ^ sh))))

/-- A load with a 15-bit offset (45_load_store.md R368). -/
def issueLoadK (o : MemK) (sh : Nat) (extend : Nat → Word) (s : State) : Result :=
  guarded o.cond s (.next (s.finishLoad o.side o.data extend (s.load (s.effectiveK o sh) (2 ^ sh))))

/-- A store with a register or 5-bit offset (45_load_store.md R364). -/
def issueStore (o : Mem Reg) (sh : Nat) (s : State) : Result :=
  guarded o.cond s (.next ((s.updateBase o sh).store (s.effective o sh) (2 ^ sh) (s.src o.side o.data)))

/-- A store with a 15-bit offset (45_load_store.md R368). -/
def issueStoreK (o : MemK) (sh : Nat) (s : State) : Result :=
  guarded o.cond s (.next (s.store (s.effectiveK o sh) (2 ^ sh) (s.src o.side o.data)))

/-! Interrupts. -/

/-- The service fetch packet of interrupt n (60_exceptions.md R486). -/
def State.servicePacket (s : State) (n : Nat) : Word := (s.istb ++ 0#10) + BitVec.ofNat 32 (32 * n)

/-- What waking from a power-down mode does to CSR.PWRD (60_exceptions.md R525, 92_eei_decisions.md O4). -/
def State.clearPowerDown (s : State) : State :=
  { s with
    powerDown := none
    pwrd := if s.powerDown.isSome && s.device.pwrdClearedOnWake then 0#6 else s.pwrd }

/-- Interrupt n (1 for NMI, 4 to 15) is taken (60_exceptions.md R497): the return address is saved, the enables
change, the flag is cleared, the rest of a NOP or the idle state is abandoned. This is the first of seven empty cycles;
the service packet's address is on its way to `pc` as a branch target is, to be in E1 after the seventh. An `in_n` of the
same cycle sets the flag again when the cycle ends. -/
def State.takeInterrupt (s : State) (n : Nat) : State :=
  let t := { s.clearPowerDown with
    nopLeft := 0, idle := false, emptyLeft := 6, branches := s.branches ++ [PendingBranch.mk (s.servicePacket n) 6] }
  if n = 1 then { t with nrp := s.pc, nmie := false, nmif := false }
  else { t with irp := s.pc, pgie := s.gie, gie := false, ifl := s.ifl &&& ~~~(1#12 <<< (n - 4)) }

/-- B IRP: the branch of the return, and GIE takes PGIE at the end of this cycle (46_branch_nop.md R393). -/
def State.returnFromInterrupt (s : State) : State := (s.putBranch s.irp).putControl .restoreGie

/-- B NRP: the branch of the return, and NMIE is set at the end of this cycle (46_branch_nop.md R394). -/
def State.returnFromNmi (s : State) : State := (s.putBranch s.nrp).putControl .setNmie

end Sys2Proof.Machine
end

