-- ==== Sys2Proof/Machine/Arith.lean ====
section
/-! DEFINITION. The integer adds and subtracts (41_integer_arith.md): plain, long, unsigned, packed, saturating,
addressing-mode and constant forms, ABS and SUBC. All are single-cycle. -/

namespace Sys2Proof.Machine

/-- |n|, or the largest value for the most negative (R221), as an exact integer that `saturate` clamps. -/
def absInt (n : Int) : Int := if 0 ≤ n then n else -n

/-- Sum of the two 16-bit halves, each modulo 2^16 (R229). -/
def addHalves (a b : Word) : Word := (msb16 a + msb16 b) ++ (lsb16 a + lsb16 b)

/-- Difference of the two 16-bit halves, each modulo 2^16 (R239). -/
def subHalves (a b : Word) : Word := (msb16 a - msb16 b) ++ (lsb16 a - lsb16 b)

/-- One step of a restoring division (R237; agreement with the hardware for operands of 8000 0000h and above is
UNVERIFIED, log entry 37). -/
def divideStep (a b : Word) : Word := if b ≤ a then ((a - b) <<< 1) + 1#32 else a <<< 1

/-- ABS `xsint -> sint` (R221); SAT is not touched (92_eei_decisions.md D17). -/
def execAbs (o : Un Reg Reg) (s : State) : Result :=
  issueWord o.cond o.side o.dst 0 (saturate 32 (absInt (s.srcX o.side o.x o.src2).toInt)) s

/-- ABS `slong -> slong` (R221). -/
def execAbsLong (o : UnN Pair Pair) (s : State) : Result :=
  issueLong o.cond o.side o.dst (saturate 40 (absInt (s.srcLong o.side o.src2).toInt)) s

/-- ADD .L `sint, xsint, sint` (R222). -/
def execAddL (o : Bin Reg Reg Reg) (s : State) : Result :=
  issueWord o.cond o.side o.dst 0 (s.src o.side o.src1 + s.srcX o.side o.x o.src2) s

/-- ADD .L `sint, xsint, slong` (R222). -/
def execAddLWide (o : Bin Reg Reg Pair) (s : State) : Result :=
  issueLong o.cond o.side o.dst
    ((s.src o.side o.src1).signExtend 40 + (s.srcX o.side o.x o.src2).signExtend 40) s

/-- ADD .L `xsint, slong, slong` (R222). -/
def execAddLLong (o : Bin Reg Pair Pair) (s : State) : Result :=
  issueLong o.cond o.side o.dst ((s.srcX o.side o.x o.src1).signExtend 40 + s.srcLong o.side o.src2) s

/-- ADD .L `scst5, xsint, sint` (R222). -/
def execAddLC (o : Bin Cst5 Reg Reg) (s : State) : Result :=
  issueWord o.cond o.side o.dst 0 (scst o.src1 + s.srcX o.side o.x o.src2) s

/-- ADD .L `scst5, slong, slong` (R222). -/
def execAddLLongC (o : BinN Cst5 Pair Pair) (s : State) : Result :=
  issueLong o.cond o.side o.dst (scstLong o.src1 + s.srcLong o.side o.src2) s

/-- ADDU `uint, xuint, ulong` (R228). -/
def execAdduWide (o : Bin Reg Reg Pair) (s : State) : Result :=
  issueLong o.cond o.side o.dst ((s.src o.side o.src1).setWidth 40 + (s.srcX o.side o.x o.src2).setWidth 40) s

/-- ADDU `xuint, ulong, ulong` (R228). -/
def execAdduLong (o : Bin Reg Pair Pair) (s : State) : Result :=
  issueLong o.cond o.side o.dst ((s.srcX o.side o.x o.src1).setWidth 40 + s.srcLong o.side o.src2) s

/-- ADD .S `sint, xsint, sint` (R222). -/
def execAddS (o : Bin Reg Reg Reg) (s : State) : Result :=
  issueWord o.cond o.side o.dst 0 (s.src o.side o.src1 + s.srcX o.side o.x o.src2) s

/-- ADD .S `scst5, xsint, sint` (R222). -/
def execAddSC (o : Bin Cst5 Reg Reg) (s : State) : Result :=
  issueWord o.cond o.side o.dst 0 (scst o.src1 + s.srcX o.side o.x o.src2) s

/-- ADD .D `sint, sint, sint` (R222). -/
def execAddD (o : BinN Reg Reg Reg) (s : State) : Result :=
  issueWord o.cond o.side o.dst 0 (s.src o.side o.src2 + s.src o.side o.src1) s

/-- ADD .D `sint, ucst5, sint` (R222). -/
def execAddDC (o : BinN Cst5 Reg Reg) (s : State) : Result :=
  issueWord o.cond o.side o.dst 0 (s.src o.side o.src2 + ucst o.src1) s

/-- ADD2 (R229). -/
def execAdd2 (o : Bin Reg Reg Reg) (s : State) : Result :=
  issueWord o.cond o.side o.dst 0 (addHalves (s.src o.side o.src1) (s.srcX o.side o.x o.src2)) s

/-- ADDK: dst is source and destination (R227). -/
def execAddk (o : Const16) (s : State) : Result :=
  issueWord o.cond o.side o.dst 0 (s.src o.side o.dst + o.cst.signExtend 32) s

/-- SADD `sint, xsint, sint` (R230). -/
def execSadd (o : Bin Reg Reg Reg) (s : State) : Result :=
  issueSat32 o.cond o.side o.dst 0 ((s.src o.side o.src1).toInt + (s.srcX o.side o.x o.src2).toInt) s

/-- SADD `xsint, slong, slong` (R230). -/
def execSaddLong (o : Bin Reg Pair Pair) (s : State) : Result :=
  issueSat40 o.cond o.side o.dst ((s.srcX o.side o.x o.src1).toInt + (s.srcLong o.side o.src2).toInt) s

/-- SADD `scst5, xsint, sint` (R230). -/
def execSaddC (o : Bin Cst5 Reg Reg) (s : State) : Result :=
  issueSat32 o.cond o.side o.dst 0 (o.src1.toInt + (s.srcX o.side o.x o.src2).toInt) s

/-- SADD `scst5, slong, slong` (R230). -/
def execSaddLongC (o : BinN Cst5 Pair Pair) (s : State) : Result :=
  issueSat40 o.cond o.side o.dst (o.src1.toInt + (s.srcLong o.side o.src2).toInt) s

/-- SAT `slong -> sint` (R231). -/
def execSat (o : UnN Pair Reg) (s : State) : Result :=
  issueSat32 o.cond o.side o.dst 0 (s.srcLong o.side o.src2).toInt s

/-- SSUB `sint, xsint, sint` (R232). -/
def execSsub (o : Bin Reg Reg Reg) (s : State) : Result :=
  issueSat32 o.cond o.side o.dst 0 ((s.src o.side o.src1).toInt - (s.srcX o.side o.x o.src2).toInt) s

/-- SSUB `xsint, sint, sint`: src1 may come through the cross path (R232). -/
def execSsubX (o : Bin Reg Reg Reg) (s : State) : Result :=
  issueSat32 o.cond o.side o.dst 0 ((s.srcX o.side o.x o.src1).toInt - (s.src o.side o.src2).toInt) s

/-- SSUB `scst5, xsint, sint` (R232). -/
def execSsubC (o : Bin Cst5 Reg Reg) (s : State) : Result :=
  issueSat32 o.cond o.side o.dst 0 (o.src1.toInt - (s.srcX o.side o.x o.src2).toInt) s

/-- SSUB `scst5, slong, slong` (R232). -/
def execSsubLongC (o : BinN Cst5 Pair Pair) (s : State) : Result :=
  issueSat40 o.cond o.side o.dst (o.src1.toInt - (s.srcLong o.side o.src2).toInt) s

/-- SUB .L `sint, xsint, sint` (R233). -/
def execSubL (o : Bin Reg Reg Reg) (s : State) : Result :=
  issueWord o.cond o.side o.dst 0 (s.src o.side o.src1 - s.srcX o.side o.x o.src2) s

/-- SUB .L `xsint, sint, sint` (R233). -/
def execSubLX (o : Bin Reg Reg Reg) (s : State) : Result :=
  issueWord o.cond o.side o.dst 0 (s.srcX o.side o.x o.src1 - s.src o.side o.src2) s

/-- SUB .L `sint, xsint, slong` (R233). -/
def execSubLWide (o : Bin Reg Reg Pair) (s : State) : Result :=
  issueLong o.cond o.side o.dst
    ((s.src o.side o.src1).signExtend 40 - (s.srcX o.side o.x o.src2).signExtend 40) s

/-- SUB .L `xsint, sint, slong` (R233). -/
def execSubLWideX (o : Bin Reg Reg Pair) (s : State) : Result :=
  issueLong o.cond o.side o.dst
    ((s.srcX o.side o.x o.src1).signExtend 40 - (s.src o.side o.src2).signExtend 40) s

/-- SUB .L `scst5, xsint, sint`: constant minus register (R233). -/
def execSubLC (o : Bin Cst5 Reg Reg) (s : State) : Result :=
  issueWord o.cond o.side o.dst 0 (scst o.src1 - s.srcX o.side o.x o.src2) s

/-- SUB .L `scst5, slong, slong` (R233). -/
def execSubLLongC (o : BinN Cst5 Pair Pair) (s : State) : Result :=
  issueLong o.cond o.side o.dst (scstLong o.src1 - s.srcLong o.side o.src2) s

/-- SUB .S `sint, xsint, sint` (R233). -/
def execSubS (o : Bin Reg Reg Reg) (s : State) : Result :=
  issueWord o.cond o.side o.dst 0 (s.src o.side o.src1 - s.srcX o.side o.x o.src2) s

/-- SUB .S `scst5, xsint, sint` (R233). -/
def execSubSC (o : Bin Cst5 Reg Reg) (s : State) : Result :=
  issueWord o.cond o.side o.dst 0 (scst o.src1 - s.srcX o.side o.x o.src2) s

/-- SUB .D `sint, sint, sint`: the subtrahend is src1 (R233). -/
def execSubD (o : BinN Reg Reg Reg) (s : State) : Result :=
  issueWord o.cond o.side o.dst 0 (s.src o.side o.src2 - s.src o.side o.src1) s

/-- SUB .D `sint, ucst5, sint` (R233). -/
def execSubDC (o : BinN Cst5 Reg Reg) (s : State) : Result :=
  issueWord o.cond o.side o.dst 0 (s.src o.side o.src2 - ucst o.src1) s

/-- SUBU `uint, xuint, ulong` (R238). -/
def execSubuWide (o : Bin Reg Reg Pair) (s : State) : Result :=
  issueLong o.cond o.side o.dst ((s.src o.side o.src1).setWidth 40 - (s.srcX o.side o.x o.src2).setWidth 40) s

/-- SUBU `xuint, uint, ulong` (R238). -/
def execSubuWideX (o : Bin Reg Reg Pair) (s : State) : Result :=
  issueLong o.cond o.side o.dst ((s.srcX o.side o.x o.src1).setWidth 40 - (s.src o.side o.src2).setWidth 40) s

/-- SUBC (R237). -/
def execSubc (o : Bin Reg Reg Reg) (s : State) : Result :=
  issueWord o.cond o.side o.dst 0 (divideStep (s.src o.side o.src1) (s.srcX o.side o.x o.src2)) s

/-- SUB2 (R239). -/
def execSub2 (o : Bin Reg Reg Reg) (s : State) : Result :=
  issueWord o.cond o.side o.dst 0 (subHalves (s.src o.side o.src1) (s.srcX o.side o.x o.src2)) s

/-- The addressing-mode sum or difference of src2 and a register offset (R223 to R226, R234 to R236). -/
def State.addressReg (s : State) (o : BinN Reg Reg Reg) (sh : Nat) (subtract : Bool) : Option Word :=
  s.amrStep ⟨o.side, o.src2⟩ (s.src o.side o.src2) (s.src o.side o.src1 <<< sh) subtract

/-- The same with a constant offset. -/
def State.addressCst (s : State) (o : BinN Cst5 Reg Reg) (sh : Nat) (subtract : Bool) : Option Word :=
  s.amrStep ⟨o.side, o.src2⟩ (s.src o.side o.src2) (ucst o.src1 <<< sh) subtract

/-- ADDAB with a register (R223). -/
def execAddab (o : BinN Reg Reg Reg) (s : State) : Result :=
  issueAddress o.cond o.side o.dst (s.addressReg o 0 false) s

/-- ADDAB with a constant (R223). -/
def execAddabC (o : BinN Cst5 Reg Reg) (s : State) : Result :=
  issueAddress o.cond o.side o.dst (s.addressCst o 0 false) s

/-- ADDAH with a register (R225). -/
def execAddah (o : BinN Reg Reg Reg) (s : State) : Result :=
  issueAddress o.cond o.side o.dst (s.addressReg o 1 false) s

/-- ADDAH with a constant (R225). -/
def execAddahC (o : BinN Cst5 Reg Reg) (s : State) : Result :=
  issueAddress o.cond o.side o.dst (s.addressCst o 1 false) s

/-- ADDAW with a register (R226). -/
def execAddaw (o : BinN Reg Reg Reg) (s : State) : Result :=
  issueAddress o.cond o.side o.dst (s.addressReg o 2 false) s

/-- ADDAW with a constant (R226). -/
def execAddawC (o : BinN Cst5 Reg Reg) (s : State) : Result :=
  issueAddress o.cond o.side o.dst (s.addressCst o 2 false) s

/-- ADDAD with a register (R224). -/
def execAddad (o : BinN Reg Reg Reg) (s : State) : Result :=
  issueAddress o.cond o.side o.dst (s.addressReg o 3 false) s

/-- ADDAD with a constant (R224). -/
def execAddadC (o : BinN Cst5 Reg Reg) (s : State) : Result :=
  issueAddress o.cond o.side o.dst (s.addressCst o 3 false) s

/-- SUBAB with a register (R234). -/
def execSubab (o : BinN Reg Reg Reg) (s : State) : Result :=
  issueAddress o.cond o.side o.dst (s.addressReg o 0 true) s

/-- SUBAB with a constant (R234). -/
def execSubabC (o : BinN Cst5 Reg Reg) (s : State) : Result :=
  issueAddress o.cond o.side o.dst (s.addressCst o 0 true) s

/-- SUBAH with a register (R235). -/
def execSubah (o : BinN Reg Reg Reg) (s : State) : Result :=
  issueAddress o.cond o.side o.dst (s.addressReg o 1 true) s

/-- SUBAH with a constant (R235). -/
def execSubahC (o : BinN Cst5 Reg Reg) (s : State) : Result :=
  issueAddress o.cond o.side o.dst (s.addressCst o 1 true) s

/-- SUBAW with a register (R236). -/
def execSubaw (o : BinN Reg Reg Reg) (s : State) : Result :=
  issueAddress o.cond o.side o.dst (s.addressReg o 2 true) s

/-- SUBAW with a constant (R236). -/
def execSubawC (o : BinN Cst5 Reg Reg) (s : State) : Result :=
  issueAddress o.cond o.side o.dst (s.addressCst o 2 true) s

end Sys2Proof.Machine
end

