-- ==== Sys2Proof/Machine/Branch.lean ====
section
/-! DEFINITION. The branches, NOP and IDLE (46_branch_nop.md). -/

namespace Sys2Proof.Machine

/-- B with a displacement: relative to PCE1, the fetch packet's address (R391). -/
def execBDisp (o : Disp) (s : State) : Result :=
  guarded o.cond s (.next (s.putBranch (s.pce1 + (o.scst21.signExtend 32 <<< 2))))

/-- B with a register: read in the issue cycle (R392). -/
def execBReg (o : BranchReg) (s : State) : Result :=
  guarded o.cond s (.next (s.putBranch (s.srcX .b o.x o.src2)))

/-- B IRP (R393). -/
def execBIrp (c : Cond) (s : State) : Result := guarded c s (.next s.returnFromInterrupt)

/-- B NRP (R394). -/
def execBNrp (c : Cond) (s : State) : Result := guarded c s (.next s.returnFromNmi)

/-- `n` cycles follow in which nothing issues: of two NOPs in a packet the larger count rules (R395). -/
def State.pad (s : State) (n : Nat) : State := { s with nopLeft := max s.nopLeft n }

/-- NOP 1 to NOP 8: the field holds the count less one (R395). -/
def execNop (k : BitVec 3) (s : State) : Result := .next (s.pad k.toNat)

/-- NOP 9 (R395). -/
def execNop9 (s : State) : Result := .next (s.pad 8)

/-- IDLE: the cycles that follow are idle until an interrupt is taken or a branch lands (R396). -/
def execIdle (s : State) : Result := .next { s with idle := true }

end Sys2Proof.Machine
end

