-- ==== Sys2Proof/Machine/Compare.lean ====
section
/-! DEFINITION. The integer compares (43_compare_move.md R290 to R295). All are single-cycle. -/

namespace Sys2Proof.Machine

/-- 1 when the relation holds, else 0 (R290). -/
def truth (b : Bool) : Word := if b then 1#32 else 0#32

/-- CMPEQ `sint, xsint, uint` (R291). -/
def execCmpeq (o : Bin Reg Reg Reg) (s : State) : Result :=
  issueWord o.cond o.side o.dst 0 (truth ((s.src o.side o.src1).toInt == (s.srcX o.side o.x o.src2).toInt)) s

/-- CMPEQ `scst5, xsint, uint` (R291). -/
def execCmpeqC (o : Bin Cst5 Reg Reg) (s : State) : Result :=
  issueWord o.cond o.side o.dst 0 (truth (o.src1.toInt == (s.srcX o.side o.x o.src2).toInt)) s

/-- CMPEQ `xsint, slong, uint` (R291). -/
def execCmpeqLong (o : Bin Reg Pair Reg) (s : State) : Result :=
  issueWord o.cond o.side o.dst 0 (truth ((s.srcX o.side o.x o.src1).toInt == (s.srcLong o.side o.src2).toInt)) s

/-- CMPEQ `scst5, slong, uint` (R291). -/
def execCmpeqLongC (o : BinN Cst5 Pair Reg) (s : State) : Result :=
  issueWord o.cond o.side o.dst 0 (truth (o.src1.toInt == (s.srcLong o.side o.src2).toInt)) s

/-- CMPGT `sint, xsint, uint` (R292). -/
def execCmpgt (o : Bin Reg Reg Reg) (s : State) : Result :=
  issueWord o.cond o.side o.dst 0 (truth (decide ((s.srcX o.side o.x o.src2).toInt < (s.src o.side o.src1).toInt))) s

/-- CMPGT `scst5, xsint, uint` (R292). -/
def execCmpgtC (o : Bin Cst5 Reg Reg) (s : State) : Result :=
  issueWord o.cond o.side o.dst 0 (truth (decide ((s.srcX o.side o.x o.src2).toInt < o.src1.toInt))) s

/-- CMPGT `xsint, slong, uint` (R292). -/
def execCmpgtLong (o : Bin Reg Pair Reg) (s : State) : Result :=
  issueWord o.cond o.side o.dst 0 (truth (decide ((s.srcLong o.side o.src2).toInt < (s.srcX o.side o.x o.src1).toInt))) s

/-- CMPGT `scst5, slong, uint` (R292). -/
def execCmpgtLongC (o : BinN Cst5 Pair Reg) (s : State) : Result :=
  issueWord o.cond o.side o.dst 0 (truth (decide ((s.srcLong o.side o.src2).toInt < o.src1.toInt))) s

/-- CMPGTU `uint, xuint, uint` (R293). -/
def execCmpgtu (o : Bin Reg Reg Reg) (s : State) : Result :=
  issueWord o.cond o.side o.dst 0 (truth (decide ((s.srcX o.side o.x o.src2).toNat < (s.src o.side o.src1).toNat))) s

/-- CMPGTU `ucst4, xuint, uint` (R293). -/
def execCmpgtuC (o : Bin Ucst4 Reg Reg) (s : State) : Result :=
  issueWord o.cond o.side o.dst 0 (truth (decide ((s.srcX o.side o.x o.src2).toNat < o.src1.toNat))) s

/-- CMPGTU `xuint, ulong, uint` (R293). -/
def execCmpgtuLong (o : Bin Reg Pair Reg) (s : State) : Result :=
  issueWord o.cond o.side o.dst 0 (truth (decide ((s.srcLong o.side o.src2).toNat < (s.srcX o.side o.x o.src1).toNat))) s

/-- CMPGTU `ucst4, ulong, uint` (R293). -/
def execCmpgtuLongC (o : BinN Ucst4 Pair Reg) (s : State) : Result :=
  issueWord o.cond o.side o.dst 0 (truth (decide ((s.srcLong o.side o.src2).toNat < o.src1.toNat))) s

/-- CMPLT `sint, xsint, uint` (R294). -/
def execCmplt (o : Bin Reg Reg Reg) (s : State) : Result :=
  issueWord o.cond o.side o.dst 0 (truth (decide ((s.src o.side o.src1).toInt < (s.srcX o.side o.x o.src2).toInt))) s

/-- CMPLT `scst5, xsint, uint` (R294). -/
def execCmpltC (o : Bin Cst5 Reg Reg) (s : State) : Result :=
  issueWord o.cond o.side o.dst 0 (truth (decide (o.src1.toInt < (s.srcX o.side o.x o.src2).toInt))) s

/-- CMPLT `xsint, slong, uint` (R294). -/
def execCmpltLong (o : Bin Reg Pair Reg) (s : State) : Result :=
  issueWord o.cond o.side o.dst 0 (truth (decide ((s.srcX o.side o.x o.src1).toInt < (s.srcLong o.side o.src2).toInt))) s

/-- CMPLT `scst5, slong, uint` (R294). -/
def execCmpltLongC (o : BinN Cst5 Pair Reg) (s : State) : Result :=
  issueWord o.cond o.side o.dst 0 (truth (decide (o.src1.toInt < (s.srcLong o.side o.src2).toInt))) s

/-- CMPLTU `uint, xuint, uint` (R295). -/
def execCmpltu (o : Bin Reg Reg Reg) (s : State) : Result :=
  issueWord o.cond o.side o.dst 0 (truth (decide ((s.src o.side o.src1).toNat < (s.srcX o.side o.x o.src2).toNat))) s

/-- CMPLTU `ucst4, xuint, uint` (R295). -/
def execCmpltuC (o : Bin Ucst4 Reg Reg) (s : State) : Result :=
  issueWord o.cond o.side o.dst 0 (truth (decide (o.src1.toNat < (s.srcX o.side o.x o.src2).toNat))) s

/-- CMPLTU `xuint, ulong, uint` (R295). -/
def execCmpltuLong (o : Bin Reg Pair Reg) (s : State) : Result :=
  issueWord o.cond o.side o.dst 0 (truth (decide ((s.srcX o.side o.x o.src1).toNat < (s.srcLong o.side o.src2).toNat))) s

/-- CMPLTU `ucst4, ulong, uint` (R295). -/
def execCmpltuLongC (o : BinN Ucst4 Pair Reg) (s : State) : Result :=
  issueWord o.cond o.side o.dst 0 (truth (decide (o.src1.toNat < (s.srcLong o.side o.src2).toNat))) s

end Sys2Proof.Machine
end

