-- ==== Sys2Proof/Machine/Float.lean ====
section
/-! DEFINITION. Floating-point arithmetic on bit patterns (47_float_arith.md R400 to R411, 48_float_compare_convert.md
R450, R458): classes, exact values as integers times powers of two, `round_pack`, and the operations with the warning
bits they raise. Exact arithmetic is done on integers and rounded once. -/

namespace Sys2Proof.Machine

/-- A format: exponent and fraction widths (R401, R402). -/
structure FpFormat where
  expBits : Nat
  fracBits : Nat
deriving DecidableEq, Repr

/-- Single precision (R401). -/
def single : FpFormat := ⟨8, 23⟩

/-- Double precision (R402). -/
def double : FpFormat := ⟨11, 52⟩

/-- emax, the exponent field of infinities and NaNs (R403). -/
def FpFormat.emax (f : FpFormat) : Nat := 2 ^ f.expBits - 1

/-- The exponent bias (R401, R402). -/
def FpFormat.bias (f : FpFormat) : Nat := 2 ^ (f.expBits - 1) - 1

/-- The class of a pattern (R403). A normal number is `man * 2 ^ exp` with 2^p <= man < 2^(p+1), p the fraction width. -/
inductive Fp where
  | zero (neg : Bool)
  | denormal (neg : Bool)
  | normal (neg : Bool) (man : Nat) (exp : Int)
  | inf (neg : Bool)
  | nan (neg : Bool) (signalling : Bool)
deriving DecidableEq, Repr

/-- The class of the pattern `b` in format `f` (R401 to R403). -/
def unpack (f : FpFormat) (b : Nat) : Fp :=
  let frac := b % 2 ^ f.fracBits
  let e := b / 2 ^ f.fracBits % 2 ^ f.expBits
  let neg := b / 2 ^ (f.fracBits + f.expBits) % 2 == 1
  if e = f.emax then if frac = 0 then .inf neg else .nan neg (decide (frac < 2 ^ (f.fracBits - 1)))
  else if e = 0 then if frac = 0 then .zero neg else .denormal neg
  else .normal neg (2 ^ f.fracBits + frac) ((e : Int) - f.bias - f.fracBits)

/-- A pattern from its three fields. -/
def packFields (f : FpFormat) (neg : Bool) (e frac : Nat) : Nat :=
  (if neg then 2 ^ (f.fracBits + f.expBits) else 0) + e * 2 ^ f.fracBits + frac

/-- Signed zero (R403). -/
def packZero (f : FpFormat) (neg : Bool) : Nat := packFields f neg 0 0

/-- Signed infinity (R403). -/
def packInf (f : FpFormat) (neg : Bool) : Nat := packFields f neg f.emax 0

/-- NaN_out and signed NaN_out (R404). -/
def packNan (f : FpFormat) (neg : Bool) : Nat := packFields f neg f.emax (2 ^ f.fracBits - 1)

/-- Signed LFPN (R405). -/
def packLargest (f : FpFormat) (neg : Bool) : Nat := packFields f neg (f.emax - 1) (2 ^ f.fracBits - 1)

/-- Signed SFPN (R405). -/
def packSmallest (f : FpFormat) (neg : Bool) : Nat := packFields f neg 1 0

/-- A result pattern and the warning bits raised. -/
structure FpResult where
  bits : Nat
  warn : BitVec 11
deriving DecidableEq, Repr

/-- What a floating-point operation takes from the machine besides its operands: RMODE and the FP parameters (R410). -/
structure FpMode where
  rm : BitVec 2
  tie : TieRule
  tiny : TinyRule
  infoOnOverflow : Bool
deriving DecidableEq, Repr

/-- The mode of a unit whose configuration register is `r` (R400). -/
def State.fpMode (s : State) (r : FpReg) (side : Side) : FpMode :=
  ⟨s.rmode r side, s.device.tie, s.device.tiny, s.device.infoOnOverflow⟩

/-- The truncated quotient `q` with remainder `rem` of `d` is rounded away from zero (R411 step 1). -/
def roundsUp (m : FpMode) (neg : Bool) (q rem d : Nat) : Bool :=
  if m.rm = 0#2 then
    decide (d < 2 * rem) || (2 * rem == d && rem != 0 && (match m.tie with
      | .toEven => q % 2 == 1
      | .awayFromZero => true))
  else if m.rm = 1#2 then false
  else if m.rm = 2#2 then rem != 0 && !neg
  else rem != 0 && neg

/-- The overflow result (R411 step 2): an infinity unless the mode rounds toward it from the finite side. -/
def overflowResult (f : FpFormat) (m : FpMode) (neg : Bool) : FpResult :=
  if m.rm = 0#2 ∨ (m.rm = 2#2 ∧ neg = false) ∨ (m.rm = 3#2 ∧ neg = true) then
    ⟨packInf f neg, warnOver ||| warnInex ||| warnIf m.infoOnOverflow warnInfo⟩
  else ⟨packLargest f neg, warnOver ||| warnInex⟩

/-- The underflow result (R411 step 3): zero, or SFPN when the mode rounds away from zero. -/
def underflowResult (f : FpFormat) (m : FpMode) (neg : Bool) : FpResult :=
  if (m.rm = 2#2 ∧ neg = false) ∨ (m.rm = 3#2 ∧ neg = true) then ⟨packSmallest f neg, warnUnder ||| warnInex⟩
  else ⟨packZero f neg, warnUnder ||| warnInex⟩

/-- A positive integer scaled to p fraction bits: quotient, remainder and divisor of the bits that are cut off. -/
def scaleTo (man p : Nat) : Nat × Nat × Nat :=
  if man.log2 ≤ p then (man * 2 ^ (p - man.log2), 0, 1)
  else (man / 2 ^ (man.log2 - p), man % 2 ^ (man.log2 - p), 2 ^ (man.log2 - p))

/-- `round_pack` (R411) of the exact value `± man * 2 ^ exp`, man > 0. -/
def roundPack (f : FpFormat) (m : FpMode) (neg : Bool) (man : Nat) (exp : Int) : FpResult :=
  let (q, rem, d) := scaleTo man f.fracBits
  let e : Int := man.log2 + exp
  let r := if roundsUp m neg q rem d then q + 1 else q
  let carried := r == 2 ^ (f.fracBits + 1)
  let e' := if carried then e + 1 else e
  let frac := if carried then 0 else r - 2 ^ f.fracBits
  let tested := match m.tiny with
    | .afterRounding => e'
    | .beforeRounding => e
  if (f.bias : Int) < e' then overflowResult f m neg
  else if tested < 1 - (f.bias : Int) then underflowResult f m neg
  else ⟨packFields f neg (e' + f.bias).toNat frac, warnIf (rem != 0) warnInex⟩

/-- The NaN warnings of two sources (R409). -/
def nanWarn (a b : Fp) : BitVec 11 :=
  (match a with
    | .nan _ sig => warnNan1 ||| warnIf sig warnInval
    | _ => 0#11) |||
  (match b with
    | .nan _ sig => warnNan2 ||| warnIf sig warnInval
    | _ => 0#11)

/-- The class is NaN. -/
def Fp.isNan : Fp → Bool
  | .nan _ _ => true
  | _ => false

/-- DEN1 and DEN2 (R408). -/
def denWarn (a b : Fp) : BitVec 11 :=
  (match a with
    | .denormal _ => warnDen1
    | _ => 0#11) |||
  (match b with
    | .denormal _ => warnDen2
    | _ => 0#11)

/-- INEX for a denormal source taken as zero (R408). -/
def denInex (a b : Fp) : BitVec 11 := warnIf (denWarn a b != 0#11) warnInex

/-- A denormal source is taken as a zero of its sign (R408). -/
def Fp.flush : Fp → Fp
  | .denormal neg => .zero neg
  | x => x

/-- The sign of a pattern. -/
def Fp.neg : Fp → Bool
  | .zero n | .denormal n | .inf n | .normal n _ _ | .nan n _ => n

/-- The same value with its sign inverted (R430). -/
def Fp.negate : Fp → Fp
  | .zero n => .zero (!n)
  | .denormal n => .denormal (!n)
  | .normal n m e => .normal (!n) m e
  | .inf n => .inf (!n)
  | .nan n s => .nan n s

/-- A finite value as an exact integer times 2^exp. -/
def Fp.scaled (x : Fp) (exp : Int) : Int :=
  match x with
  | .normal n m e => (if n then -1 else 1) * ((m : Int) * 2 ^ (e - exp).toNat)
  | _ => 0

/-- The exponent of a finite value, at most `e`. -/
def Fp.expBelow (x : Fp) (e : Int) : Int :=
  match x with
  | .normal _ _ k => min k e
  | _ => e

/-- An exponent that both finite values are integers at. -/
def commonExp (a b : Fp) : Int :=
  match a with
  | .normal _ _ k => b.expBelow k
  | _ => match b with
    | .normal _ _ k => k
    | _ => 0

/-- The sum of two finite values, zeros counting as 0 (R412 step 5). -/
def addFinite (f : FpFormat) (m : FpMode) (a b : Fp) : FpResult :=
  let exp := commonExp a b
  let v := a.scaled exp + b.scaled exp
  if v = 0 then
    match a, b with
    | .zero x, .zero y => ⟨packZero f (if x == y then x else m.rm == 3#2), 0#11⟩
    | _, _ => ⟨packZero f (m.rm == 3#2), 0#11⟩
  else roundPack f m (decide (v < 0)) v.natAbs exp

/-- ADDSP and ADDDP (R412, R414): operands by class. An infinity with a denormal raises DENn and not INEX (R408; log
entry 27). -/
def addFp (f : FpFormat) (m : FpMode) (a b : Fp) : FpResult :=
  if a.isNan || b.isNan then ⟨packNan f false, nanWarn a b⟩
  else match a, b with
    | .inf x, .inf y =>
      if x == y then ⟨packInf f x, warnInfo⟩ else ⟨packNan f false, warnInval⟩
    | .inf x, _ => ⟨packInf f x, warnInfo ||| denWarn a b⟩
    | _, .inf y => ⟨packInf f y, warnInfo ||| denWarn a b⟩
    | _, _ =>
      let r := addFinite f m a.flush b.flush
      ⟨r.bits, r.warn ||| denWarn a b ||| denInex a b⟩

/-- SUBSP and SUBDP: the sum with src2's sign inverted (R430, R432). -/
def subFp (f : FpFormat) (m : FpMode) (a b : Fp) : FpResult := addFp f m a b.negate

/-- The multiplies (R416 to R421): operands by class, the result in format `f`. -/
def mulFp (f : FpFormat) (m : FpMode) (a b : Fp) : FpResult :=
  let neg := a.neg ^^ b.neg
  if a.isNan || b.isNan then ⟨packNan f neg, nanWarn a b⟩
  else match a, b with
    | .inf _, .zero _ | .inf _, .denormal _ | .zero _, .inf _ | .denormal _, .inf _ =>
      ⟨packNan f neg, warnInval ||| denWarn a b⟩
    | .inf _, _ | _, .inf _ => ⟨packInf f neg, warnInfo⟩
    | .normal _ m1 e1, .normal _ m2 e2 => roundPack f m neg (m1 * m2) (e1 + e2)
    | _, _ => ⟨packZero f neg, denWarn a b ||| denInex a b⟩

/-- ABSSP and ABSDP (R434, R435). DEDUCED: ABSDP of -0 is +0, as R434 says of ABSSP "after D0's ABSDP"; R435's "If src2 >= 0,
then src2 -> dst" can be read as leaving -0 (log entry 43). -/
def absFp (f : FpFormat) (x : Fp) (b : Nat) : FpResult :=
  match x with
  | .nan _ sig => ⟨packNan f false, warnNan2 ||| warnIf sig warnInval⟩
  | .denormal _ => ⟨packZero f false, warnInex ||| warnDen2⟩
  | .inf _ => ⟨packInf f false, warnInfo⟩
  | _ => ⟨b % 2 ^ (f.fracBits + f.expBits), 0#11⟩

/-! Reciprocal seeds (R436 to R439). The hardware's tables are free values held to what the spec states of them: sign,
exponent, and accuracy to the eighth binary position (log entry 29). -/

/-- |x * r - 1| < 2^-8 for x = m1 * 2^e1 and r = m2 * 2^e2 (R436). -/
def reciprocalClose (m1 : Nat) (e1 : Int) (m2 : Nat) (e2 : Int) : Bool :=
  let e := e1 + e2
  let p : Int := (m1 * m2 : Nat)
  match e with
  | .ofNat _ => false
  | .negSucc k =>
    let one : Int := 2 ^ (k + 1)
    decide (one * 255 < p * 256) && decide (p * 256 < one * 257)

/-- |r * sqrt x - 1| < 2^-8, that is (255/256)^2 < r^2 x < (257/256)^2 (R438). -/
def rsqrtClose (m1 : Nat) (e1 : Int) (m2 : Nat) (e2 : Int) : Bool :=
  let e := e1 + 2 * e2
  let p : Int := (m1 * (m2 * m2) : Nat)
  match e with
  | .ofNat _ => false
  | .negSucc k =>
    let one : Int := 2 ^ (k + 1)
    decide (one * 255 ^ 2 < p * 256 ^ 2) && decide (p * 256 ^ 2 < one * 257 ^ 2)

/-- The largest k-bit-deep r with r^2 <= n, built bit by bit. -/
def isqrtFrom (n r : Nat) : Nat → Nat
  | 0 => r
  | k + 1 => if (r + 2 ^ k) ^ 2 ≤ n then isqrtFrom n (r + 2 ^ k) k else isqrtFrom n r k

/-- The truncated reciprocal of a mantissa that is not a power of two: a p+1-bit mantissa. -/
def reciprocalMan (f : FpFormat) (man : Nat) : Nat := 2 ^ (2 * f.fracBits + 1) / man

/-- RCP of a normal number whose reciprocal is normal: the table's value if it keeps what R436 states, else the
truncated reciprocal, which keeps it too. A power of two has its exact reciprocal. -/
def reciprocalSeed (f : FpFormat) (table : Nat) (neg : Bool) (man : Nat) (exp : Int) : Nat :=
  let e := exp + f.fracBits
  if man = 2 ^ f.fracBits then packFields f neg (f.bias - e).toNat 0
  else match unpack f table with
    | .normal n m2 e2 =>
      if n == neg && e2 + f.fracBits == -e - 1 && reciprocalClose man exp m2 e2 then
        table % 2 ^ (f.fracBits + f.expBits + 1)
      else packFields f neg (f.bias - e - 1).toNat (reciprocalMan f man - 2 ^ f.fracBits)
    | _ => packFields f neg (f.bias - e - 1).toNat (reciprocalMan f man - 2 ^ f.fracBits)

/-- RCPSP and RCPDP (R436, R437). -/
def rcpFp (f : FpFormat) (table : Nat) (x : Fp) : FpResult :=
  match x with
  | .nan _ sig => ⟨packNan f false, warnNan2 ||| warnIf sig warnInval⟩
  | .denormal n => ⟨packInf f n, warnDiv0 ||| warnInfo ||| warnOver ||| warnInex ||| warnDen2⟩
  | .zero n => ⟨packInf f n, warnDiv0 ||| warnInfo⟩
  | .inf n => ⟨packZero f n, 0#11⟩
  | .normal n man exp =>
    let e := exp + f.fracBits
    if (f.bias : Int) - 1 < e ∨ ((f.bias : Int) - 1 = e ∧ man ≠ 2 ^ f.fracBits) then
      ⟨packZero f n, warnUnder ||| warnInex⟩
    else ⟨reciprocalSeed f table n man exp, 0#11⟩

/-- The truncated 1/sqrt of a normal number that is not a power of four: a p+1-bit mantissa. -/
def rsqrtMan (f : FpFormat) (man : Nat) (odd : Bool) : Nat :=
  isqrtFrom (2 ^ (3 * f.fracBits + (if odd then 1 else 2)) / man) 0 (f.fracBits + 1)

/-- RSQR of a positive normal number: the table's value if it keeps what R438 states, else the truncated value. A power
of four has its exact value. -/
def rsqrtSeed (f : FpFormat) (table : Nat) (man : Nat) (exp : Int) : Nat :=
  let e := exp + f.fracBits
  let half := e / 2
  let odd := e % 2 == 1
  if man = 2 ^ f.fracBits ∧ odd = false then packFields f false (f.bias - half).toNat 0
  else
    let kept := packFields f false (f.bias - half - 1).toNat (rsqrtMan f man odd - 2 ^ f.fracBits)
    match unpack f table with
    | .normal n m2 e2 =>
      if !n && e2 + f.fracBits == -half - 1 && rsqrtClose man exp m2 e2 then
        table % 2 ^ (f.fracBits + f.expBits + 1)
      else kept
    | _ => kept

/-- RSQRSP and RSQRDP (R438, R439). -/
def rsqrFp (f : FpFormat) (table : Nat) (x : Fp) : FpResult :=
  match x with
  | .nan _ sig => ⟨packNan f false, warnNan2 ||| warnIf sig warnInval⟩
  | .denormal n => ⟨packInf f n, warnDiv0 ||| warnInfo ||| warnOver ||| warnInex ||| warnDen2⟩
  | .zero n => ⟨packInf f n, warnDiv0 ||| warnInfo⟩
  | .inf false => ⟨packZero f false, 0#11⟩
  | .inf true => ⟨packNan f false, warnInval⟩
  | .normal true _ _ => ⟨packNan f false, warnInval⟩
  | .normal false man exp => ⟨rsqrtSeed f table man exp, 0#11⟩

/-! Compares and conversions. -/

/-- The relations of the floating-point compares (48_float_compare_convert.md R450). -/
inductive FpRelation where
  | equal
  | greater
  | less
deriving DecidableEq, Repr

/-- -1, 0 or 1 as a is below, equal to or above b, neither a NaN: +0 = -0, infinities outermost (R450). -/
def compareFp (a b : Fp) : Int :=
  match a, b with
  | .inf x, .inf y => if x == y then 0 else if x then -1 else 1
  | .inf x, _ => if x then -1 else 1
  | _, .inf y => if y then 1 else -1
  | _, _ =>
    let exp := commonExp a.flush b.flush
    Int.sign (a.flush.scaled exp - b.flush.scaled exp)

/-- The relation holds of a comparison. -/
def FpRelation.holds : FpRelation → Int → Bool
  | .equal, c => c == 0
  | .greater, c => decide (0 < c)
  | .less, c => decide (c < 0)

/-- The six compares (R450): 1 or 0, and the warnings. An ordered compare of a quiet NaN raises INVAL too.
DESIGN CHOICE: a compare of a NaN with a denormal raises no DENn; R450 does not say whether its step 2 applies beside
its step 1 (log entry 44). -/
def relateFp (r : FpRelation) (a b : Fp) : Bool × BitVec 11 :=
  if a.isNan || b.isNan then
    (false, warnUnord ||| nanWarn a b ||| warnIf (r != .equal) warnInval)
  else (r.holds (compareFp a b), denWarn a b)

/-- A value `± man * 2 ^ exp` rounded to an integer by `m`, and whether it was exact (R458). -/
def roundInt (m : FpMode) (neg : Bool) (man : Nat) (exp : Int) : Int × Bool :=
  match exp with
  | .ofNat k => ((if neg then -1 else 1) * ((man * 2 ^ k : Nat) : Int), true)
  | .negSucc k =>
    let d := 2 ^ (k + 1)
    let q := man / d
    let rem := man % d
    let r := if roundsUp m neg q rem d then q + 1 else q
    ((if neg then -1 else 1) * (r : Int), rem == 0)

/-- The 32-bit result of a conversion that saturates (R458). -/
def intLimit (neg : Bool) : Nat := if neg then 0x80000000 else 0x7FFFFFFF

/-- `to_int` (R458). -/
def toInt32 (m : FpMode) (x : Fp) : FpResult :=
  match x with
  | .nan n _ => ⟨intLimit n, warnInval ||| warnNan2⟩
  | .inf n => ⟨intLimit n, warnInex ||| warnOver⟩
  | .denormal _ => ⟨0, warnInex ||| warnDen2⟩
  | .zero _ => ⟨0, 0#11⟩
  | .normal n man exp =>
    let (v, exact) := roundInt m n man exp
    if overflows 32 v then ⟨intLimit n, warnInex ||| warnOver⟩
    else ⟨(BitVec.ofInt 32 v).toNat, warnIf (!exact) warnInex⟩

/-- An integer converted to a floating-point number (R463 to R466): 0 gives +0. -/
def fromInt (f : FpFormat) (m : FpMode) (v : Int) : FpResult :=
  if v = 0 then ⟨packZero f false, 0#11⟩ else roundPack f m (decide (v < 0)) v.natAbs 0

/-- DPSP and SPDP (R461, R467): the value in another format. -/
def convertFp (f : FpFormat) (m : FpMode) (x : Fp) : FpResult :=
  match x with
  | .nan _ sig => ⟨packNan f false, warnNan2 ||| warnIf sig warnInval⟩
  | .denormal n => ⟨packZero f n, warnInex ||| warnDen2⟩
  | .inf n => ⟨packInf f n, warnInfo⟩
  | .zero n => ⟨packZero f n, 0#11⟩
  | .normal n man exp => roundPack f m n man exp

/-! Issuing. -/

/-- A conditional instruction with a single-precision or 32-bit result and its warnings, both landing at `left`. -/
def issueFp32 (c : Cond) (side : Side) (dst : Reg) (left : Nat) (cfg : FpReg) (mask : BitVec 11) (r : FpResult)
    (watch : List RegName) (n : Nat) (s : State) : Result :=
  guarded c s (.next ((s.putWatched ⟨side, dst⟩ left (BitVec.ofNat 32 r.bits) watch n).putWarn cfg side left r.warn
    mask watch n))

/-- A conditional instruction with a double-precision result: the low word lands at `left`, the high word and the
warnings one cycle later (40_execution_model.md R178, 10_state.md R72). -/
def issueFp64 (c : Cond) (side : Side) (dst : Pair) (left : Nat) (cfg : FpReg) (mask : BitVec 11) (r : FpResult)
    (watch : List RegName) (n : Nat) (s : State) : Result :=
  guarded c s (.next ((s.putDouble side dst left (BitVec.ofNat 64 r.bits) watch n).putWarn cfg side (left + 1) r.warn
    mask watch n))

/-- A single-precision register by class. -/
def sp (v : Word) : Fp := unpack single v.toNat

/-- A double-precision pair by class. -/
def dp (v : Double) : Fp := unpack double v.toNat

end Sys2Proof.Machine
end

