-- ==== Sys2Proof/Machine/FloatArith.lean ====
section
/-! DEFINITION. The floating-point adds, subtracts, multiplies, absolute values and reciprocal seeds
(47_float_arith.md R412 to R439), with the timing of 40_execution_model.md R173 and R177. -/

namespace Sys2Proof.Machine

/-- The four source registers of a two-pair instruction whose pairs come from these sides. -/
def pairNames (side1 side2 : Side) (p q : Pair) : List RegName :=
  [lowName side1 p, highName side1 p, lowName side2 q, highName side2 q]

/-- ADDSP .L (R412). -/
def execAddspL (o : Bin Reg Reg Reg) (s : State) : Result :=
  issueFp32 o.cond o.side o.dst 3 .fadcr warnArith
    (addFp single (s.fpMode .fadcr o.side) (sp (s.src o.side o.src1)) (sp (s.srcX o.side o.x o.src2))) [] 0 s

/-- ADDSP .S, C67x+ only: rounds by and warns in FADCR (R412, 10_state.md R66). -/
def execAddspS (o : Bin Reg Reg Reg) (s : State) : Result :=
  issueFp32 o.cond o.side o.dst 3 .fadcr warnArith
    (addFp single (s.fpMode .fadcr o.side) (sp (s.src o.side o.src1)) (sp (s.srcX o.side o.x o.src2))) [] 0 s

/-- ADDDP .L (R414). -/
def execAdddpL (o : Bin Pair Pair Pair) (s : State) : Result :=
  issueFp64 o.cond o.side o.dst 5 .fadcr warnArith
    (addFp double (s.fpMode .fadcr o.side) (dp (s.srcDouble o.side o.src1)) (dp (s.srcDoubleX o.side o.x o.src2)))
    (pairNames o.side (crossSide o.side o.x) o.src1 o.src2) 1 s

/-- ADDDP .S, C67x+ only (R414, 10_state.md R66). -/
def execAdddpS (o : Bin Pair Pair Pair) (s : State) : Result :=
  issueFp64 o.cond o.side o.dst 5 .fadcr warnArith
    (addFp double (s.fpMode .fadcr o.side) (dp (s.srcDouble o.side o.src1)) (dp (s.srcDoubleX o.side o.x o.src2)))
    (pairNames o.side (crossSide o.side o.x) o.src1 o.src2) 1 s

/-- SUBSP .L `sp, xsp, sp` (R430). -/
def execSubspL (o : Bin Reg Reg Reg) (s : State) : Result :=
  issueFp32 o.cond o.side o.dst 3 .fadcr warnArith
    (subFp single (s.fpMode .fadcr o.side) (sp (s.src o.side o.src1)) (sp (s.srcX o.side o.x o.src2))) [] 0 s

/-- SUBSP .L `xsp, sp, sp` (R430). -/
def execSubspLX (o : Bin Reg Reg Reg) (s : State) : Result :=
  issueFp32 o.cond o.side o.dst 3 .fadcr warnArith
    (subFp single (s.fpMode .fadcr o.side) (sp (s.srcX o.side o.x o.src1)) (sp (s.src o.side o.src2))) [] 0 s

/-- src1 - src2, or the reverse subtract src2 - src1 of the C67x+ .S unit (R430, 40_execution_model.md R180). The reverse is
-src1 + src2, so that NAN1 and DEN1 still speak of src1 (log entry 31). -/
def subEither (f : FpFormat) (m : FpMode) (a b : Fp) (reverse : Bool) : FpResult :=
  if reverse then addFp f m a.negate b else subFp f m a b

/-- SUBSP .S and its reverse, C67x+ only (R430, 10_state.md R66; log entry 31). -/
def execSubspS (o : SubForm Reg) (s : State) : Result :=
  issueFp32 o.cond o.side o.dst 3 .fadcr warnArith
    (subEither single (s.fpMode .fadcr o.side) (sp (s.src o.side o.src1)) (sp (s.srcX o.side o.x o.src2)) o.reverse) [] 0 s

/-- SUBDP .L `dp, xdp, dp` (R432). -/
def execSubdpL (o : Bin Pair Pair Pair) (s : State) : Result :=
  issueFp64 o.cond o.side o.dst 5 .fadcr warnArith
    (subFp double (s.fpMode .fadcr o.side) (dp (s.srcDouble o.side o.src1)) (dp (s.srcDoubleX o.side o.x o.src2)))
    (pairNames o.side (crossSide o.side o.x) o.src1 o.src2) 1 s

/-- SUBDP .L `xdp, dp, dp` (R432). -/
def execSubdpLX (o : Bin Pair Pair Pair) (s : State) : Result :=
  issueFp64 o.cond o.side o.dst 5 .fadcr warnArith
    (subFp double (s.fpMode .fadcr o.side) (dp (s.srcDoubleX o.side o.x o.src1)) (dp (s.srcDouble o.side o.src2)))
    (pairNames (crossSide o.side o.x) o.side o.src1 o.src2) 1 s

/-- SUBDP .S and its reverse, C67x+ only (R432, 10_state.md R66; log entry 31). -/
def execSubdpS (o : SubForm Pair) (s : State) : Result :=
  issueFp64 o.cond o.side o.dst 5 .fadcr warnArith
    (subEither double (s.fpMode .fadcr o.side) (dp (s.srcDouble o.side o.src1)) (dp (s.srcDoubleX o.side o.x o.src2))
      o.reverse)
    (pairNames o.side (crossSide o.side o.x) o.src1 o.src2) 1 s

/-- MPYSP (R416). -/
def execMpysp (o : Bin Reg Reg Reg) (s : State) : Result :=
  issueFp32 o.cond o.side o.dst 3 .fmcr warnArith
    (mulFp single (s.fpMode .fmcr o.side) (sp (s.src o.side o.src1)) (sp (s.srcX o.side o.x o.src2))) [] 0 s

/-- MPYDP (R418). -/
def execMpydp (o : Bin Pair Pair Pair) (s : State) : Result :=
  issueFp64 o.cond o.side o.dst 8 .fmcr warnArith
    (mulFp double (s.fpMode .fmcr o.side) (dp (s.srcDouble o.side o.src1)) (dp (s.srcDoubleX o.side o.x o.src2)))
    (pairNames o.side (crossSide o.side o.x) o.src1 o.src2) 3 s

/-- MPYSPDP, C67x+ only (R420). -/
def execMpyspdp (o : Bin Reg Pair Pair) (s : State) : Result :=
  issueFp64 o.cond o.side o.dst 5 .fmcr warnArith
    (mulFp double (s.fpMode .fmcr o.side) (sp (s.src o.side o.src1)) (dp (s.srcDoubleX o.side o.x o.src2)))
    [⟨o.side, o.src1⟩, lowName (crossSide o.side o.x) o.src2, highName (crossSide o.side o.x) o.src2] 1 s

/-- MPYSP2DP, C67x+ only: exact (R421). -/
def execMpysp2dp (o : Bin Reg Reg Pair) (s : State) : Result :=
  issueFp64 o.cond o.side o.dst 3 .fmcr warnArith
    (mulFp double (s.fpMode .fmcr o.side) (sp (s.src o.side o.src1)) (sp (s.srcX o.side o.x o.src2))) [] 0 s

/-- ABSSP (R434). -/
def execAbssp (o : Un Reg Reg) (s : State) : Result :=
  issueFp32 o.cond o.side o.dst 0 .faucr warnArith (absFp single (sp (s.srcX o.side o.x o.src2)) (s.srcX o.side o.x o.src2).toNat) [] 0 s

/-- ABSDP (R435). -/
def execAbsdp (o : UnN Pair Pair) (s : State) : Result :=
  issueFp64 o.cond o.side o.dst 0 .faucr warnArith (absFp double (dp (s.srcDouble o.side o.src2)) (s.srcDouble o.side o.src2).toNat) [] 0 s

/-- RCPSP (R436). -/
def execRcpsp (o : Un Reg Reg) (s : State) : Result :=
  issueFp32 o.cond o.side o.dst 0 .faucr (warnArith ||| warnDiv0)
    (rcpFp single (Config.rcpSp (s.srcX o.side o.x o.src2)).toNat (sp (s.srcX o.side o.x o.src2))) [] 0 s

/-- RCPDP (R437). -/
def execRcpdp (o : UnN Pair Pair) (s : State) : Result :=
  issueFp64 o.cond o.side o.dst 0 .faucr (warnArith ||| warnDiv0)
    (rcpFp double (Config.rcpDp (s.srcDouble o.side o.src2)).toNat (dp (s.srcDouble o.side o.src2))) [] 0 s

/-- RSQRSP (R438). -/
def execRsqrsp (o : Un Reg Reg) (s : State) : Result :=
  issueFp32 o.cond o.side o.dst 0 .faucr (warnArith ||| warnDiv0)
    (rsqrFp single (Config.rsqrSp (s.srcX o.side o.x o.src2)).toNat (sp (s.srcX o.side o.x o.src2))) [] 0 s

/-- RSQRDP (R439). -/
def execRsqrdp (o : UnN Pair Pair) (s : State) : Result :=
  issueFp64 o.cond o.side o.dst 0 .faucr (warnArith ||| warnDiv0)
    (rsqrFp double (Config.rsqrDp (s.srcDouble o.side o.src2)).toNat (dp (s.srcDouble o.side o.src2))) [] 0 s

end Sys2Proof.Machine
end

