-- ==== Sys2Proof/Machine/FloatConvert.lean ====
section
/-! DEFINITION. The floating-point compares and conversions (48_float_compare_convert.md R450 to R469), with the
timing of 40_execution_model.md R173 and R177. -/

namespace Sys2Proof.Machine

/-- A compare's 0 or 1 with its warnings. -/
def relationResult (r : Bool × BitVec 11) : FpResult := ⟨if r.1 then 1 else 0, r.2⟩

/-- The unit's mode with truncation (R458). -/
def truncating (m : FpMode) : FpMode := { m with rm := 1#2 }

/-- CMPEQSP (R451). -/
def execCmpeqsp (o : Bin Reg Reg Reg) (s : State) : Result :=
  issueFp32 o.cond o.side o.dst 0 .faucr warnCompare
    (relationResult (relateFp .equal (sp (s.src o.side o.src1)) (sp (s.srcX o.side o.x o.src2)))) [] 0 s

/-- CMPEQDP: the result lands at i+1 and the sources are read in i and i+1 (R452). -/
def execCmpeqdp (o : Bin Pair Pair Reg) (s : State) : Result :=
  issueFp32 o.cond o.side o.dst 1 .faucr warnCompare
    (relationResult (relateFp .equal (dp (s.srcDouble o.side o.src1)) (dp (s.srcDoubleX o.side o.x o.src2))))
    (pairNames o.side (crossSide o.side o.x) o.src1 o.src2) 1 s

/-- CMPGTSP (R453). -/
def execCmpgtsp (o : Bin Reg Reg Reg) (s : State) : Result :=
  issueFp32 o.cond o.side o.dst 0 .faucr warnCompare
    (relationResult (relateFp .greater (sp (s.src o.side o.src1)) (sp (s.srcX o.side o.x o.src2)))) [] 0 s

/-- CMPGTDP: the result lands at i+1 and the sources are read in i and i+1 (R454). -/
def execCmpgtdp (o : Bin Pair Pair Reg) (s : State) : Result :=
  issueFp32 o.cond o.side o.dst 1 .faucr warnCompare
    (relationResult (relateFp .greater (dp (s.srcDouble o.side o.src1)) (dp (s.srcDoubleX o.side o.x o.src2))))
    (pairNames o.side (crossSide o.side o.x) o.src1 o.src2) 1 s

/-- CMPLTSP (R455). -/
def execCmpltsp (o : Bin Reg Reg Reg) (s : State) : Result :=
  issueFp32 o.cond o.side o.dst 0 .faucr warnCompare
    (relationResult (relateFp .less (sp (s.src o.side o.src1)) (sp (s.srcX o.side o.x o.src2)))) [] 0 s

/-- CMPLTDP: the result lands at i+1 and the sources are read in i and i+1 (R456). -/
def execCmpltdp (o : Bin Pair Pair Reg) (s : State) : Result :=
  issueFp32 o.cond o.side o.dst 1 .faucr warnCompare
    (relationResult (relateFp .less (dp (s.srcDouble o.side o.src1)) (dp (s.srcDoubleX o.side o.x o.src2))))
    (pairNames o.side (crossSide o.side o.x) o.src1 o.src2) 1 s

/-- DPINT (R460). -/
def execDpint (o : UnN Pair Reg) (s : State) : Result :=
  issueFp32 o.cond o.side o.dst 3 .fadcr warnArith
    (toInt32 (s.fpMode .fadcr o.side) (dp (s.srcDouble o.side o.src2))) [] 0 s

/-- DPTRUNC: RMODE is ignored (R462). -/
def execDptrunc (o : UnN Pair Reg) (s : State) : Result :=
  issueFp32 o.cond o.side o.dst 3 .fadcr warnArith
    (toInt32 (truncating (s.fpMode .fadcr o.side)) (dp (s.srcDouble o.side o.src2))) [] 0 s

/-- SPINT (R468). -/
def execSpint (o : Un Reg Reg) (s : State) : Result :=
  issueFp32 o.cond o.side o.dst 3 .fadcr warnArith
    (toInt32 (s.fpMode .fadcr o.side) (sp (s.srcX o.side o.x o.src2))) [] 0 s

/-- SPTRUNC: RMODE is ignored (R469). -/
def execSptrunc (o : Un Reg Reg) (s : State) : Result :=
  issueFp32 o.cond o.side o.dst 3 .fadcr warnArith
    (toInt32 (truncating (s.fpMode .fadcr o.side)) (sp (s.srcX o.side o.x o.src2))) [] 0 s

/-- INTDP: exact (R463). -/
def execIntdp (o : Un Reg Pair) (s : State) : Result :=
  issueFp64 o.cond o.side o.dst 3 .fadcr warnArith
    (fromInt double (s.fpMode .fadcr o.side) (s.srcX o.side o.x o.src2).toInt) [] 0 s

/-- INTDPU: exact (R464). -/
def execIntdpu (o : Un Reg Pair) (s : State) : Result :=
  issueFp64 o.cond o.side o.dst 3 .fadcr warnArith
    (fromInt double (s.fpMode .fadcr o.side) (s.srcX o.side o.x o.src2).toNat) [] 0 s

/-- INTSP (R465). -/
def execIntsp (o : Un Reg Reg) (s : State) : Result :=
  issueFp32 o.cond o.side o.dst 3 .fadcr warnArith
    (fromInt single (s.fpMode .fadcr o.side) (s.srcX o.side o.x o.src2).toInt) [] 0 s

/-- INTSPU (R466). -/
def execIntspu (o : Un Reg Reg) (s : State) : Result :=
  issueFp32 o.cond o.side o.dst 3 .fadcr warnArith
    (fromInt single (s.fpMode .fadcr o.side) (s.srcX o.side o.x o.src2).toNat) [] 0 s

/-- DPSP (R461). -/
def execDpsp (o : UnN Pair Reg) (s : State) : Result :=
  issueFp32 o.cond o.side o.dst 3 .fadcr warnArith
    (convertFp single (s.fpMode .fadcr o.side) (dp (s.srcDouble o.side o.src2))) [] 0 s

/-- SPDP: exact (R467). -/
def execSpdp (o : Un Reg Pair) (s : State) : Result :=
  issueFp64 o.cond o.side o.dst 0 .faucr warnArith
    (convertFp double (s.fpMode .faucr o.side) (sp (s.srcX o.side o.x o.src2))) [] 0 s

end Sys2Proof.Machine
end

