-- ==== Sys2Proof/Machine/LoadStore.lean ====
section
/-! DEFINITION. The loads and stores (45_load_store.md R370 to R382): data lands at i+4, base updates in i, stores write
memory in i. -/

namespace Sys2Proof.Machine

/-- LDB: the byte, sign-extended (R370). -/
def extendByteSigned (v : Nat) : Word := (BitVec.ofNat 8 v).signExtend 32

/-- LDBU: the byte, zero-extended (R370). -/
def extendByteZero (v : Nat) : Word := (BitVec.ofNat 8 v).setWidth 32

/-- LDH: the half-word, sign-extended (R373). -/
def extendHalfSigned (v : Nat) : Word := (BitVec.ofNat 16 v).signExtend 32

/-- LDHU: the half-word, zero-extended (R373). -/
def extendHalfZero (v : Nat) : Word := (BitVec.ofNat 16 v).setWidth 32

/-- LDW: the word (R375). -/
def wholeWord (v : Nat) : Word := BitVec.ofNat 32 v

/-- LDB (R370). -/
def execLdb (o : Mem Reg) (s : State) : Result := issueLoad o 0 extendByteSigned s

/-- LDB, 15-bit offset (R371). -/
def execLdbK (o : MemK) (s : State) : Result := issueLoadK o 0 extendByteSigned s

/-- LDBU (R370). -/
def execLdbu (o : Mem Reg) (s : State) : Result := issueLoad o 0 extendByteZero s

/-- LDBU, 15-bit offset (R371). -/
def execLdbuK (o : MemK) (s : State) : Result := issueLoadK o 0 extendByteZero s

/-- LDH (R373). -/
def execLdh (o : Mem Reg) (s : State) : Result := issueLoad o 1 extendHalfSigned s

/-- LDH, 15-bit offset (R374). -/
def execLdhK (o : MemK) (s : State) : Result := issueLoadK o 1 extendHalfSigned s

/-- LDHU (R373). -/
def execLdhu (o : Mem Reg) (s : State) : Result := issueLoad o 1 extendHalfZero s

/-- LDHU, 15-bit offset (R374). -/
def execLdhuK (o : MemK) (s : State) : Result := issueLoadK o 1 extendHalfZero s

/-- LDW (R375). -/
def execLdw (o : Mem Reg) (s : State) : Result := issueLoad o 2 wholeWord s

/-- LDW, 15-bit offset (R376). -/
def execLdwK (o : MemK) (s : State) : Result := issueLoadK o 2 wholeWord s

/-- The register pair of a loaded doubleword: both halves land at i+4 (R372); free where the value is undefined. -/
def State.finishLoadPair (s : State) (side : Side) (p : Pair) : Option Nat → State
  | some v => (s.putWord side (Pair.even p) 4 (BitVec.ofNat 32 v)).putWord side (Pair.odd p) 4
      (BitVec.ofNat 32 (v / 2 ^ 32))
  | none => (s.draw.draw.putWord side (Pair.even p) 4 s.freeWord).putWord side (Pair.odd p) 4 s.draw.freeWord

/-- LDDW (R372); its address uses AMR like the other loads' (90_conflicts.md C8; log entry 40). -/
def execLddw (o : Mem Pair) (s : State) : Result :=
  guarded o.cond s
    (.next ((s.updateBase o 3).finishLoadPair o.side o.data (s.load (s.effective o 3) 8)))

/-- STB (R377). -/
def execStb (o : Mem Reg) (s : State) : Result := issueStore o 0 s

/-- STB, 15-bit offset (R378). -/
def execStbK (o : MemK) (s : State) : Result := issueStoreK o 0 s

/-- STH (R379). -/
def execSth (o : Mem Reg) (s : State) : Result := issueStore o 1 s

/-- STH, 15-bit offset (R380). -/
def execSthK (o : MemK) (s : State) : Result := issueStoreK o 1 s

/-- STW (R381). -/
def execStw (o : Mem Reg) (s : State) : Result := issueStore o 2 s

/-- STW, 15-bit offset (R382). -/
def execStwK (o : MemK) (s : State) : Result := issueStoreK o 2 s

end Sys2Proof.Machine
end

