-- ==== Sys2Proof/Machine/Logic.lean ====
section
/-! DEFINITION. The logical, shift, bit-field and bit-count instructions (42_logic_shift_bitfield.md). All are
single-cycle. -/

namespace Sys2Proof.Machine

/-- The shift count of a register: its six least significant bits, 40 to 63 acting as 40 (R265). -/
def shiftCount (v : Word) : Nat := min (v.extractLsb' 0 6).toNat 40

/-- csta of a register form (R269). -/
def startBits (v : Word) : BitVec 5 := v.extractLsb' 5 5

/-- cstb of a register form (R269). -/
def endBits (v : Word) : BitVec 5 := v.extractLsb' 0 5

/-- Ones in bits e..b (R269). -/
def fieldMask (b e : BitVec 5) : Word := BitVec.ofNat 32 (2 ^ (e.toNat + 1) - 2 ^ b.toNat)

/-- CLR; none where the field is not defined (R269, 93_implementation_defined.md U15). -/
def clearField (v : Word) (b e : BitVec 5) : Option Word := if b ≤ e then some (v &&& ~~~fieldMask b e) else none

/-- SET; none where the field is not defined (R270). -/
def setField (v : Word) (b e : BitVec 5) : Option Word := if b ≤ e then some (v ||| fieldMask b e) else none

/-- EXT: shift left, then right with sign fill (R271). -/
def extractSigned (v : Word) (l r : BitVec 5) : Word := (v <<< l.toNat).sshiftRight r.toNat

/-- EXTU: shift left, then right with zero fill (R272). -/
def extractUnsigned (v : Word) (l r : BitVec 5) : Word := (v <<< l.toNat) >>> r.toNat

/-- A register form of a bit-field operation is defined only when bits 31-10 of src1 are 0 (U15). -/
def ifFieldBits (v : Word) (r : Option Word) : Option Word := if v.extractLsb' 10 22 = 0#22 then r else none

/-- The register forms of EXT and EXTU are defined only for csta <= cstb (U15; log entry 12). -/
def ifOrdered (l r : BitVec 5) (v : Word) : Option Word := if l ≤ r then some v else none

/-- How many bits from position k-1 downward equal `b` before one does not. -/
def leadingRun (bit : Nat → Bool) (b : Bool) : Nat → Nat
  | 0 => 0
  | k + 1 => if bit k = b then 1 + leadingRun bit b k else 0

/-- LMBD: bits above the leftmost one that equals `b`, 32 if none does (R273). -/
def leftmostBit (b : Bool) (v : Word) : Word := BitVec.ofNat 32 (leadingRun v.getLsbD (!b) 32)

/-- NORM: redundant sign bits of an n+1-bit value (R274). -/
def redundantSigns (bit : Nat → Bool) (n : Nat) : Word := BitVec.ofNat 32 (leadingRun bit (bit n) n)

/-- AND .L `uint, xuint, uint` (R261). -/
def execAndL (o : Bin Reg Reg Reg) (s : State) : Result :=
  issueWord o.cond o.side o.dst 0 (s.src o.side o.src1 &&& s.srcX o.side o.x o.src2) s

/-- AND .L `scst5, xuint, uint` (R261). -/
def execAndLC (o : Bin Cst5 Reg Reg) (s : State) : Result :=
  issueWord o.cond o.side o.dst 0 (scst o.src1 &&& s.srcX o.side o.x o.src2) s

/-- AND .S `uint, xuint, uint` (R261). -/
def execAndS (o : Bin Reg Reg Reg) (s : State) : Result :=
  issueWord o.cond o.side o.dst 0 (s.src o.side o.src1 &&& s.srcX o.side o.x o.src2) s

/-- AND .S `scst5, xuint, uint` (R261). -/
def execAndSC (o : Bin Cst5 Reg Reg) (s : State) : Result :=
  issueWord o.cond o.side o.dst 0 (scst o.src1 &&& s.srcX o.side o.x o.src2) s

/-- OR .L `uint, xuint, uint` (R262). -/
def execOrL (o : Bin Reg Reg Reg) (s : State) : Result :=
  issueWord o.cond o.side o.dst 0 (s.src o.side o.src1 ||| s.srcX o.side o.x o.src2) s

/-- OR .L `scst5, xuint, uint` (R262). -/
def execOrLC (o : Bin Cst5 Reg Reg) (s : State) : Result :=
  issueWord o.cond o.side o.dst 0 (scst o.src1 ||| s.srcX o.side o.x o.src2) s

/-- OR .S `uint, xuint, uint` (R262). -/
def execOrS (o : Bin Reg Reg Reg) (s : State) : Result :=
  issueWord o.cond o.side o.dst 0 (s.src o.side o.src1 ||| s.srcX o.side o.x o.src2) s

/-- OR .S `scst5, xuint, uint` (R262). -/
def execOrSC (o : Bin Cst5 Reg Reg) (s : State) : Result :=
  issueWord o.cond o.side o.dst 0 (scst o.src1 ||| s.srcX o.side o.x o.src2) s

/-- XOR .L `uint, xuint, uint` (R263). -/
def execXorL (o : Bin Reg Reg Reg) (s : State) : Result :=
  issueWord o.cond o.side o.dst 0 (s.src o.side o.src1 ^^^ s.srcX o.side o.x o.src2) s

/-- XOR .L `scst5, xuint, uint` (R263). -/
def execXorLC (o : Bin Cst5 Reg Reg) (s : State) : Result :=
  issueWord o.cond o.side o.dst 0 (scst o.src1 ^^^ s.srcX o.side o.x o.src2) s

/-- XOR .S `uint, xuint, uint` (R263). -/
def execXorS (o : Bin Reg Reg Reg) (s : State) : Result :=
  issueWord o.cond o.side o.dst 0 (s.src o.side o.src1 ^^^ s.srcX o.side o.x o.src2) s

/-- XOR .S `scst5, xuint, uint` (R263). -/
def execXorSC (o : Bin Cst5 Reg Reg) (s : State) : Result :=
  issueWord o.cond o.side o.dst 0 (scst o.src1 ^^^ s.srcX o.side o.x o.src2) s

/-- SHL `xsint, uint, sint` (R265). -/
def execShl (o : Bin Reg Reg Reg) (s : State) : Result :=
  issueWord o.cond o.side o.dst 0 (s.srcX o.side o.x o.src2 <<< shiftCount (s.src o.side o.src1)) s

/-- SHL `slong, uint, slong` (R265). -/
def execShlLong (o : BinN Reg Pair Pair) (s : State) : Result :=
  issueLong o.cond o.side o.dst (s.srcLong o.side o.src2 <<< shiftCount (s.src o.side o.src1)) s

/-- SHL `xuint, uint, ulong` (R265). -/
def execShlWide (o : Bin Reg Reg Pair) (s : State) : Result :=
  issueLong o.cond o.side o.dst
    ((s.srcX o.side o.x o.src2).setWidth 40 <<< shiftCount (s.src o.side o.src1)) s

/-- SHL `xsint, ucst5, sint` (R265). -/
def execShlC (o : Bin Cst5 Reg Reg) (s : State) : Result :=
  issueWord o.cond o.side o.dst 0 (s.srcX o.side o.x o.src2 <<< o.src1.toNat) s

/-- SHL `slong, ucst5, slong` (R265). -/
def execShlLongC (o : BinN Cst5 Pair Pair) (s : State) : Result :=
  issueLong o.cond o.side o.dst (s.srcLong o.side o.src2 <<< o.src1.toNat) s

/-- SHL `xuint, ucst5, ulong` (R265). -/
def execShlWideC (o : Bin Cst5 Reg Pair) (s : State) : Result :=
  issueLong o.cond o.side o.dst ((s.srcX o.side o.x o.src2).setWidth 40 <<< o.src1.toNat) s

/-- SHR `xsint, uint, sint` (R266). -/
def execShr (o : Bin Reg Reg Reg) (s : State) : Result :=
  issueWord o.cond o.side o.dst 0 ((s.srcX o.side o.x o.src2).sshiftRight (shiftCount (s.src o.side o.src1))) s

/-- SHR `slong, uint, slong` (R266). -/
def execShrLong (o : BinN Reg Pair Pair) (s : State) : Result :=
  issueLong o.cond o.side o.dst ((s.srcLong o.side o.src2).sshiftRight (shiftCount (s.src o.side o.src1))) s

/-- SHR `xsint, ucst5, sint` (R266). -/
def execShrC (o : Bin Cst5 Reg Reg) (s : State) : Result :=
  issueWord o.cond o.side o.dst 0 ((s.srcX o.side o.x o.src2).sshiftRight o.src1.toNat) s

/-- SHR `slong, ucst5, slong` (R266). -/
def execShrLongC (o : BinN Cst5 Pair Pair) (s : State) : Result :=
  issueLong o.cond o.side o.dst ((s.srcLong o.side o.src2).sshiftRight o.src1.toNat) s

/-- SHRU `xuint, uint, uint` (R267). -/
def execShru (o : Bin Reg Reg Reg) (s : State) : Result :=
  issueWord o.cond o.side o.dst 0 (s.srcX o.side o.x o.src2 >>> shiftCount (s.src o.side o.src1)) s

/-- SHRU `ulong, uint, ulong` (R267). -/
def execShruLong (o : BinN Reg Pair Pair) (s : State) : Result :=
  issueLong o.cond o.side o.dst (s.srcLong o.side o.src2 >>> shiftCount (s.src o.side o.src1)) s

/-- SHRU `xuint, ucst5, uint` (R267). -/
def execShruC (o : Bin Cst5 Reg Reg) (s : State) : Result :=
  issueWord o.cond o.side o.dst 0 (s.srcX o.side o.x o.src2 >>> o.src1.toNat) s

/-- SHRU `ulong, ucst5, ulong` (R267). -/
def execShruLongC (o : BinN Cst5 Pair Pair) (s : State) : Result :=
  issueLong o.cond o.side o.dst (s.srcLong o.side o.src2 >>> o.src1.toNat) s

/-- SSHL with a register count: above 31 the result and SAT are undefined (R268, U14; log entry 11). -/
def execSshl (o : Bin Reg Reg Reg) (s : State) : Result :=
  if (s.src o.side o.src1).toNat ≤ 31 then
    issueSat32 o.cond o.side o.dst 0 ((s.srcX o.side o.x o.src2).toInt * 2 ^ (s.src o.side o.src1).toNat) s
  else guarded o.cond s
    (.next ((s.draw.draw.putWord o.side o.dst 0 s.freeWord).putSat 0 (freeBit (s.free + 1))))

/-- SSHL with a constant count (R268). -/
def execSshlC (o : Bin Cst5 Reg Reg) (s : State) : Result :=
  issueSat32 o.cond o.side o.dst 0 ((s.srcX o.side o.x o.src2).toInt * 2 ^ o.src1.toNat) s

/-- CLR, register form (R269). -/
def execClrReg (o : Bin Reg Reg Reg) (s : State) : Result :=
  issueOpen o.cond o.side o.dst
    (ifFieldBits (s.src o.side o.src1)
      (clearField (s.srcX o.side o.x o.src2) (startBits (s.src o.side o.src1)) (endBits (s.src o.side o.src1)))) s

/-- CLR, constant form (R269). -/
def execClrConst (o : FieldOp) (s : State) : Result :=
  issueOpen o.cond o.side o.dst (clearField (s.src o.side o.src2) o.csta o.cstb) s

/-- SET, register form (R270). -/
def execSetReg (o : Bin Reg Reg Reg) (s : State) : Result :=
  issueOpen o.cond o.side o.dst
    (ifFieldBits (s.src o.side o.src1)
      (setField (s.srcX o.side o.x o.src2) (startBits (s.src o.side o.src1)) (endBits (s.src o.side o.src1)))) s

/-- SET, constant form (R270). -/
def execSetConst (o : FieldOp) (s : State) : Result :=
  issueOpen o.cond o.side o.dst (setField (s.src o.side o.src2) o.csta o.cstb) s

/-- EXT, register form (R271; csta > cstb and upper bits of src1: U15, log entry 12). -/
def execExtReg (o : Bin Reg Reg Reg) (s : State) : Result :=
  issueOpen o.cond o.side o.dst
    (ifFieldBits (s.src o.side o.src1)
      (ifOrdered (startBits (s.src o.side o.src1)) (endBits (s.src o.side o.src1))
        (extractSigned (s.srcX o.side o.x o.src2) (startBits (s.src o.side o.src1))
          (endBits (s.src o.side o.src1))))) s

/-- EXT, constant form (R271). -/
def execExtConst (o : FieldOp) (s : State) : Result :=
  issueWord o.cond o.side o.dst 0 (extractSigned (s.src o.side o.src2) o.csta o.cstb) s

/-- EXTU, register form (R272; csta > cstb and upper bits of src1: U15, log entry 12). -/
def execExtuReg (o : Bin Reg Reg Reg) (s : State) : Result :=
  issueOpen o.cond o.side o.dst
    (ifFieldBits (s.src o.side o.src1)
      (ifOrdered (startBits (s.src o.side o.src1)) (endBits (s.src o.side o.src1))
        (extractUnsigned (s.srcX o.side o.x o.src2) (startBits (s.src o.side o.src1))
          (endBits (s.src o.side o.src1))))) s

/-- EXTU, constant form (R272). -/
def execExtuConst (o : FieldOp) (s : State) : Result :=
  issueWord o.cond o.side o.dst 0 (extractUnsigned (s.src o.side o.src2) o.csta o.cstb) s

/-- LMBD with a register (R273). -/
def execLmbd (o : Bin Reg Reg Reg) (s : State) : Result :=
  issueWord o.cond o.side o.dst 0
    (leftmostBit ((s.src o.side o.src1).getLsbD 0) (s.srcX o.side o.x o.src2)) s

/-- LMBD with a constant (R273). -/
def execLmbdC (o : Bin Cst5 Reg Reg) (s : State) : Result :=
  issueWord o.cond o.side o.dst 0 (leftmostBit (o.src1.getLsbD 0) (s.srcX o.side o.x o.src2)) s

/-- NORM `xsint -> uint` (R274). -/
def execNorm (o : Un Reg Reg) (s : State) : Result :=
  issueWord o.cond o.side o.dst 0 (redundantSigns (s.srcX o.side o.x o.src2).getLsbD 31) s

/-- NORM `slong -> uint` (R274). -/
def execNormLong (o : UnN Pair Reg) (s : State) : Result :=
  issueWord o.cond o.side o.dst 0 (redundantSigns (s.srcLong o.side o.src2).getLsbD 39) s

end Sys2Proof.Machine
end

