-- ==== Sys2Proof/WellFormed.lean ====
section
/-! DEFINITION. Which instructions a variant has, and which are well formed: register numbers the variant's files
hold (10_state.md R20, 30_encoding.md R152), no C67x+ instruction on a C67x (00_scope.md R3), and only control
register addresses the spec defines (10_state.md R31). -/

namespace Sys2Proof

/-- The registers a load or store reads for its address. -/
def Mem.addressRegs {γ : Type} (o : Mem γ) : List Reg :=
  match o.offset with
  | .cst _ => [o.base]
  | .reg r => [o.base, r]

/-- The register specifiers of an MV. -/
def MvForm.specifiers : MvForm → List Reg
  | .l o | .s o => [o.src2, o.dst]
  | .d o => [o.src2, o.dst]
  | .lLong o => [Pair.even o.src2, Pair.odd o.src2, Pair.even o.dst, Pair.odd o.dst]

/-- The register specifiers of a NEG. -/
def NegForm.specifiers : NegForm → List Reg
  | .l o | .s o => [o.src2, o.dst]
  | .lLong o => [Pair.even o.src2, Pair.odd o.src2, Pair.even o.dst, Pair.odd o.dst]

/-- The register specifiers of a NOT. -/
def NotForm.specifiers : NotForm → List Reg
  | .l o | .s o => [o.src2, o.dst]

/-- The register specifiers of a ZERO. -/
def ZeroForm.specifiers : ZeroForm → List Reg
  | .l o | .d o | .sMvk o | .sSub o => [o.dst]
  | .lLong o => [Pair.even o.dst, Pair.odd o.dst]

/-- Every register number an instruction names in an operand field, both registers of a pair included. -/
def Instr.specifiers : Instr → List Reg
  | .abs o => [o.src2, o.dst]
  | .absLong o => [Pair.even o.src2, Pair.odd o.src2, Pair.even o.dst, Pair.odd o.dst]
  | .addL o => [o.src1, o.src2, o.dst]
  | .addLWide o => [o.src1, o.src2, Pair.even o.dst, Pair.odd o.dst]
  | .addLLong o => [o.src1, Pair.even o.src2, Pair.odd o.src2, Pair.even o.dst, Pair.odd o.dst]
  | .addLC o => [o.src2, o.dst]
  | .addLLongC o => [Pair.even o.src2, Pair.odd o.src2, Pair.even o.dst, Pair.odd o.dst]
  | .adduWide o => [o.src1, o.src2, Pair.even o.dst, Pair.odd o.dst]
  | .adduLong o => [o.src1, Pair.even o.src2, Pair.odd o.src2, Pair.even o.dst, Pair.odd o.dst]
  | .addspL o => [o.src1, o.src2, o.dst]
  | .adddpL o => [Pair.even o.src1, Pair.odd o.src1, Pair.even o.src2, Pair.odd o.src2, Pair.even o.dst, Pair.odd o.dst]
  | .andL o => [o.src1, o.src2, o.dst]
  | .andLC o => [o.src2, o.dst]
  | .cmpeq o => [o.src1, o.src2, o.dst]
  | .cmpeqC o => [o.src2, o.dst]
  | .cmpeqLong o => [o.src1, Pair.even o.src2, Pair.odd o.src2, o.dst]
  | .cmpeqLongC o => [Pair.even o.src2, Pair.odd o.src2, o.dst]
  | .cmpgt o => [o.src1, o.src2, o.dst]
  | .cmpgtC o => [o.src2, o.dst]
  | .cmpgtLong o => [o.src1, Pair.even o.src2, Pair.odd o.src2, o.dst]
  | .cmpgtLongC o => [Pair.even o.src2, Pair.odd o.src2, o.dst]
  | .cmpgtu o => [o.src1, o.src2, o.dst]
  | .cmpgtuC o => [o.src2, o.dst]
  | .cmpgtuLong o => [o.src1, Pair.even o.src2, Pair.odd o.src2, o.dst]
  | .cmpgtuLongC o => [Pair.even o.src2, Pair.odd o.src2, o.dst]
  | .cmplt o => [o.src1, o.src2, o.dst]
  | .cmpltC o => [o.src2, o.dst]
  | .cmpltLong o => [o.src1, Pair.even o.src2, Pair.odd o.src2, o.dst]
  | .cmpltLongC o => [Pair.even o.src2, Pair.odd o.src2, o.dst]
  | .cmpltu o => [o.src1, o.src2, o.dst]
  | .cmpltuC o => [o.src2, o.dst]
  | .cmpltuLong o => [o.src1, Pair.even o.src2, Pair.odd o.src2, o.dst]
  | .cmpltuLongC o => [Pair.even o.src2, Pair.odd o.src2, o.dst]
  | .dpint o => [Pair.even o.src2, Pair.odd o.src2, o.dst]
  | .dpsp o => [Pair.even o.src2, Pair.odd o.src2, o.dst]
  | .dptrunc o => [Pair.even o.src2, Pair.odd o.src2, o.dst]
  | .intdp o => [o.src2, Pair.even o.dst, Pair.odd o.dst]
  | .intdpu o => [o.src2, Pair.even o.dst, Pair.odd o.dst]
  | .intsp o => [o.src2, o.dst]
  | .intspu o => [o.src2, o.dst]
  | .lmbd o => [o.src1, o.src2, o.dst]
  | .lmbdC o => [o.src2, o.dst]
  | .norm o => [o.src2, o.dst]
  | .normLong o => [Pair.even o.src2, Pair.odd o.src2, o.dst]
  | .orL o => [o.src1, o.src2, o.dst]
  | .orLC o => [o.src2, o.dst]
  | .sadd o => [o.src1, o.src2, o.dst]
  | .saddLong o => [o.src1, Pair.even o.src2, Pair.odd o.src2, Pair.even o.dst, Pair.odd o.dst]
  | .saddC o => [o.src2, o.dst]
  | .saddLongC o => [Pair.even o.src2, Pair.odd o.src2, Pair.even o.dst, Pair.odd o.dst]
  | .sat o => [Pair.even o.src2, Pair.odd o.src2, o.dst]
  | .spint o => [o.src2, o.dst]
  | .sptrunc o => [o.src2, o.dst]
  | .ssub o => [o.src1, o.src2, o.dst]
  | .ssubX o => [o.src1, o.src2, o.dst]
  | .ssubC o => [o.src2, o.dst]
  | .ssubLongC o => [Pair.even o.src2, Pair.odd o.src2, Pair.even o.dst, Pair.odd o.dst]
  | .subL o => [o.src1, o.src2, o.dst]
  | .subLX o => [o.src1, o.src2, o.dst]
  | .subLWide o => [o.src1, o.src2, Pair.even o.dst, Pair.odd o.dst]
  | .subLWideX o => [o.src1, o.src2, Pair.even o.dst, Pair.odd o.dst]
  | .subLC o => [o.src2, o.dst]
  | .subLLongC o => [Pair.even o.src2, Pair.odd o.src2, Pair.even o.dst, Pair.odd o.dst]
  | .subuWide o => [o.src1, o.src2, Pair.even o.dst, Pair.odd o.dst]
  | .subuWideX o => [o.src1, o.src2, Pair.even o.dst, Pair.odd o.dst]
  | .subc o => [o.src1, o.src2, o.dst]
  | .subspL o => [o.src1, o.src2, o.dst]
  | .subspLX o => [o.src1, o.src2, o.dst]
  | .subdpL o => [Pair.even o.src1, Pair.odd o.src1, Pair.even o.src2, Pair.odd o.src2, Pair.even o.dst, Pair.odd o.dst]
  | .subdpLX o => [Pair.even o.src1, Pair.odd o.src1, Pair.even o.src2, Pair.odd o.src2, Pair.even o.dst, Pair.odd o.dst]
  | .xorL o => [o.src1, o.src2, o.dst]
  | .xorLC o => [o.src2, o.dst]
  | .absdp o => [Pair.even o.src2, Pair.odd o.src2, Pair.even o.dst, Pair.odd o.dst]
  | .abssp o => [o.src2, o.dst]
  | .addS o => [o.src1, o.src2, o.dst]
  | .addSC o => [o.src2, o.dst]
  | .add2 o => [o.src1, o.src2, o.dst]
  | .andS o => [o.src1, o.src2, o.dst]
  | .andSC o => [o.src2, o.dst]
  | .clrReg o => [o.src1, o.src2, o.dst]
  | .cmpeqdp o => [Pair.even o.src1, Pair.odd o.src1, Pair.even o.src2, Pair.odd o.src2, o.dst]
  | .cmpeqsp o => [o.src1, o.src2, o.dst]
  | .cmpgtdp o => [Pair.even o.src1, Pair.odd o.src1, Pair.even o.src2, Pair.odd o.src2, o.dst]
  | .cmpgtsp o => [o.src1, o.src2, o.dst]
  | .cmpltdp o => [Pair.even o.src1, Pair.odd o.src1, Pair.even o.src2, Pair.odd o.src2, o.dst]
  | .cmpltsp o => [o.src1, o.src2, o.dst]
  | .extReg o => [o.src1, o.src2, o.dst]
  | .extuReg o => [o.src1, o.src2, o.dst]
  | .orS o => [o.src1, o.src2, o.dst]
  | .orSC o => [o.src2, o.dst]
  | .rcpdp o => [Pair.even o.src2, Pair.odd o.src2, Pair.even o.dst, Pair.odd o.dst]
  | .rcpsp o => [o.src2, o.dst]
  | .rsqrdp o => [Pair.even o.src2, Pair.odd o.src2, Pair.even o.dst, Pair.odd o.dst]
  | .rsqrsp o => [o.src2, o.dst]
  | .setReg o => [o.src1, o.src2, o.dst]
  | .shl o => [o.src1, o.src2, o.dst]
  | .shlLong o => [o.src1, Pair.even o.src2, Pair.odd o.src2, Pair.even o.dst, Pair.odd o.dst]
  | .shlWide o => [o.src1, o.src2, Pair.even o.dst, Pair.odd o.dst]
  | .shlC o => [o.src2, o.dst]
  | .shlLongC o => [Pair.even o.src2, Pair.odd o.src2, Pair.even o.dst, Pair.odd o.dst]
  | .shlWideC o => [o.src2, Pair.even o.dst, Pair.odd o.dst]
  | .shr o => [o.src1, o.src2, o.dst]
  | .shrLong o => [o.src1, Pair.even o.src2, Pair.odd o.src2, Pair.even o.dst, Pair.odd o.dst]
  | .shrC o => [o.src2, o.dst]
  | .shrLongC o => [Pair.even o.src2, Pair.odd o.src2, Pair.even o.dst, Pair.odd o.dst]
  | .shru o => [o.src1, o.src2, o.dst]
  | .shruLong o => [o.src1, Pair.even o.src2, Pair.odd o.src2, Pair.even o.dst, Pair.odd o.dst]
  | .shruC o => [o.src2, o.dst]
  | .shruLongC o => [Pair.even o.src2, Pair.odd o.src2, Pair.even o.dst, Pair.odd o.dst]
  | .spdp o => [o.src2, Pair.even o.dst, Pair.odd o.dst]
  | .sshl o => [o.src1, o.src2, o.dst]
  | .sshlC o => [o.src2, o.dst]
  | .subS o => [o.src1, o.src2, o.dst]
  | .subSC o => [o.src2, o.dst]
  | .sub2 o => [o.src1, o.src2, o.dst]
  | .xorS o => [o.src1, o.src2, o.dst]
  | .xorSC o => [o.src2, o.dst]
  | .addD o => [o.src1, o.src2, o.dst]
  | .addDC o => [o.src2, o.dst]
  | .subD o => [o.src1, o.src2, o.dst]
  | .subDC o => [o.src2, o.dst]
  | .addab o => [o.src1, o.src2, o.dst]
  | .addabC o => [o.src2, o.dst]
  | .addah o => [o.src1, o.src2, o.dst]
  | .addahC o => [o.src2, o.dst]
  | .addaw o => [o.src1, o.src2, o.dst]
  | .addawC o => [o.src2, o.dst]
  | .addad o => [o.src1, o.src2, o.dst]
  | .addadC o => [o.src2, o.dst]
  | .subab o => [o.src1, o.src2, o.dst]
  | .subabC o => [o.src2, o.dst]
  | .subah o => [o.src1, o.src2, o.dst]
  | .subahC o => [o.src2, o.dst]
  | .subaw o => [o.src1, o.src2, o.dst]
  | .subawC o => [o.src2, o.dst]
  | .mpy o => [o.src1, o.src2, o.dst]
  | .mpyC o => [o.src2, o.dst]
  | .mpyu o => [o.src1, o.src2, o.dst]
  | .mpyus o => [o.src1, o.src2, o.dst]
  | .mpysu o => [o.src1, o.src2, o.dst]
  | .mpysuC o => [o.src2, o.dst]
  | .mpyh o => [o.src1, o.src2, o.dst]
  | .mpyhu o => [o.src1, o.src2, o.dst]
  | .mpyhus o => [o.src1, o.src2, o.dst]
  | .mpyhsu o => [o.src1, o.src2, o.dst]
  | .mpyhl o => [o.src1, o.src2, o.dst]
  | .mpyhlu o => [o.src1, o.src2, o.dst]
  | .mpyhuls o => [o.src1, o.src2, o.dst]
  | .mpyhslu o => [o.src1, o.src2, o.dst]
  | .mpylh o => [o.src1, o.src2, o.dst]
  | .mpylhu o => [o.src1, o.src2, o.dst]
  | .mpyluhs o => [o.src1, o.src2, o.dst]
  | .mpylshu o => [o.src1, o.src2, o.dst]
  | .smpy o => [o.src1, o.src2, o.dst]
  | .smpyhl o => [o.src1, o.src2, o.dst]
  | .smpylh o => [o.src1, o.src2, o.dst]
  | .smpyh o => [o.src1, o.src2, o.dst]
  | .mpysp o => [o.src1, o.src2, o.dst]
  | .mpydp o => [Pair.even o.src1, Pair.odd o.src1, Pair.even o.src2, Pair.odd o.src2, Pair.even o.dst, Pair.odd o.dst]
  | .mpyi o => [o.src1, o.src2, o.dst]
  | .mpyiC o => [o.src2, o.dst]
  | .mpyid o => [o.src1, o.src2, Pair.even o.dst, Pair.odd o.dst]
  | .mpyidC o => [o.src2, Pair.even o.dst, Pair.odd o.dst]
  | .mpyspdp o => [o.src1, Pair.even o.src2, Pair.odd o.src2, Pair.even o.dst, Pair.odd o.dst]
  | .mpysp2dp o => [o.src1, o.src2, Pair.even o.dst, Pair.odd o.dst]
  | .bReg o => [o.src2]
  | .bIrp _ => []
  | .bNrp _ => []
  | .mvcRead o => [o.dst]
  | .mvcWrite o => [o.src2]
  | .extuConst o => [o.src2, o.dst]
  | .extConst o => [o.src2, o.dst]
  | .setConst o => [o.src2, o.dst]
  | .clrConst o => [o.src2, o.dst]
  | .addk o => [o.dst]
  | .mvk o => [o.dst]
  | .mvkh o => [o.dst]
  | .bDisp _ => []
  | .ldhu o => o.addressRegs ++ [o.data]
  | .ldhuK o => [o.data]
  | .ldbu o => o.addressRegs ++ [o.data]
  | .ldbuK o => [o.data]
  | .ldb o => o.addressRegs ++ [o.data]
  | .ldbK o => [o.data]
  | .stb o => o.addressRegs ++ [o.data]
  | .stbK o => [o.data]
  | .ldh o => o.addressRegs ++ [o.data]
  | .ldhK o => [o.data]
  | .sth o => o.addressRegs ++ [o.data]
  | .sthK o => [o.data]
  | .ldw o => o.addressRegs ++ [o.data]
  | .ldwK o => [o.data]
  | .stw o => o.addressRegs ++ [o.data]
  | .stwK o => [o.data]
  | .lddw o => o.addressRegs ++ [Pair.even o.data, Pair.odd o.data]
  | .nop _ => []
  | .nop9 => []
  | .idle => []
  | .mv o => o.specifiers
  | .neg o => o.specifiers
  | .not o => o.specifiers
  | .zero o => o.specifiers
  | .mvkl o => [o.dst]
  | .mvklh o => [o.dst]
  | .addspS o => [o.src1, o.src2, o.dst]
  | .adddpS o => [Pair.even o.src1, Pair.odd o.src1, Pair.even o.src2, Pair.odd o.src2, Pair.even o.dst, Pair.odd o.dst]
  | .subspS o => [o.src1, o.src2, o.dst]
  | .subdpS o => [Pair.even o.src1, Pair.odd o.src1, Pair.even o.src2, Pair.odd o.src2, Pair.even o.dst, Pair.odd o.dst]

/-- The condition of a MV. -/
def MvForm.condition : MvForm → Cond
  | .l o => o.cond
  | .lLong o => o.cond
  | .s o => o.cond
  | .d o => o.cond

/-- The condition of a NEG. -/
def NegForm.condition : NegForm → Cond
  | .l o => o.cond
  | .lLong o => o.cond
  | .s o => o.cond

/-- The condition of a NOT. -/
def NotForm.condition : NotForm → Cond
  | .l o => o.cond
  | .s o => o.cond

/-- The condition of a ZERO. -/
def ZeroForm.condition : ZeroForm → Cond
  | .l o => o.cond
  | .lLong o => o.cond
  | .d o => o.cond
  | .sMvk o => o.cond
  | .sSub o => o.cond

/-- The condition of an instruction; NOP and IDLE have none (30_encoding.md R130, R132). -/
def Instr.condition : Instr → Cond
  | .abs o => o.cond
  | .absLong o => o.cond
  | .addL o => o.cond
  | .addLWide o => o.cond
  | .addLLong o => o.cond
  | .addLC o => o.cond
  | .addLLongC o => o.cond
  | .adduWide o => o.cond
  | .adduLong o => o.cond
  | .addspL o => o.cond
  | .adddpL o => o.cond
  | .andL o => o.cond
  | .andLC o => o.cond
  | .cmpeq o => o.cond
  | .cmpeqC o => o.cond
  | .cmpeqLong o => o.cond
  | .cmpeqLongC o => o.cond
  | .cmpgt o => o.cond
  | .cmpgtC o => o.cond
  | .cmpgtLong o => o.cond
  | .cmpgtLongC o => o.cond
  | .cmpgtu o => o.cond
  | .cmpgtuC o => o.cond
  | .cmpgtuLong o => o.cond
  | .cmpgtuLongC o => o.cond
  | .cmplt o => o.cond
  | .cmpltC o => o.cond
  | .cmpltLong o => o.cond
  | .cmpltLongC o => o.cond
  | .cmpltu o => o.cond
  | .cmpltuC o => o.cond
  | .cmpltuLong o => o.cond
  | .cmpltuLongC o => o.cond
  | .dpint o => o.cond
  | .dpsp o => o.cond
  | .dptrunc o => o.cond
  | .intdp o => o.cond
  | .intdpu o => o.cond
  | .intsp o => o.cond
  | .intspu o => o.cond
  | .lmbd o => o.cond
  | .lmbdC o => o.cond
  | .norm o => o.cond
  | .normLong o => o.cond
  | .orL o => o.cond
  | .orLC o => o.cond
  | .sadd o => o.cond
  | .saddLong o => o.cond
  | .saddC o => o.cond
  | .saddLongC o => o.cond
  | .sat o => o.cond
  | .spint o => o.cond
  | .sptrunc o => o.cond
  | .ssub o => o.cond
  | .ssubX o => o.cond
  | .ssubC o => o.cond
  | .ssubLongC o => o.cond
  | .subL o => o.cond
  | .subLX o => o.cond
  | .subLWide o => o.cond
  | .subLWideX o => o.cond
  | .subLC o => o.cond
  | .subLLongC o => o.cond
  | .subuWide o => o.cond
  | .subuWideX o => o.cond
  | .subc o => o.cond
  | .subspL o => o.cond
  | .subspLX o => o.cond
  | .subdpL o => o.cond
  | .subdpLX o => o.cond
  | .xorL o => o.cond
  | .xorLC o => o.cond
  | .absdp o => o.cond
  | .abssp o => o.cond
  | .addS o => o.cond
  | .addSC o => o.cond
  | .add2 o => o.cond
  | .andS o => o.cond
  | .andSC o => o.cond
  | .clrReg o => o.cond
  | .cmpeqdp o => o.cond
  | .cmpeqsp o => o.cond
  | .cmpgtdp o => o.cond
  | .cmpgtsp o => o.cond
  | .cmpltdp o => o.cond
  | .cmpltsp o => o.cond
  | .extReg o => o.cond
  | .extuReg o => o.cond
  | .orS o => o.cond
  | .orSC o => o.cond
  | .rcpdp o => o.cond
  | .rcpsp o => o.cond
  | .rsqrdp o => o.cond
  | .rsqrsp o => o.cond
  | .setReg o => o.cond
  | .shl o => o.cond
  | .shlLong o => o.cond
  | .shlWide o => o.cond
  | .shlC o => o.cond
  | .shlLongC o => o.cond
  | .shlWideC o => o.cond
  | .shr o => o.cond
  | .shrLong o => o.cond
  | .shrC o => o.cond
  | .shrLongC o => o.cond
  | .shru o => o.cond
  | .shruLong o => o.cond
  | .shruC o => o.cond
  | .shruLongC o => o.cond
  | .spdp o => o.cond
  | .sshl o => o.cond
  | .sshlC o => o.cond
  | .subS o => o.cond
  | .subSC o => o.cond
  | .sub2 o => o.cond
  | .xorS o => o.cond
  | .xorSC o => o.cond
  | .addD o => o.cond
  | .addDC o => o.cond
  | .subD o => o.cond
  | .subDC o => o.cond
  | .addab o => o.cond
  | .addabC o => o.cond
  | .addah o => o.cond
  | .addahC o => o.cond
  | .addaw o => o.cond
  | .addawC o => o.cond
  | .addad o => o.cond
  | .addadC o => o.cond
  | .subab o => o.cond
  | .subabC o => o.cond
  | .subah o => o.cond
  | .subahC o => o.cond
  | .subaw o => o.cond
  | .subawC o => o.cond
  | .mpy o => o.cond
  | .mpyC o => o.cond
  | .mpyu o => o.cond
  | .mpyus o => o.cond
  | .mpysu o => o.cond
  | .mpysuC o => o.cond
  | .mpyh o => o.cond
  | .mpyhu o => o.cond
  | .mpyhus o => o.cond
  | .mpyhsu o => o.cond
  | .mpyhl o => o.cond
  | .mpyhlu o => o.cond
  | .mpyhuls o => o.cond
  | .mpyhslu o => o.cond
  | .mpylh o => o.cond
  | .mpylhu o => o.cond
  | .mpyluhs o => o.cond
  | .mpylshu o => o.cond
  | .smpy o => o.cond
  | .smpyhl o => o.cond
  | .smpylh o => o.cond
  | .smpyh o => o.cond
  | .mpysp o => o.cond
  | .mpydp o => o.cond
  | .mpyi o => o.cond
  | .mpyiC o => o.cond
  | .mpyid o => o.cond
  | .mpyidC o => o.cond
  | .mpyspdp o => o.cond
  | .mpysp2dp o => o.cond
  | .bReg o => o.cond
  | .bIrp c => c
  | .bNrp c => c
  | .mvcRead o => o.cond
  | .mvcWrite o => o.cond
  | .extuConst o => o.cond
  | .extConst o => o.cond
  | .setConst o => o.cond
  | .clrConst o => o.cond
  | .addk o => o.cond
  | .mvk o => o.cond
  | .mvkh o => o.cond
  | .bDisp o => o.cond
  | .ldhu o => o.cond
  | .ldhuK o => o.cond
  | .ldbu o => o.cond
  | .ldbuK o => o.cond
  | .ldb o => o.cond
  | .ldbK o => o.cond
  | .stb o => o.cond
  | .stbK o => o.cond
  | .ldh o => o.cond
  | .ldhK o => o.cond
  | .sth o => o.cond
  | .sthK o => o.cond
  | .ldw o => o.cond
  | .ldwK o => o.cond
  | .stw o => o.cond
  | .stwK o => o.cond
  | .lddw o => o.cond
  | .nop _ => .always
  | .nop9 => .always
  | .idle => .always
  | .mv o => o.condition
  | .neg o => o.condition
  | .not o => o.condition
  | .zero o => o.condition
  | .mvkl o => o.cond
  | .mvklh o => o.cond
  | .addspS o => o.cond
  | .adddpS o => o.cond
  | .subspS o => o.cond
  | .subdpS o => o.cond

/-- The instructions only the C67x+ has (00_scope.md R3): the mixed-precision multiplies and the .S-unit
floating-point adds and subtracts. -/
def Instr.plusOnly : Instr → Bool
  | .mpyspdp _ | .mpysp2dp _ | .addspS _ | .adddpS _ | .subspS _ | .subdpS _ => true
  | _ => false

/-- The variant has the instruction and every register it names (30_encoding.md R152). -/
def Instr.available (v : Variant) (i : Instr) : Bool :=
  (i.specifiers.all fun r => r.toNat < v.registers) && (v == .c67xPlus || !i.plusOnly)

/-- The control-register addresses MVC can read (10_state.md R31). -/
def readableControl : List (BitVec 5) := [0, 1, 2, 4, 5, 6, 7, 16, 18, 19, 20]

/-- The control-register addresses MVC can write (10_state.md R31). -/
def writableControl : List (BitVec 5) := [0, 1, 2, 3, 4, 5, 6, 7, 18, 19, 20]

/-- The control-register address of an MVC is one the spec defines in its direction (10_state.md R31). -/
def Instr.controlAddressDefined : Instr → Bool
  | .mvcRead o => o.creg ∈ readableControl
  | .mvcWrite o => o.creg ∈ writableControl
  | _ => true

/-- A well-formed instruction of a variant. -/
def Instr.wellFormed (v : Variant) (i : Instr) : Bool := i.available v && i.controlAddressDefined

end Sys2Proof
end

