-- ==== Sys2Proof/Machine/Move.lean ====
section
/-! DEFINITION. The constant moves and MVC (43_compare_move.md R305 to R307). All are single-cycle. -/

namespace Sys2Proof.Machine

/-- MVK: the constant, sign-extended (R306). -/
def execMvk (o : Const16) (s : State) : Result := issueWord o.cond o.side o.dst 0 (o.cst.signExtend 32) s

/-- MVKH: the constant replaces the upper half (R307). -/
def execMvkh (o : Const16) (s : State) : Result :=
  issueWord o.cond o.side o.dst 0 (o.cst ++ lsb16 (s.src o.side o.dst)) s

/-- MVC from a control register (R305). An address that names no readable register gives a free word
(93_implementation_defined.md U6; log entry 13). -/
def execMvcRead (o : MvcRead) (s : State) : Result := issueOpen o.cond .b o.dst (s.control o.creg) s

/-- The power-down state after a reserved PWRD value: any of the four modes or none, by a free value
(93_implementation_defined.md U7; log entry 14). -/
def freePower (n : Nat) : Option PowerMode :=
  match (Config.freeWord n).toNat % 5 with
  | 0 => none
  | 1 => some .pd1Enabled
  | 2 => some .pd1Any
  | 3 => some .pd2
  | _ => some .pd3

/-- The value is a PWRD that the spec reserves, on a device with power-down (10_state.md R40). -/
def State.reservedPower (s : State) (v : Word) : Bool :=
  s.device.pwrdSupported && powerField (v.extractLsb' 10 6) == .reserved

/-- MVC to a control register (R305): the effect lands at the end of the cycle (10_state.md R32). After a reserved PWRD
value the power-down state is free (93_implementation_defined.md U7; log entry 14). Where the address names no writable
register the spec lets a loader refuse the word (U6; log entry 13). -/
def execMvcWrite (o : MvcWrite) (s : State) : Result :=
  guarded o.cond s
    (if o.creg ∉ writableControl then .refused .undefinedControlRegister
    else if o.creg = 1#5 ∧ s.reservedPower (s.srcX .b o.x o.src2) = true then
      .next ((s.draw.putControl (.write o.creg (s.srcX .b o.x o.src2))).putControl (.enterPower (freePower s.free)))
    else .next (s.putControl (.write o.creg (s.srcX .b o.x o.src2))))

end Sys2Proof.Machine
end

