-- ==== Sys2Proof/Machine/Multiply.lean ====
section
/-! DEFINITION. The integer multiplies (44_multiply.md): sixteen by sixteen bits with one delay slot (R343), SMPY with
saturation, MPYI and MPYID with four read cycles (40_execution_model.md R177). -/

namespace Sys2Proof.Machine

/-- The 32-bit pattern of an exact product (R320). -/
def product (a b : Int) : Word := BitVec.ofInt 32 (a * b)

/-- The source registers of a multiply whose src2 may come through the cross path. -/
def binNames {γ : Type} (o : Bin Reg Reg γ) : List RegName := [⟨o.side, o.src1⟩, ⟨crossSide o.side o.x, o.src2⟩]

/-- A conditional 32 by 32-bit multiply with a 32-bit result: it lands at i+8 and the sources are read over four cycles
(R341). -/
def issueMpyi (c : Cond) (side : Side) (dst : Reg) (a b : Int) (names : List RegName) (s : State) : Result :=
  guarded c s (.next (s.putWatched ⟨side, dst⟩ 8 (product a b) names 3))

/-- A conditional 32 by 32-bit multiply with a 64-bit result (R342). -/
def issueMpyid (c : Cond) (side : Side) (dst : Pair) (a b : Int) (names : List RegName) (s : State) : Result :=
  guarded c s (.next (s.putDouble side dst 8 (BitVec.ofInt 64 (a * b)) names 3))

/-- MPY `slsb16, xslsb16` (R321). -/
def execMpy (o : Bin Reg Reg Reg) (s : State) : Result :=
  issueWord o.cond o.side o.dst 1 (product (lsb16 (s.src o.side o.src1)).toInt (lsb16 (s.srcX o.side o.x o.src2)).toInt) s

/-- MPY `scst5, xslsb16`: the constant is sign-extended and used whole (R321). -/
def execMpyC (o : Bin Cst5 Reg Reg) (s : State) : Result :=
  issueWord o.cond o.side o.dst 1 (product o.src1.toInt (lsb16 (s.srcX o.side o.x o.src2)).toInt) s

/-- MPYU `ulsb16, xulsb16` (R322). -/
def execMpyu (o : Bin Reg Reg Reg) (s : State) : Result :=
  issueWord o.cond o.side o.dst 1 (product (lsb16 (s.src o.side o.src1)).toNat (lsb16 (s.srcX o.side o.x o.src2)).toNat) s

/-- MPYUS `ulsb16, xslsb16` (R323). -/
def execMpyus (o : Bin Reg Reg Reg) (s : State) : Result :=
  issueWord o.cond o.side o.dst 1 (product (lsb16 (s.src o.side o.src1)).toNat (lsb16 (s.srcX o.side o.x o.src2)).toInt) s

/-- MPYSU `slsb16, xulsb16` (R324). -/
def execMpysu (o : Bin Reg Reg Reg) (s : State) : Result :=
  issueWord o.cond o.side o.dst 1 (product (lsb16 (s.src o.side o.src1)).toInt (lsb16 (s.srcX o.side o.x o.src2)).toNat) s

/-- MPYSU `scst5, xulsb16` (R324). -/
def execMpysuC (o : Bin Cst5 Reg Reg) (s : State) : Result :=
  issueWord o.cond o.side o.dst 1 (product o.src1.toInt (lsb16 (s.srcX o.side o.x o.src2)).toNat) s

/-- MPYH `smsb16, xsmsb16` (R325). -/
def execMpyh (o : Bin Reg Reg Reg) (s : State) : Result :=
  issueWord o.cond o.side o.dst 1 (product (msb16 (s.src o.side o.src1)).toInt (msb16 (s.srcX o.side o.x o.src2)).toInt) s

/-- MPYHU `umsb16, xumsb16` (R326). -/
def execMpyhu (o : Bin Reg Reg Reg) (s : State) : Result :=
  issueWord o.cond o.side o.dst 1 (product (msb16 (s.src o.side o.src1)).toNat (msb16 (s.srcX o.side o.x o.src2)).toNat) s

/-- MPYHUS `umsb16, xsmsb16` (R327). -/
def execMpyhus (o : Bin Reg Reg Reg) (s : State) : Result :=
  issueWord o.cond o.side o.dst 1 (product (msb16 (s.src o.side o.src1)).toNat (msb16 (s.srcX o.side o.x o.src2)).toInt) s

/-- MPYHSU `smsb16, xumsb16` (R328). -/
def execMpyhsu (o : Bin Reg Reg Reg) (s : State) : Result :=
  issueWord o.cond o.side o.dst 1 (product (msb16 (s.src o.side o.src1)).toInt (msb16 (s.srcX o.side o.x o.src2)).toNat) s

/-- MPYHL `smsb16, xslsb16` (R329). -/
def execMpyhl (o : Bin Reg Reg Reg) (s : State) : Result :=
  issueWord o.cond o.side o.dst 1 (product (msb16 (s.src o.side o.src1)).toInt (lsb16 (s.srcX o.side o.x o.src2)).toInt) s

/-- MPYHLU `umsb16, xulsb16` (R330). -/
def execMpyhlu (o : Bin Reg Reg Reg) (s : State) : Result :=
  issueWord o.cond o.side o.dst 1 (product (msb16 (s.src o.side o.src1)).toNat (lsb16 (s.srcX o.side o.x o.src2)).toNat) s

/-- MPYHULS `umsb16, xslsb16` (R331). -/
def execMpyhuls (o : Bin Reg Reg Reg) (s : State) : Result :=
  issueWord o.cond o.side o.dst 1 (product (msb16 (s.src o.side o.src1)).toNat (lsb16 (s.srcX o.side o.x o.src2)).toInt) s

/-- MPYHSLU `smsb16, xulsb16` (R332). -/
def execMpyhslu (o : Bin Reg Reg Reg) (s : State) : Result :=
  issueWord o.cond o.side o.dst 1 (product (msb16 (s.src o.side o.src1)).toInt (lsb16 (s.srcX o.side o.x o.src2)).toNat) s

/-- MPYLH `slsb16, xsmsb16` (R333). -/
def execMpylh (o : Bin Reg Reg Reg) (s : State) : Result :=
  issueWord o.cond o.side o.dst 1 (product (lsb16 (s.src o.side o.src1)).toInt (msb16 (s.srcX o.side o.x o.src2)).toInt) s

/-- MPYLHU `ulsb16, xumsb16` (R334). -/
def execMpylhu (o : Bin Reg Reg Reg) (s : State) : Result :=
  issueWord o.cond o.side o.dst 1 (product (lsb16 (s.src o.side o.src1)).toNat (msb16 (s.srcX o.side o.x o.src2)).toNat) s

/-- MPYLUHS `ulsb16, xsmsb16` (R335). -/
def execMpyluhs (o : Bin Reg Reg Reg) (s : State) : Result :=
  issueWord o.cond o.side o.dst 1 (product (lsb16 (s.src o.side o.src1)).toNat (msb16 (s.srcX o.side o.x o.src2)).toInt) s

/-- MPYLSHU `slsb16, xumsb16` (R336). -/
def execMpylshu (o : Bin Reg Reg Reg) (s : State) : Result :=
  issueWord o.cond o.side o.dst 1 (product (lsb16 (s.src o.side o.src1)).toInt (msb16 (s.srcX o.side o.x o.src2)).toNat) s

/-- SMPY: the doubled product, clamped (R337). -/
def execSmpy (o : Bin Reg Reg Reg) (s : State) : Result :=
  issueSat32 o.cond o.side o.dst 1 (2 * ((lsb16 (s.src o.side o.src1)).toInt * (lsb16 (s.srcX o.side o.x o.src2)).toInt)) s

/-- SMPYH: the doubled product, clamped (R338). -/
def execSmpyh (o : Bin Reg Reg Reg) (s : State) : Result :=
  issueSat32 o.cond o.side o.dst 1 (2 * ((msb16 (s.src o.side o.src1)).toInt * (msb16 (s.srcX o.side o.x o.src2)).toInt)) s

/-- SMPYHL: the doubled product, clamped (R339). -/
def execSmpyhl (o : Bin Reg Reg Reg) (s : State) : Result :=
  issueSat32 o.cond o.side o.dst 1 (2 * ((msb16 (s.src o.side o.src1)).toInt * (lsb16 (s.srcX o.side o.x o.src2)).toInt)) s

/-- SMPYLH: the doubled product, clamped (R340). -/
def execSmpylh (o : Bin Reg Reg Reg) (s : State) : Result :=
  issueSat32 o.cond o.side o.dst 1 (2 * ((lsb16 (s.src o.side o.src1)).toInt * (msb16 (s.srcX o.side o.x o.src2)).toInt)) s

/-- MPYI `sint, xsint, sint` (R341). -/
def execMpyi (o : Bin Reg Reg Reg) (s : State) : Result :=
  issueMpyi o.cond o.side o.dst (s.src o.side o.src1).toInt (s.srcX o.side o.x o.src2).toInt (binNames o) s

/-- MPYI `cst5, xsint, sint` (R341). -/
def execMpyiC (o : Bin Cst5 Reg Reg) (s : State) : Result :=
  issueMpyi o.cond o.side o.dst o.src1.toInt (s.srcX o.side o.x o.src2).toInt
    [⟨crossSide o.side o.x, o.src2⟩] s

/-- MPYID `sint, xsint, sdint` (R342). -/
def execMpyid (o : Bin Reg Reg Pair) (s : State) : Result :=
  issueMpyid o.cond o.side o.dst (s.src o.side o.src1).toInt (s.srcX o.side o.x o.src2).toInt (binNames o) s

/-- MPYID `cst5, xsint, sdint` (R342). -/
def execMpyidC (o : Bin Cst5 Reg Pair) (s : State) : Result :=
  issueMpyid o.cond o.side o.dst o.src1.toInt (s.srcX o.side o.x o.src2).toInt
    [⟨crossSide o.side o.x, o.src2⟩] s

end Sys2Proof.Machine
end

