-- ==== Sys2Proof/Machine/Pseudo.lean ====
section
/-! DEFINITION. The pseudo-instructions: each form is the instruction it assembles to (30_encoding.md R165;
43_compare_move.md R300, R308; 41_integer_arith.md R240, R241; 42_logic_shift_bitfield.md R264; log entry 30). -/

namespace Sys2Proof.Machine

/-- MV: an ADD of zero (R300). -/
def execMv : MvForm → State → Result
  | .l o, s => execAddLC ⟨o.cond, o.side, o.x, 0#5, o.src2, o.dst⟩ s
  | .lLong o, s => execAddLLongC ⟨o.cond, o.side, 0#5, o.src2, o.dst⟩ s
  | .s o, s => execAddSC ⟨o.cond, o.side, o.x, 0#5, o.src2, o.dst⟩ s
  | .d o, s => execAddDC ⟨o.cond, o.side, 0#5, o.src2, o.dst⟩ s

/-- NEG: a SUB from zero (R240). -/
def execNeg : NegForm → State → Result
  | .l o, s => execSubLC ⟨o.cond, o.side, o.x, 0#5, o.src2, o.dst⟩ s
  | .lLong o, s => execSubLLongC ⟨o.cond, o.side, 0#5, o.src2, o.dst⟩ s
  | .s o, s => execSubSC ⟨o.cond, o.side, o.x, 0#5, o.src2, o.dst⟩ s

/-- NOT: an XOR with -1 (R264). -/
def execNot : NotForm → State → Result
  | .l o, s => execXorLC ⟨o.cond, o.side, o.x, 0b11111#5, o.src2, o.dst⟩ s
  | .s o, s => execXorSC ⟨o.cond, o.side, o.x, 0b11111#5, o.src2, o.dst⟩ s

/-- ZERO: a SUB of dst from itself, or MVK 0 (R241). -/
def execZero : ZeroForm → State → Result
  | .l o, s => execSubLX ⟨o.cond, o.side, false, o.dst, o.dst, o.dst⟩ s
  | .lLong o, s => execSubLWideX ⟨o.cond, o.side, false, Pair.even o.dst, Pair.even o.dst, o.dst⟩ s
  | .d o, s => execSubD ⟨o.cond, o.side, o.dst, o.dst, o.dst⟩ s
  | .sMvk o, s => execMvk ⟨o.cond, o.side, 0#16, o.dst⟩ s
  | .sSub o, s => execSubS ⟨o.cond, o.side, false, o.dst, o.dst, o.dst⟩ s

/-- MVKL: MVK of the constant's low half (R308). -/
def execMvkl (o : Const32) (s : State) : Result := execMvk ⟨o.cond, o.side, o.cst.extractLsb' 0 16, o.dst⟩ s

/-- MVKLH: MVKH of the constant's low half (R307). -/
def execMvklh (o : Const32) (s : State) : Result := execMvkh ⟨o.cond, o.side, o.cst.extractLsb' 0 16, o.dst⟩ s

end Sys2Proof.Machine
end

