-- ==== Sys2Proof/Machine/Dispatch.lean ====
section
/-! DEFINITION. The meaning of each instruction: one arm per constructor of `Instr`, one direct call. A meaning issues
its instruction into the current cycle: registers keep their values until the cycle ends (40_execution_model.md R176). -/

namespace Sys2Proof.Machine

def exec (i : Instr) (s : State) : Host.Outcome State Fault Refusal :=
  match i with
  | .abs o => Sys2Proof.Machine.execAbs o s
  | .absLong o => Sys2Proof.Machine.execAbsLong o s
  | .addL o => Sys2Proof.Machine.execAddL o s
  | .addLWide o => Sys2Proof.Machine.execAddLWide o s
  | .addLLong o => Sys2Proof.Machine.execAddLLong o s
  | .addLC o => Sys2Proof.Machine.execAddLC o s
  | .addLLongC o => Sys2Proof.Machine.execAddLLongC o s
  | .adduWide o => Sys2Proof.Machine.execAdduWide o s
  | .adduLong o => Sys2Proof.Machine.execAdduLong o s
  | .addspL o => Sys2Proof.Machine.execAddspL o s
  | .adddpL o => Sys2Proof.Machine.execAdddpL o s
  | .andL o => Sys2Proof.Machine.execAndL o s
  | .andLC o => Sys2Proof.Machine.execAndLC o s
  | .cmpeq o => Sys2Proof.Machine.execCmpeq o s
  | .cmpeqC o => Sys2Proof.Machine.execCmpeqC o s
  | .cmpeqLong o => Sys2Proof.Machine.execCmpeqLong o s
  | .cmpeqLongC o => Sys2Proof.Machine.execCmpeqLongC o s
  | .cmpgt o => Sys2Proof.Machine.execCmpgt o s
  | .cmpgtC o => Sys2Proof.Machine.execCmpgtC o s
  | .cmpgtLong o => Sys2Proof.Machine.execCmpgtLong o s
  | .cmpgtLongC o => Sys2Proof.Machine.execCmpgtLongC o s
  | .cmpgtu o => Sys2Proof.Machine.execCmpgtu o s
  | .cmpgtuC o => Sys2Proof.Machine.execCmpgtuC o s
  | .cmpgtuLong o => Sys2Proof.Machine.execCmpgtuLong o s
  | .cmpgtuLongC o => Sys2Proof.Machine.execCmpgtuLongC o s
  | .cmplt o => Sys2Proof.Machine.execCmplt o s
  | .cmpltC o => Sys2Proof.Machine.execCmpltC o s
  | .cmpltLong o => Sys2Proof.Machine.execCmpltLong o s
  | .cmpltLongC o => Sys2Proof.Machine.execCmpltLongC o s
  | .cmpltu o => Sys2Proof.Machine.execCmpltu o s
  | .cmpltuC o => Sys2Proof.Machine.execCmpltuC o s
  | .cmpltuLong o => Sys2Proof.Machine.execCmpltuLong o s
  | .cmpltuLongC o => Sys2Proof.Machine.execCmpltuLongC o s
  | .dpint o => Sys2Proof.Machine.execDpint o s
  | .dpsp o => Sys2Proof.Machine.execDpsp o s
  | .dptrunc o => Sys2Proof.Machine.execDptrunc o s
  | .intdp o => Sys2Proof.Machine.execIntdp o s
  | .intdpu o => Sys2Proof.Machine.execIntdpu o s
  | .intsp o => Sys2Proof.Machine.execIntsp o s
  | .intspu o => Sys2Proof.Machine.execIntspu o s
  | .lmbd o => Sys2Proof.Machine.execLmbd o s
  | .lmbdC o => Sys2Proof.Machine.execLmbdC o s
  | .norm o => Sys2Proof.Machine.execNorm o s
  | .normLong o => Sys2Proof.Machine.execNormLong o s
  | .orL o => Sys2Proof.Machine.execOrL o s
  | .orLC o => Sys2Proof.Machine.execOrLC o s
  | .sadd o => Sys2Proof.Machine.execSadd o s
  | .saddLong o => Sys2Proof.Machine.execSaddLong o s
  | .saddC o => Sys2Proof.Machine.execSaddC o s
  | .saddLongC o => Sys2Proof.Machine.execSaddLongC o s
  | .sat o => Sys2Proof.Machine.execSat o s
  | .spint o => Sys2Proof.Machine.execSpint o s
  | .sptrunc o => Sys2Proof.Machine.execSptrunc o s
  | .ssub o => Sys2Proof.Machine.execSsub o s
  | .ssubX o => Sys2Proof.Machine.execSsubX o s
  | .ssubC o => Sys2Proof.Machine.execSsubC o s
  | .ssubLongC o => Sys2Proof.Machine.execSsubLongC o s
  | .subL o => Sys2Proof.Machine.execSubL o s
  | .subLX o => Sys2Proof.Machine.execSubLX o s
  | .subLWide o => Sys2Proof.Machine.execSubLWide o s
  | .subLWideX o => Sys2Proof.Machine.execSubLWideX o s
  | .subLC o => Sys2Proof.Machine.execSubLC o s
  | .subLLongC o => Sys2Proof.Machine.execSubLLongC o s
  | .subuWide o => Sys2Proof.Machine.execSubuWide o s
  | .subuWideX o => Sys2Proof.Machine.execSubuWideX o s
  | .subc o => Sys2Proof.Machine.execSubc o s
  | .subspL o => Sys2Proof.Machine.execSubspL o s
  | .subspLX o => Sys2Proof.Machine.execSubspLX o s
  | .subdpL o => Sys2Proof.Machine.execSubdpL o s
  | .subdpLX o => Sys2Proof.Machine.execSubdpLX o s
  | .xorL o => Sys2Proof.Machine.execXorL o s
  | .xorLC o => Sys2Proof.Machine.execXorLC o s
  | .absdp o => Sys2Proof.Machine.execAbsdp o s
  | .abssp o => Sys2Proof.Machine.execAbssp o s
  | .addS o => Sys2Proof.Machine.execAddS o s
  | .addSC o => Sys2Proof.Machine.execAddSC o s
  | .add2 o => Sys2Proof.Machine.execAdd2 o s
  | .andS o => Sys2Proof.Machine.execAndS o s
  | .andSC o => Sys2Proof.Machine.execAndSC o s
  | .clrReg o => Sys2Proof.Machine.execClrReg o s
  | .cmpeqdp o => Sys2Proof.Machine.execCmpeqdp o s
  | .cmpeqsp o => Sys2Proof.Machine.execCmpeqsp o s
  | .cmpgtdp o => Sys2Proof.Machine.execCmpgtdp o s
  | .cmpgtsp o => Sys2Proof.Machine.execCmpgtsp o s
  | .cmpltdp o => Sys2Proof.Machine.execCmpltdp o s
  | .cmpltsp o => Sys2Proof.Machine.execCmpltsp o s
  | .extReg o => Sys2Proof.Machine.execExtReg o s
  | .extuReg o => Sys2Proof.Machine.execExtuReg o s
  | .orS o => Sys2Proof.Machine.execOrS o s
  | .orSC o => Sys2Proof.Machine.execOrSC o s
  | .rcpdp o => Sys2Proof.Machine.execRcpdp o s
  | .rcpsp o => Sys2Proof.Machine.execRcpsp o s
  | .rsqrdp o => Sys2Proof.Machine.execRsqrdp o s
  | .rsqrsp o => Sys2Proof.Machine.execRsqrsp o s
  | .setReg o => Sys2Proof.Machine.execSetReg o s
  | .shl o => Sys2Proof.Machine.execShl o s
  | .shlLong o => Sys2Proof.Machine.execShlLong o s
  | .shlWide o => Sys2Proof.Machine.execShlWide o s
  | .shlC o => Sys2Proof.Machine.execShlC o s
  | .shlLongC o => Sys2Proof.Machine.execShlLongC o s
  | .shlWideC o => Sys2Proof.Machine.execShlWideC o s
  | .shr o => Sys2Proof.Machine.execShr o s
  | .shrLong o => Sys2Proof.Machine.execShrLong o s
  | .shrC o => Sys2Proof.Machine.execShrC o s
  | .shrLongC o => Sys2Proof.Machine.execShrLongC o s
  | .shru o => Sys2Proof.Machine.execShru o s
  | .shruLong o => Sys2Proof.Machine.execShruLong o s
  | .shruC o => Sys2Proof.Machine.execShruC o s
  | .shruLongC o => Sys2Proof.Machine.execShruLongC o s
  | .spdp o => Sys2Proof.Machine.execSpdp o s
  | .sshl o => Sys2Proof.Machine.execSshl o s
  | .sshlC o => Sys2Proof.Machine.execSshlC o s
  | .subS o => Sys2Proof.Machine.execSubS o s
  | .subSC o => Sys2Proof.Machine.execSubSC o s
  | .sub2 o => Sys2Proof.Machine.execSub2 o s
  | .xorS o => Sys2Proof.Machine.execXorS o s
  | .xorSC o => Sys2Proof.Machine.execXorSC o s
  | .addD o => Sys2Proof.Machine.execAddD o s
  | .addDC o => Sys2Proof.Machine.execAddDC o s
  | .subD o => Sys2Proof.Machine.execSubD o s
  | .subDC o => Sys2Proof.Machine.execSubDC o s
  | .addab o => Sys2Proof.Machine.execAddab o s
  | .addabC o => Sys2Proof.Machine.execAddabC o s
  | .addah o => Sys2Proof.Machine.execAddah o s
  | .addahC o => Sys2Proof.Machine.execAddahC o s
  | .addaw o => Sys2Proof.Machine.execAddaw o s
  | .addawC o => Sys2Proof.Machine.execAddawC o s
  | .addad o => Sys2Proof.Machine.execAddad o s
  | .addadC o => Sys2Proof.Machine.execAddadC o s
  | .subab o => Sys2Proof.Machine.execSubab o s
  | .subabC o => Sys2Proof.Machine.execSubabC o s
  | .subah o => Sys2Proof.Machine.execSubah o s
  | .subahC o => Sys2Proof.Machine.execSubahC o s
  | .subaw o => Sys2Proof.Machine.execSubaw o s
  | .subawC o => Sys2Proof.Machine.execSubawC o s
  | .mpy o => Sys2Proof.Machine.execMpy o s
  | .mpyC o => Sys2Proof.Machine.execMpyC o s
  | .mpyu o => Sys2Proof.Machine.execMpyu o s
  | .mpyus o => Sys2Proof.Machine.execMpyus o s
  | .mpysu o => Sys2Proof.Machine.execMpysu o s
  | .mpysuC o => Sys2Proof.Machine.execMpysuC o s
  | .mpyh o => Sys2Proof.Machine.execMpyh o s
  | .mpyhu o => Sys2Proof.Machine.execMpyhu o s
  | .mpyhus o => Sys2Proof.Machine.execMpyhus o s
  | .mpyhsu o => Sys2Proof.Machine.execMpyhsu o s
  | .mpyhl o => Sys2Proof.Machine.execMpyhl o s
  | .mpyhlu o => Sys2Proof.Machine.execMpyhlu o s
  | .mpyhuls o => Sys2Proof.Machine.execMpyhuls o s
  | .mpyhslu o => Sys2Proof.Machine.execMpyhslu o s
  | .mpylh o => Sys2Proof.Machine.execMpylh o s
  | .mpylhu o => Sys2Proof.Machine.execMpylhu o s
  | .mpyluhs o => Sys2Proof.Machine.execMpyluhs o s
  | .mpylshu o => Sys2Proof.Machine.execMpylshu o s
  | .smpy o => Sys2Proof.Machine.execSmpy o s
  | .smpyhl o => Sys2Proof.Machine.execSmpyhl o s
  | .smpylh o => Sys2Proof.Machine.execSmpylh o s
  | .smpyh o => Sys2Proof.Machine.execSmpyh o s
  | .mpysp o => Sys2Proof.Machine.execMpysp o s
  | .mpydp o => Sys2Proof.Machine.execMpydp o s
  | .mpyi o => Sys2Proof.Machine.execMpyi o s
  | .mpyiC o => Sys2Proof.Machine.execMpyiC o s
  | .mpyid o => Sys2Proof.Machine.execMpyid o s
  | .mpyidC o => Sys2Proof.Machine.execMpyidC o s
  | .mpyspdp o => Sys2Proof.Machine.execMpyspdp o s
  | .mpysp2dp o => Sys2Proof.Machine.execMpysp2dp o s
  | .bReg o => Sys2Proof.Machine.execBReg o s
  | .bIrp c => Sys2Proof.Machine.execBIrp c s
  | .bNrp c => Sys2Proof.Machine.execBNrp c s
  | .mvcRead o => Sys2Proof.Machine.execMvcRead o s
  | .mvcWrite o => Sys2Proof.Machine.execMvcWrite o s
  | .extuConst o => Sys2Proof.Machine.execExtuConst o s
  | .extConst o => Sys2Proof.Machine.execExtConst o s
  | .setConst o => Sys2Proof.Machine.execSetConst o s
  | .clrConst o => Sys2Proof.Machine.execClrConst o s
  | .addk o => Sys2Proof.Machine.execAddk o s
  | .mvk o => Sys2Proof.Machine.execMvk o s
  | .mvkh o => Sys2Proof.Machine.execMvkh o s
  | .bDisp o => Sys2Proof.Machine.execBDisp o s
  | .ldhu o => Sys2Proof.Machine.execLdhu o s
  | .ldhuK o => Sys2Proof.Machine.execLdhuK o s
  | .ldbu o => Sys2Proof.Machine.execLdbu o s
  | .ldbuK o => Sys2Proof.Machine.execLdbuK o s
  | .ldb o => Sys2Proof.Machine.execLdb o s
  | .ldbK o => Sys2Proof.Machine.execLdbK o s
  | .stb o => Sys2Proof.Machine.execStb o s
  | .stbK o => Sys2Proof.Machine.execStbK o s
  | .ldh o => Sys2Proof.Machine.execLdh o s
  | .ldhK o => Sys2Proof.Machine.execLdhK o s
  | .sth o => Sys2Proof.Machine.execSth o s
  | .sthK o => Sys2Proof.Machine.execSthK o s
  | .ldw o => Sys2Proof.Machine.execLdw o s
  | .ldwK o => Sys2Proof.Machine.execLdwK o s
  | .stw o => Sys2Proof.Machine.execStw o s
  | .stwK o => Sys2Proof.Machine.execStwK o s
  | .lddw o => Sys2Proof.Machine.execLddw o s
  | .nop k => Sys2Proof.Machine.execNop k s
  | .nop9 => Sys2Proof.Machine.execNop9 s
  | .idle => Sys2Proof.Machine.execIdle s
  | .mv o => Sys2Proof.Machine.execMv o s
  | .neg o => Sys2Proof.Machine.execNeg o s
  | .not o => Sys2Proof.Machine.execNot o s
  | .zero o => Sys2Proof.Machine.execZero o s
  | .mvkl o => Sys2Proof.Machine.execMvkl o s
  | .mvklh o => Sys2Proof.Machine.execMvklh o s
  | .addspS o => Sys2Proof.Machine.execAddspS o s
  | .adddpS o => Sys2Proof.Machine.execAdddpS o s
  | .subspS o => Sys2Proof.Machine.execSubspS o s
  | .subdpS o => Sys2Proof.Machine.execSubdpS o s

end Sys2Proof.Machine
end

