-- ==== Sys2Proof/Decode.lean ====
section
/-! DEFINITION. The decoder, total on every word and rejecting by name, and after it the encoder (30_encoding.md). The
decoder follows R148: bits 6-2 give the format, the format's opfield gives the row. The encoder writes 0 in every
ignored bit (log entry 35). -/

namespace Sys2Proof

/-- Why a word is no instruction. -/
inductive Reject where
  /-- No row of the opcode table has this word (30_encoding.md R150). -/
  | unassigned
  /-- creg = 000 with z = 1, 110 or 111 (30_encoding.md R131). -/
  | reservedCondition
  /-- A load or store mode outside Table 3-11 (30_encoding.md R142). -/
  | reservedMode
  /-- An odd register number in a field that names a pair (30_encoding.md R153). -/
  | oddPair
deriving DecidableEq, Repr

/-- The register a 3-bit creg selects (30_encoding.md R130). -/
def CondReg.ofBits (b : BitVec 3) : Option CondReg :=
  if b = 0b001#3 then some .b0
  else if b = 0b010#3 then some .b1
  else if b = 0b011#3 then some .b2
  else if b = 0b100#3 then some .a1
  else if b = 0b101#3 then some .a2
  else none

/-- creg of a condition register (30_encoding.md R130). -/
def CondReg.bits : CondReg → BitVec 3
  | .b0 => 0b001#3
  | .b1 => 0b010#3
  | .b2 => 0b011#3
  | .a1 => 0b100#3
  | .a2 => 0b101#3

/-- The condition in bits 31-28 (30_encoding.md R130, R131). -/
def Cond.ofBits (b : BitVec 4) : Except Reject Cond :=
  if b = 0#4 then .ok .always
  else match CondReg.ofBits (b.extractLsb' 1 3) with
    | none => .error .reservedCondition
    | some r => if b.getLsbD 0 then .ok (.zero r) else .ok (.nonzero r)

/-- creg and z of a condition (30_encoding.md R130). -/
def Cond.bits : Cond → BitVec 4
  | .always => 0#4
  | .nonzero r => r.bits ++ 0#1
  | .zero r => r.bits ++ 1#1

/-- The one-bit form of a side: 0 = A, 1 = B (00_scope.md R14). -/
def Side.bit : Side → BitVec 1
  | .a => 0#1
  | .b => 1#1

/-- The side a bit names. -/
def Side.ofBit (b : Bool) : Side := if b then .b else .a

/-- A register field. -/
def regField (f : BitVec 5) : Except Reject Reg := .ok f

/-- A pair field holds the even register's number (30_encoding.md R153). -/
def pairField (f : BitVec 5) : Except Reject Pair :=
  if f.getLsbD 0 then .error .oddPair else .ok (f.extractLsb' 1 4)

/-- A 5-bit constant field. -/
def cst5Field (f : BitVec 5) : Except Reject Cst5 := .ok f

/-- A 4-bit constant field: bit 17 must be 0 (30_encoding.md R149, 93_implementation_defined.md U16). -/
def ucst4Field (f : BitVec 5) : Except Reject Ucst4 :=
  if f.getLsbD 4 then .error .unassigned else .ok (f.extractLsb' 0 4)

/-- Bits 31-28. -/
def condBits (w : Word) : BitVec 4 := w.extractLsb' 28 4

/-- Bits 27-23. -/
def dstBits (w : Word) : BitVec 5 := w.extractLsb' 23 5

/-- Bits 22-18. -/
def src2Bits (w : Word) : BitVec 5 := w.extractLsb' 18 5

/-- Bits 17-13. -/
def src1Bits (w : Word) : BitVec 5 := w.extractLsb' 13 5

/-- Bit 12. -/
def xBit (w : Word) : Bool := w.getLsbD 12

/-- The side named by bit 1. -/
def sideBit (w : Word) : Side := Side.ofBit (w.getLsbD 1)

/-- A row with two sources and a cross-path bit. -/
def decBin {α β γ : Type} (f1 : BitVec 5 → Except Reject α) (f2 : BitVec 5 → Except Reject β)
    (fd : BitVec 5 → Except Reject γ) (k : Bin α β γ → Instr) (w : Word) : Except Reject Instr := do
  let a ← f1 (src1Bits w)
  let b ← f2 (src2Bits w)
  let d ← fd (dstBits w)
  let c ← Cond.ofBits (condBits w)
  .ok (k ⟨c, sideBit w, xBit w, a, b, d⟩)

/-- A row with two sources and no cross-path operand: bit 12 is ignored, or belongs to the opfield (format D). -/
def decBinN {α β γ : Type} (f1 : BitVec 5 → Except Reject α) (f2 : BitVec 5 → Except Reject β)
    (fd : BitVec 5 → Except Reject γ) (k : BinN α β γ → Instr) (w : Word) : Except Reject Instr := do
  let a ← f1 (src1Bits w)
  let b ← f2 (src2Bits w)
  let d ← fd (dstBits w)
  let c ← Cond.ofBits (condBits w)
  .ok (k ⟨c, sideBit w, a, b, d⟩)

/-- A one-source row with a cross-path bit; bits 17-13 are ignored (30_encoding.md R154). -/
def decUn {β γ : Type} (f2 : BitVec 5 → Except Reject β) (fd : BitVec 5 → Except Reject γ)
    (k : Un β γ → Instr) (w : Word) : Except Reject Instr := do
  let b ← f2 (src2Bits w)
  let d ← fd (dstBits w)
  let c ← Cond.ofBits (condBits w)
  .ok (k ⟨c, sideBit w, xBit w, b, d⟩)

/-- A one-source row without a cross-path operand; bits 17-12 are ignored (30_encoding.md R154). -/
def decUnN {β γ : Type} (f2 : BitVec 5 → Except Reject β) (fd : BitVec 5 → Except Reject γ)
    (k : UnN β γ → Instr) (w : Word) : Except Reject Instr := do
  let b ← f2 (src2Bits w)
  let d ← fd (dstBits w)
  let c ← Cond.ofBits (condBits w)
  .ok (k ⟨c, sideBit w, b, d⟩)

/-- A one-source row of format L: bits 17-13 = 00000 are matched (30_encoding.md R154). -/
def decUnZero {β γ : Type} (f2 : BitVec 5 → Except Reject β) (fd : BitVec 5 → Except Reject γ)
    (k : Un β γ → Instr) (w : Word) : Except Reject Instr :=
  if src1Bits w = 0#5 then decUn f2 fd k w else .error .unassigned

/-- The same without a cross-path operand: bit 12 is ignored (30_encoding.md R154). -/
def decUnNZero {β γ : Type} (f2 : BitVec 5 → Except Reject β) (fd : BitVec 5 → Except Reject γ)
    (k : UnN β γ → Instr) (w : Word) : Except Reject Instr :=
  if src1Bits w = 0#5 then decUnN f2 fd k w else .error .unassigned

/-- B with a register: dst = src1 = 00000 and s = 1 (30_encoding.md R146). -/
def decBranchReg (w : Word) : Except Reject Instr :=
  if dstBits w = 0#5 ∧ src1Bits w = 0#5 ∧ w.getLsbD 1 then do
    let c ← Cond.ofBits (condBits w)
    .ok (.bReg ⟨c, xBit w, src2Bits w⟩)
  else .error .unassigned

/-- B IRP and B NRP: the src2 field is 00110 or 00111 (30_encoding.md R146); the x bit is ignored (R154,
92_eei_decisions.md D9; log entry 35). -/
def decReturn (w : Word) : Except Reject Instr :=
  if dstBits w = 0#5 ∧ src1Bits w = 0#5 ∧ w.getLsbD 1 then
    if src2Bits w = 0b00110#5 then do
      let c ← Cond.ofBits (condBits w)
      .ok (.bIrp c)
    else if src2Bits w = 0b00111#5 then do
      let c ← Cond.ofBits (condBits w)
      .ok (.bNrp c)
    else .error .unassigned
  else .error .unassigned

/-- MVC from a control register: src1 = 00000, s = 1 (43_compare_move.md R305). No operand can use the cross path, so the
x bit is ignored (R154, 92_eei_decisions.md D9; log entry 35). -/
def decMvcRead (w : Word) : Except Reject Instr :=
  if src1Bits w = 0#5 ∧ w.getLsbD 1 then do
    let c ← Cond.ofBits (condBits w)
    .ok (.mvcRead ⟨c, src2Bits w, dstBits w⟩)
  else .error .unassigned

/-- MVC to a control register: src1 = 00000, s = 1 (43_compare_move.md R305). -/
def decMvcWrite (w : Word) : Except Reject Instr :=
  if src1Bits w = 0#5 ∧ w.getLsbD 1 then do
    let c ← Cond.ofBits (condBits w)
    .ok (.mvcWrite ⟨c, xBit w, src2Bits w, dstBits w⟩)
  else .error .unassigned

/-- Opfields of format L, bits 11-5 (30_encoding.md R155), first half. -/
def lRows1 : List (BitVec 7 × (Word → Except Reject Instr)) :=
  [(0b0011010#7, decUnZero regField regField .abs),
   (0b0111000#7, decUnNZero pairField pairField .absLong),
   (0b0000011#7, decBin regField regField regField .addL),
   (0b0100011#7, decBin regField regField pairField .addLWide),
   (0b0100001#7, decBin regField pairField pairField .addLLong),
   (0b0000010#7, decBin cst5Field regField regField .addLC),
   (0b0100000#7, decBinN cst5Field pairField pairField .addLLongC),
   (0b0101011#7, decBin regField regField pairField .adduWide),
   (0b0101001#7, decBin regField pairField pairField .adduLong),
   (0b0010000#7, decBin regField regField regField .addspL),
   (0b0011000#7, decBin pairField pairField pairField .adddpL),
   (0b1111011#7, decBin regField regField regField .andL),
   (0b1111010#7, decBin cst5Field regField regField .andLC),
   (0b1010011#7, decBin regField regField regField .cmpeq),
   (0b1010010#7, decBin cst5Field regField regField .cmpeqC),
   (0b1010001#7, decBin regField pairField regField .cmpeqLong),
   (0b1010000#7, decBinN cst5Field pairField regField .cmpeqLongC),
   (0b1000111#7, decBin regField regField regField .cmpgt),
   (0b1000110#7, decBin cst5Field regField regField .cmpgtC),
   (0b1000101#7, decBin regField pairField regField .cmpgtLong),
   (0b1000100#7, decBinN cst5Field pairField regField .cmpgtLongC),
   (0b1001111#7, decBin regField regField regField .cmpgtu),
   (0b1001110#7, decBin ucst4Field regField regField .cmpgtuC),
   (0b1001101#7, decBin regField pairField regField .cmpgtuLong),
   (0b1001100#7, decBinN ucst4Field pairField regField .cmpgtuLongC),
   (0b1010111#7, decBin regField regField regField .cmplt),
   (0b1010110#7, decBin cst5Field regField regField .cmpltC),
   (0b1010101#7, decBin regField pairField regField .cmpltLong),
   (0b1010100#7, decBinN cst5Field pairField regField .cmpltLongC),
   (0b1011111#7, decBin regField regField regField .cmpltu),
   (0b1011110#7, decBin ucst4Field regField regField .cmpltuC),
   (0b1011101#7, decBin regField pairField regField .cmpltuLong),
   (0b1011100#7, decBinN ucst4Field pairField regField .cmpltuLongC),
   (0b0001000#7, decUnNZero pairField regField .dpint),
   (0b0001001#7, decUnNZero pairField regField .dpsp),
   (0b0000001#7, decUnNZero pairField regField .dptrunc)]

/-- Opfields of format L, bits 11-5 (30_encoding.md R155), second half. -/
def lRows2 : List (BitVec 7 × (Word → Except Reject Instr)) :=
  [(0b0111001#7, decUnZero regField pairField .intdp),
   (0b0111011#7, decUnZero regField pairField .intdpu),
   (0b1001010#7, decUnZero regField regField .intsp),
   (0b1001001#7, decUnZero regField regField .intspu),
   (0b1101011#7, decBin regField regField regField .lmbd),
   (0b1101010#7, decBin cst5Field regField regField .lmbdC),
   (0b1100011#7, decUnZero regField regField .norm),
   (0b1100000#7, decUnNZero pairField regField .normLong),
   (0b1111111#7, decBin regField regField regField .orL),
   (0b1111110#7, decBin cst5Field regField regField .orLC),
   (0b0010011#7, decBin regField regField regField .sadd),
   (0b0110001#7, decBin regField pairField pairField .saddLong),
   (0b0010010#7, decBin cst5Field regField regField .saddC),
   (0b0110000#7, decBinN cst5Field pairField pairField .saddLongC),
   (0b1000000#7, decUnNZero pairField regField .sat),
   (0b0001010#7, decUnZero regField regField .spint),
   (0b0001011#7, decUnZero regField regField .sptrunc),
   (0b0001111#7, decBin regField regField regField .ssub),
   (0b0011111#7, decBin regField regField regField .ssubX),
   (0b0001110#7, decBin cst5Field regField regField .ssubC),
   (0b0101100#7, decBinN cst5Field pairField pairField .ssubLongC),
   (0b0000111#7, decBin regField regField regField .subL),
   (0b0010111#7, decBin regField regField regField .subLX),
   (0b0100111#7, decBin regField regField pairField .subLWide),
   (0b0110111#7, decBin regField regField pairField .subLWideX),
   (0b0000110#7, decBin cst5Field regField regField .subLC),
   (0b0100100#7, decBinN cst5Field pairField pairField .subLLongC),
   (0b0101111#7, decBin regField regField pairField .subuWide),
   (0b0111111#7, decBin regField regField pairField .subuWideX),
   (0b1001011#7, decBin regField regField regField .subc),
   (0b0010001#7, decBin regField regField regField .subspL),
   (0b0010101#7, decBin regField regField regField .subspLX),
   (0b0011001#7, decBin pairField pairField pairField .subdpL),
   (0b0011101#7, decBin pairField pairField pairField .subdpLX),
   (0b1101111#7, decBin regField regField regField .xorL),
   (0b1101110#7, decBin cst5Field regField regField .xorLC)]

/-- Opfields of format L, bits 11-5 (30_encoding.md R155). -/
def lRows : List (BitVec 7 × (Word → Except Reject Instr)) := lRows1 ++ lRows2

/-- Opfields of format S, bits 11-6 (30_encoding.md R156), first half. -/
def sRows1 : List (BitVec 6 × (Word → Except Reject Instr)) :=
  [(0b101100#6, decUnN pairField pairField .absdp),
   (0b111100#6, decUn regField regField .abssp),
   (0b000111#6, decBin regField regField regField .addS),
   (0b000110#6, decBin cst5Field regField regField .addSC),
   (0b000001#6, decBin regField regField regField .add2),
   (0b011111#6, decBin regField regField regField .andS),
   (0b011110#6, decBin cst5Field regField regField .andSC),
   (0b111111#6, decBin regField regField regField .clrReg),
   (0b101000#6, decBin pairField pairField regField .cmpeqdp),
   (0b111000#6, decBin regField regField regField .cmpeqsp),
   (0b101001#6, decBin pairField pairField regField .cmpgtdp),
   (0b111001#6, decBin regField regField regField .cmpgtsp),
   (0b101010#6, decBin pairField pairField regField .cmpltdp),
   (0b111010#6, decBin regField regField regField .cmpltsp),
   (0b101111#6, decBin regField regField regField .extReg),
   (0b101011#6, decBin regField regField regField .extuReg),
   (0b011011#6, decBin regField regField regField .orS),
   (0b011010#6, decBin cst5Field regField regField .orSC),
   (0b101101#6, decUnN pairField pairField .rcpdp),
   (0b111101#6, decUn regField regField .rcpsp),
   (0b101110#6, decUnN pairField pairField .rsqrdp),
   (0b111110#6, decUn regField regField .rsqrsp),
   (0b111011#6, decBin regField regField regField .setReg),
   (0b110011#6, decBin regField regField regField .shl),
   (0b110001#6, decBinN regField pairField pairField .shlLong)]

/-- Opfields of format S, bits 11-6 (30_encoding.md R156), second half. -/
def sRows2 : List (BitVec 6 × (Word → Except Reject Instr)) :=
  [(0b010011#6, decBin regField regField pairField .shlWide),
   (0b110010#6, decBin cst5Field regField regField .shlC),
   (0b110000#6, decBinN cst5Field pairField pairField .shlLongC),
   (0b010010#6, decBin cst5Field regField pairField .shlWideC),
   (0b110111#6, decBin regField regField regField .shr),
   (0b110101#6, decBinN regField pairField pairField .shrLong),
   (0b110110#6, decBin cst5Field regField regField .shrC),
   (0b110100#6, decBinN cst5Field pairField pairField .shrLongC),
   (0b100111#6, decBin regField regField regField .shru),
   (0b100101#6, decBinN regField pairField pairField .shruLong),
   (0b100110#6, decBin cst5Field regField regField .shruC),
   (0b100100#6, decBinN cst5Field pairField pairField .shruLongC),
   (0b000010#6, decUn regField pairField .spdp),
   (0b100011#6, decBin regField regField regField .sshl),
   (0b100010#6, decBin cst5Field regField regField .sshlC),
   (0b010111#6, decBin regField regField regField .subS),
   (0b010110#6, decBin cst5Field regField regField .subSC),
   (0b010001#6, decBin regField regField regField .sub2),
   (0b001011#6, decBin regField regField regField .xorS),
   (0b001010#6, decBin cst5Field regField regField .xorSC),
   (0b001101#6, decBranchReg),
   (0b000011#6, decReturn),
   (0b001111#6, decMvcRead),
   (0b001110#6, decMvcWrite)]

/-- Opfields of format S, bits 11-6 (30_encoding.md R156). -/
def sRows : List (BitVec 6 × (Word → Except Reject Instr)) := sRows1 ++ sRows2

/-- Opfields of format D, bits 12-7 (30_encoding.md R157). -/
def dRows : List (BitVec 6 × (Word → Except Reject Instr)) :=
  [(0b010000#6, decBinN regField regField regField .addD),
   (0b010010#6, decBinN cst5Field regField regField .addDC),
   (0b010001#6, decBinN regField regField regField .subD),
   (0b010011#6, decBinN cst5Field regField regField .subDC),
   (0b110000#6, decBinN regField regField regField .addab),
   (0b110010#6, decBinN cst5Field regField regField .addabC),
   (0b110100#6, decBinN regField regField regField .addah),
   (0b110110#6, decBinN cst5Field regField regField .addahC),
   (0b111000#6, decBinN regField regField regField .addaw),
   (0b111010#6, decBinN cst5Field regField regField .addawC),
   (0b111100#6, decBinN regField regField regField .addad),
   (0b111101#6, decBinN cst5Field regField regField .addadC),
   (0b110001#6, decBinN regField regField regField .subab),
   (0b110011#6, decBinN cst5Field regField regField .subabC),
   (0b110101#6, decBinN regField regField regField .subah),
   (0b110111#6, decBinN cst5Field regField regField .subahC),
   (0b111001#6, decBinN regField regField regField .subaw),
   (0b111011#6, decBinN cst5Field regField regField .subawC)]

/-- Opfields of format M, bits 11-7 (30_encoding.md R158). -/
def mRows : List (BitVec 5 × (Word → Except Reject Instr)) :=
  [(0b11001#5, decBin regField regField regField .mpy),
   (0b11000#5, decBin cst5Field regField regField .mpyC),
   (0b11111#5, decBin regField regField regField .mpyu),
   (0b11101#5, decBin regField regField regField .mpyus),
   (0b11011#5, decBin regField regField regField .mpysu),
   (0b11110#5, decBin cst5Field regField regField .mpysuC),
   (0b00001#5, decBin regField regField regField .mpyh),
   (0b00111#5, decBin regField regField regField .mpyhu),
   (0b00101#5, decBin regField regField regField .mpyhus),
   (0b00011#5, decBin regField regField regField .mpyhsu),
   (0b01001#5, decBin regField regField regField .mpyhl),
   (0b01111#5, decBin regField regField regField .mpyhlu),
   (0b01101#5, decBin regField regField regField .mpyhuls),
   (0b01011#5, decBin regField regField regField .mpyhslu),
   (0b10001#5, decBin regField regField regField .mpylh),
   (0b10111#5, decBin regField regField regField .mpylhu),
   (0b10101#5, decBin regField regField regField .mpyluhs),
   (0b10011#5, decBin regField regField regField .mpylshu),
   (0b11010#5, decBin regField regField regField .smpy),
   (0b01010#5, decBin regField regField regField .smpyhl),
   (0b10010#5, decBin regField regField regField .smpylh),
   (0b00010#5, decBin regField regField regField .smpyh),
   (0b11100#5, decBin regField regField regField .mpysp),
   (0b01110#5, decBin pairField pairField pairField .mpydp),
   (0b00100#5, decBin regField regField regField .mpyi),
   (0b00110#5, decBin cst5Field regField regField .mpyiC),
   (0b01000#5, decBin regField regField pairField .mpyid),
   (0b01100#5, decBin cst5Field regField pairField .mpyidC)]

/-- Opfields of format Mx, bits 10-6 (30_encoding.md R158). -/
def mxRows : List (BitVec 5 × (Word → Except Reject Instr)) :=
  [(0b10110#5, decBin regField pairField pairField .mpyspdp),
   (0b10111#5, decBin regField regField pairField .mpysp2dp)]

/-- Format LS with a single register of data (30_encoding.md R140). -/
def decMem {γ : Type} (fd : BitVec 5 → Except Reject γ) (k : Mem γ → Instr) (w : Word) : Except Reject Instr := do
  let d ← fd (dstBits w)
  let (m, o) ← modeField (w.extractLsb' 9 4) (src1Bits w)
  let c ← Cond.ofBits (condBits w)
  .ok (k ⟨c, Side.ofBit (w.getLsbD 7), sideBit w, m, src2Bits w, o, d⟩)
where
  /-- The mode field of Table 3-11 (30_encoding.md R142). -/
  modeField (m : BitVec 4) (f : BitVec 5) : Except Reject (AddrMode × Offset) :=
    if m = 0b0000#4 then .ok (.negOffset, .cst f)
    else if m = 0b0001#4 then .ok (.posOffset, .cst f)
    else if m = 0b0100#4 then .ok (.negOffset, .reg f)
    else if m = 0b0101#4 then .ok (.posOffset, .reg f)
    else if m = 0b1000#4 then .ok (.preDec, .cst f)
    else if m = 0b1001#4 then .ok (.preInc, .cst f)
    else if m = 0b1010#4 then .ok (.postDec, .cst f)
    else if m = 0b1011#4 then .ok (.postInc, .cst f)
    else if m = 0b1100#4 then .ok (.preDec, .reg f)
    else if m = 0b1101#4 then .ok (.preInc, .reg f)
    else if m = 0b1110#4 then .ok (.postDec, .reg f)
    else if m = 0b1111#4 then .ok (.postInc, .reg f)
    else .error .reservedMode

/-- Format LSK (30_encoding.md R141). -/
def decMemK (k : MemK → Instr) (w : Word) : Except Reject Instr := do
  let c ← Cond.ofBits (condBits w)
  .ok (k ⟨c, sideBit w, w.getLsbD 7, w.extractLsb' 8 15, dstBits w⟩)

/-- The r bit and the ld/st field of format LS (30_encoding.md R140). -/
def lsRows : List (BitVec 4 × (Word → Except Reject Instr)) :=
  [(0b0000#4, decMem regField .ldhu),
   (0b0001#4, decMem regField .ldbu),
   (0b0010#4, decMem regField .ldb),
   (0b0011#4, decMem regField .stb),
   (0b0100#4, decMem regField .ldh),
   (0b0101#4, decMem regField .sth),
   (0b0110#4, decMem regField .ldw),
   (0b0111#4, decMem regField .stw),
   (0b1110#4, decMem pairField .lddw)]

/-- The ld/st field of format LSK (30_encoding.md R141). -/
def lskRows : List (BitVec 3 × (Word → Except Reject Instr)) :=
  [(0b000#3, decMemK .ldhuK),
   (0b001#3, decMemK .ldbuK),
   (0b010#3, decMemK .ldbK),
   (0b011#3, decMemK .stbK),
   (0b100#3, decMemK .ldhK),
   (0b101#3, decMemK .sthK),
   (0b110#3, decMemK .ldwK),
   (0b111#3, decMemK .stwK)]

/-- Format SF (30_encoding.md R144). -/
def decField (k : FieldOp → Instr) (w : Word) : Except Reject Instr := do
  let c ← Cond.ofBits (condBits w)
  .ok (k ⟨c, sideBit w, src2Bits w, src1Bits w, w.extractLsb' 8 5, dstBits w⟩)

/-- Bits 7-6 of format SF (30_encoding.md R144). -/
def sfRows : List (BitVec 2 × (Word → Except Reject Instr)) :=
  [(0b00#2, decField .extuConst),
   (0b01#2, decField .extConst),
   (0b10#2, decField .setConst),
   (0b11#2, decField .clrConst)]

/-- Format SK16 (30_encoding.md R143). -/
def decConst16 (k : Const16 → Instr) (w : Word) : Except Reject Instr := do
  let c ← Cond.ofBits (condBits w)
  .ok (k ⟨c, sideBit w, w.extractLsb' 7 16, dstBits w⟩)

/-- Format SB (30_encoding.md R145). -/
def decDisp (w : Word) : Except Reject Instr := do
  let c ← Cond.ofBits (condBits w)
  .ok (.bDisp ⟨c, sideBit w, w.extractLsb' 7 21⟩)

/-- Format N (30_encoding.md R147): bits 31-17 and 12-1 are 0. -/
def decNop (w : Word) : Except Reject Instr :=
  if w.extractLsb' 17 15 = 0#15 ∧ w.extractLsb' 1 12 = 0#12 then
    if w.getLsbD 16 = false then .ok (.nop (w.extractLsb' 13 3))
    else if w.extractLsb' 13 4 = 0b1000#4 then .ok .nop9
    else if w.extractLsb' 13 4 = 0b1111#4 then .ok .idle
    else .error .unassigned
  else .error .unassigned

/-- The row of a table with this opfield, or no row (30_encoding.md R150). -/
def findRow {n : Nat} (rows : List (BitVec n × (Word → Except Reject Instr))) (op : BitVec n) (w : Word) :
    Except Reject Instr :=
  match rows.lookup op with
  | some f => f w
  | none => .error .unassigned

/-- The instruction of a word, whatever its p-bit (30_encoding.md R148). -/
def decode (w : Word) : Except Reject Instr :=
  if w.extractLsb' 2 2 = 0b01#2 then findRow lsRows (w.extractLsb' 8 1 ++ w.extractLsb' 4 3) w
  else if w.extractLsb' 2 2 = 0b11#2 then findRow lskRows (w.extractLsb' 4 3) w
  else if w.extractLsb' 2 3 = 0b110#3 then findRow lRows (w.extractLsb' 5 7) w
  else if w.extractLsb' 2 4 = 0b1000#4 then findRow sRows (w.extractLsb' 6 6) w
  else if w.extractLsb' 2 4 = 0b1100#4 then
    if w.getLsbD 11 then .error .unassigned else findRow mxRows (w.extractLsb' 6 5) w
  else if w.extractLsb' 2 4 = 0b1010#4 then decConst16 (if w.getLsbD 6 then .mvkh else .mvk) w
  else if w.extractLsb' 2 4 = 0b0010#4 then findRow sfRows (w.extractLsb' 6 2) w
  else if w.extractLsb' 2 5 = 0b10000#5 then findRow dRows (w.extractLsb' 7 6) w
  else if w.extractLsb' 2 5 = 0b10100#5 then decConst16 .addk w
  else if w.extractLsb' 2 5 = 0b00100#5 then decDisp w
  else if w.extractLsb' 7 5 = 0#5 then decNop w
  else findRow mRows (w.extractLsb' 7 5) w

/-- The p-bit, bit 0 (30_encoding.md R123). -/
def pBit (w : Word) : Bool := w.getLsbD 0

/-- The decoder on the bits of an instruction as spec/opcode_table.json numbers them. Every instruction is one 32-bit
word (30_encoding.md R120). -/
def decodeTableWord (nbits w : Nat) : Option Instr :=
  match decode (BitVec.ofNat 32 (w % 2 ^ nbits)) with
  | .ok i => some i
  | .error _ => none

/-- The word of a pseudo-instruction is another instruction's (30_encoding.md R165). ZERO on .S has the MVK form and
the SUB form. -/
def Instr.expand : Instr → Instr
  | .mv (.l o) => .addLC ⟨o.cond, o.side, o.x, 0#5, o.src2, o.dst⟩
  | .mv (.lLong o) => .addLLongC ⟨o.cond, o.side, 0#5, o.src2, o.dst⟩
  | .mv (.s o) => .addSC ⟨o.cond, o.side, o.x, 0#5, o.src2, o.dst⟩
  | .mv (.d o) => .addDC ⟨o.cond, o.side, 0#5, o.src2, o.dst⟩
  | .neg (.l o) => .subLC ⟨o.cond, o.side, o.x, 0#5, o.src2, o.dst⟩
  | .neg (.lLong o) => .subLLongC ⟨o.cond, o.side, 0#5, o.src2, o.dst⟩
  | .neg (.s o) => .subSC ⟨o.cond, o.side, o.x, 0#5, o.src2, o.dst⟩
  | .not (.l o) => .xorLC ⟨o.cond, o.side, o.x, 0b11111#5, o.src2, o.dst⟩
  | .not (.s o) => .xorSC ⟨o.cond, o.side, o.x, 0b11111#5, o.src2, o.dst⟩
  | .zero (.l o) => .subLX ⟨o.cond, o.side, false, o.dst, o.dst, o.dst⟩
  | .zero (.lLong o) => .subLWideX ⟨o.cond, o.side, false, Pair.even o.dst, Pair.even o.dst, o.dst⟩
  | .zero (.d o) => .subD ⟨o.cond, o.side, o.dst, o.dst, o.dst⟩
  | .zero (.sMvk o) => .mvk ⟨o.cond, o.side, 0#16, o.dst⟩
  | .zero (.sSub o) => .subS ⟨o.cond, o.side, false, o.dst, o.dst, o.dst⟩
  | .mvkl o => .mvk ⟨o.cond, o.side, o.cst.extractLsb' 0 16, o.dst⟩
  | .mvklh o => .mvkh ⟨o.cond, o.side, o.cst.extractLsb' 0 16, o.dst⟩
  | i => i

/-- The fields common to formats L, S, D, M and Mx: bits 11-2 are the format's and the opfield's, and so is bit 12 on
format D (30_encoding.md R135 to R139). -/
def assemble (c : Cond) (dst src2 src1 : BitVec 5) (x : BitVec 1) (low : BitVec 10) (s : Side) (p : Bool) : Word :=
  c.bits ++ dst ++ src2 ++ src1 ++ x ++ low ++ s.bit ++ BitVec.ofBool p

/-- Format LS (30_encoding.md R140). -/
def assembleMem {γ : Type} (o : Mem γ) (data : BitVec 5) (r : BitVec 1) (ldst : BitVec 3) (p : Bool) : Word :=
  o.cond.bits ++ data ++ o.base ++ offsetBits o.offset ++ modeBits o.mode o.offset ++ r ++ o.unit.bit ++ ldst ++
    0b01#2 ++ o.side.bit ++ BitVec.ofBool p
where
  /-- offsetR or ucst5. -/
  offsetBits : Offset → BitVec 5
    | .cst k => k
    | .reg r => r
  /-- The mode field (30_encoding.md R142). -/
  modeBits : AddrMode → Offset → BitVec 4
    | .negOffset, .cst _ => 0b0000#4
    | .posOffset, .cst _ => 0b0001#4
    | .negOffset, .reg _ => 0b0100#4
    | .posOffset, .reg _ => 0b0101#4
    | .preDec, .cst _ => 0b1000#4
    | .preInc, .cst _ => 0b1001#4
    | .postDec, .cst _ => 0b1010#4
    | .postInc, .cst _ => 0b1011#4
    | .preDec, .reg _ => 0b1100#4
    | .preInc, .reg _ => 0b1101#4
    | .postDec, .reg _ => 0b1110#4
    | .postInc, .reg _ => 0b1111#4

/-- Format LSK (30_encoding.md R141). -/
def assembleMemK (o : MemK) (ldst : BitVec 3) (p : Bool) : Word :=
  o.cond.bits ++ o.data ++ o.ucst15 ++ BitVec.ofBool o.fromB15 ++ ldst ++ 0b11#2 ++ o.side.bit ++ BitVec.ofBool p

/-- Format SF (30_encoding.md R144). -/
def assembleField (o : FieldOp) (op : BitVec 2) (p : Bool) : Word :=
  o.cond.bits ++ o.dst ++ o.src2 ++ o.csta ++ o.cstb ++ op ++ 0b0010#4 ++ o.side.bit ++ BitVec.ofBool p

/-- Format SK16 (30_encoding.md R143). -/
def assembleConst16 (o : Const16) (low : BitVec 5) (p : Bool) : Word :=
  o.cond.bits ++ o.dst ++ o.cst ++ low ++ o.side.bit ++ BitVec.ofBool p

/-- The one-bit form of the x field. -/
def crossBit (x : Bool) : BitVec 1 := BitVec.ofBool x

/-- The word of an instruction with the given p-bit, none for the four whose encoding the spec does not have
(30_encoding.md R151). -/
def encode (p : Bool) (i : Instr) : Option Word :=
  match i.expand with
  | .abs o => some (assemble o.cond o.dst o.src2 0#5 (crossBit o.x) 0b0011010110#10 o.side p)
  | .absLong o => some (assemble o.cond (Pair.even o.dst) (Pair.even o.src2) 0#5 0#1 0b0111000110#10 o.side p)
  | .addL o => some (assemble o.cond o.dst o.src2 o.src1 (crossBit o.x) 0b0000011110#10 o.side p)
  | .addLWide o => some (assemble o.cond (Pair.even o.dst) o.src2 o.src1 (crossBit o.x) 0b0100011110#10 o.side p)
  | .addLLong o => some (assemble o.cond (Pair.even o.dst) (Pair.even o.src2) o.src1 (crossBit o.x) 0b0100001110#10 o.side p)
  | .addLC o => some (assemble o.cond o.dst o.src2 o.src1 (crossBit o.x) 0b0000010110#10 o.side p)
  | .addLLongC o => some (assemble o.cond (Pair.even o.dst) (Pair.even o.src2) o.src1 0#1 0b0100000110#10 o.side p)
  | .adduWide o => some (assemble o.cond (Pair.even o.dst) o.src2 o.src1 (crossBit o.x) 0b0101011110#10 o.side p)
  | .adduLong o => some (assemble o.cond (Pair.even o.dst) (Pair.even o.src2) o.src1 (crossBit o.x) 0b0101001110#10 o.side p)
  | .addspL o => some (assemble o.cond o.dst o.src2 o.src1 (crossBit o.x) 0b0010000110#10 o.side p)
  | .adddpL o => some (assemble o.cond (Pair.even o.dst) (Pair.even o.src2) (Pair.even o.src1) (crossBit o.x) 0b0011000110#10 o.side p)
  | .andL o => some (assemble o.cond o.dst o.src2 o.src1 (crossBit o.x) 0b1111011110#10 o.side p)
  | .andLC o => some (assemble o.cond o.dst o.src2 o.src1 (crossBit o.x) 0b1111010110#10 o.side p)
  | .cmpeq o => some (assemble o.cond o.dst o.src2 o.src1 (crossBit o.x) 0b1010011110#10 o.side p)
  | .cmpeqC o => some (assemble o.cond o.dst o.src2 o.src1 (crossBit o.x) 0b1010010110#10 o.side p)
  | .cmpeqLong o => some (assemble o.cond o.dst (Pair.even o.src2) o.src1 (crossBit o.x) 0b1010001110#10 o.side p)
  | .cmpeqLongC o => some (assemble o.cond o.dst (Pair.even o.src2) o.src1 0#1 0b1010000110#10 o.side p)
  | .cmpgt o => some (assemble o.cond o.dst o.src2 o.src1 (crossBit o.x) 0b1000111110#10 o.side p)
  | .cmpgtC o => some (assemble o.cond o.dst o.src2 o.src1 (crossBit o.x) 0b1000110110#10 o.side p)
  | .cmpgtLong o => some (assemble o.cond o.dst (Pair.even o.src2) o.src1 (crossBit o.x) 0b1000101110#10 o.side p)
  | .cmpgtLongC o => some (assemble o.cond o.dst (Pair.even o.src2) o.src1 0#1 0b1000100110#10 o.side p)
  | .cmpgtu o => some (assemble o.cond o.dst o.src2 o.src1 (crossBit o.x) 0b1001111110#10 o.side p)
  | .cmpgtuC o => some (assemble o.cond o.dst o.src2 (0#1 ++ o.src1) (crossBit o.x) 0b1001110110#10 o.side p)
  | .cmpgtuLong o => some (assemble o.cond o.dst (Pair.even o.src2) o.src1 (crossBit o.x) 0b1001101110#10 o.side p)
  | .cmpgtuLongC o => some (assemble o.cond o.dst (Pair.even o.src2) (0#1 ++ o.src1) 0#1 0b1001100110#10 o.side p)
  | .cmplt o => some (assemble o.cond o.dst o.src2 o.src1 (crossBit o.x) 0b1010111110#10 o.side p)
  | .cmpltC o => some (assemble o.cond o.dst o.src2 o.src1 (crossBit o.x) 0b1010110110#10 o.side p)
  | .cmpltLong o => some (assemble o.cond o.dst (Pair.even o.src2) o.src1 (crossBit o.x) 0b1010101110#10 o.side p)
  | .cmpltLongC o => some (assemble o.cond o.dst (Pair.even o.src2) o.src1 0#1 0b1010100110#10 o.side p)
  | .cmpltu o => some (assemble o.cond o.dst o.src2 o.src1 (crossBit o.x) 0b1011111110#10 o.side p)
  | .cmpltuC o => some (assemble o.cond o.dst o.src2 (0#1 ++ o.src1) (crossBit o.x) 0b1011110110#10 o.side p)
  | .cmpltuLong o => some (assemble o.cond o.dst (Pair.even o.src2) o.src1 (crossBit o.x) 0b1011101110#10 o.side p)
  | .cmpltuLongC o => some (assemble o.cond o.dst (Pair.even o.src2) (0#1 ++ o.src1) 0#1 0b1011100110#10 o.side p)
  | .dpint o => some (assemble o.cond o.dst (Pair.even o.src2) 0#5 0#1 0b0001000110#10 o.side p)
  | .dpsp o => some (assemble o.cond o.dst (Pair.even o.src2) 0#5 0#1 0b0001001110#10 o.side p)
  | .dptrunc o => some (assemble o.cond o.dst (Pair.even o.src2) 0#5 0#1 0b0000001110#10 o.side p)
  | .intdp o => some (assemble o.cond (Pair.even o.dst) o.src2 0#5 (crossBit o.x) 0b0111001110#10 o.side p)
  | .intdpu o => some (assemble o.cond (Pair.even o.dst) o.src2 0#5 (crossBit o.x) 0b0111011110#10 o.side p)
  | .intsp o => some (assemble o.cond o.dst o.src2 0#5 (crossBit o.x) 0b1001010110#10 o.side p)
  | .intspu o => some (assemble o.cond o.dst o.src2 0#5 (crossBit o.x) 0b1001001110#10 o.side p)
  | .lmbd o => some (assemble o.cond o.dst o.src2 o.src1 (crossBit o.x) 0b1101011110#10 o.side p)
  | .lmbdC o => some (assemble o.cond o.dst o.src2 o.src1 (crossBit o.x) 0b1101010110#10 o.side p)
  | .norm o => some (assemble o.cond o.dst o.src2 0#5 (crossBit o.x) 0b1100011110#10 o.side p)
  | .normLong o => some (assemble o.cond o.dst (Pair.even o.src2) 0#5 0#1 0b1100000110#10 o.side p)
  | .orL o => some (assemble o.cond o.dst o.src2 o.src1 (crossBit o.x) 0b1111111110#10 o.side p)
  | .orLC o => some (assemble o.cond o.dst o.src2 o.src1 (crossBit o.x) 0b1111110110#10 o.side p)
  | .sadd o => some (assemble o.cond o.dst o.src2 o.src1 (crossBit o.x) 0b0010011110#10 o.side p)
  | .saddLong o => some (assemble o.cond (Pair.even o.dst) (Pair.even o.src2) o.src1 (crossBit o.x) 0b0110001110#10 o.side p)
  | .saddC o => some (assemble o.cond o.dst o.src2 o.src1 (crossBit o.x) 0b0010010110#10 o.side p)
  | .saddLongC o => some (assemble o.cond (Pair.even o.dst) (Pair.even o.src2) o.src1 0#1 0b0110000110#10 o.side p)
  | .sat o => some (assemble o.cond o.dst (Pair.even o.src2) 0#5 0#1 0b1000000110#10 o.side p)
  | .spint o => some (assemble o.cond o.dst o.src2 0#5 (crossBit o.x) 0b0001010110#10 o.side p)
  | .sptrunc o => some (assemble o.cond o.dst o.src2 0#5 (crossBit o.x) 0b0001011110#10 o.side p)
  | .ssub o => some (assemble o.cond o.dst o.src2 o.src1 (crossBit o.x) 0b0001111110#10 o.side p)
  | .ssubX o => some (assemble o.cond o.dst o.src2 o.src1 (crossBit o.x) 0b0011111110#10 o.side p)
  | .ssubC o => some (assemble o.cond o.dst o.src2 o.src1 (crossBit o.x) 0b0001110110#10 o.side p)
  | .ssubLongC o => some (assemble o.cond (Pair.even o.dst) (Pair.even o.src2) o.src1 0#1 0b0101100110#10 o.side p)
  | .subL o => some (assemble o.cond o.dst o.src2 o.src1 (crossBit o.x) 0b0000111110#10 o.side p)
  | .subLX o => some (assemble o.cond o.dst o.src2 o.src1 (crossBit o.x) 0b0010111110#10 o.side p)
  | .subLWide o => some (assemble o.cond (Pair.even o.dst) o.src2 o.src1 (crossBit o.x) 0b0100111110#10 o.side p)
  | .subLWideX o => some (assemble o.cond (Pair.even o.dst) o.src2 o.src1 (crossBit o.x) 0b0110111110#10 o.side p)
  | .subLC o => some (assemble o.cond o.dst o.src2 o.src1 (crossBit o.x) 0b0000110110#10 o.side p)
  | .subLLongC o => some (assemble o.cond (Pair.even o.dst) (Pair.even o.src2) o.src1 0#1 0b0100100110#10 o.side p)
  | .subuWide o => some (assemble o.cond (Pair.even o.dst) o.src2 o.src1 (crossBit o.x) 0b0101111110#10 o.side p)
  | .subuWideX o => some (assemble o.cond (Pair.even o.dst) o.src2 o.src1 (crossBit o.x) 0b0111111110#10 o.side p)
  | .subc o => some (assemble o.cond o.dst o.src2 o.src1 (crossBit o.x) 0b1001011110#10 o.side p)
  | .subspL o => some (assemble o.cond o.dst o.src2 o.src1 (crossBit o.x) 0b0010001110#10 o.side p)
  | .subspLX o => some (assemble o.cond o.dst o.src2 o.src1 (crossBit o.x) 0b0010101110#10 o.side p)
  | .subdpL o => some (assemble o.cond (Pair.even o.dst) (Pair.even o.src2) (Pair.even o.src1) (crossBit o.x) 0b0011001110#10 o.side p)
  | .subdpLX o => some (assemble o.cond (Pair.even o.dst) (Pair.even o.src2) (Pair.even o.src1) (crossBit o.x) 0b0011101110#10 o.side p)
  | .xorL o => some (assemble o.cond o.dst o.src2 o.src1 (crossBit o.x) 0b1101111110#10 o.side p)
  | .xorLC o => some (assemble o.cond o.dst o.src2 o.src1 (crossBit o.x) 0b1101110110#10 o.side p)
  | .absdp o => some (assemble o.cond (Pair.even o.dst) (Pair.even o.src2) 0#5 0#1 0b1011001000#10 o.side p)
  | .abssp o => some (assemble o.cond o.dst o.src2 0#5 (crossBit o.x) 0b1111001000#10 o.side p)
  | .addS o => some (assemble o.cond o.dst o.src2 o.src1 (crossBit o.x) 0b0001111000#10 o.side p)
  | .addSC o => some (assemble o.cond o.dst o.src2 o.src1 (crossBit o.x) 0b0001101000#10 o.side p)
  | .add2 o => some (assemble o.cond o.dst o.src2 o.src1 (crossBit o.x) 0b0000011000#10 o.side p)
  | .andS o => some (assemble o.cond o.dst o.src2 o.src1 (crossBit o.x) 0b0111111000#10 o.side p)
  | .andSC o => some (assemble o.cond o.dst o.src2 o.src1 (crossBit o.x) 0b0111101000#10 o.side p)
  | .clrReg o => some (assemble o.cond o.dst o.src2 o.src1 (crossBit o.x) 0b1111111000#10 o.side p)
  | .cmpeqdp o => some (assemble o.cond o.dst (Pair.even o.src2) (Pair.even o.src1) (crossBit o.x) 0b1010001000#10 o.side p)
  | .cmpeqsp o => some (assemble o.cond o.dst o.src2 o.src1 (crossBit o.x) 0b1110001000#10 o.side p)
  | .cmpgtdp o => some (assemble o.cond o.dst (Pair.even o.src2) (Pair.even o.src1) (crossBit o.x) 0b1010011000#10 o.side p)
  | .cmpgtsp o => some (assemble o.cond o.dst o.src2 o.src1 (crossBit o.x) 0b1110011000#10 o.side p)
  | .cmpltdp o => some (assemble o.cond o.dst (Pair.even o.src2) (Pair.even o.src1) (crossBit o.x) 0b1010101000#10 o.side p)
  | .cmpltsp o => some (assemble o.cond o.dst o.src2 o.src1 (crossBit o.x) 0b1110101000#10 o.side p)
  | .extReg o => some (assemble o.cond o.dst o.src2 o.src1 (crossBit o.x) 0b1011111000#10 o.side p)
  | .extuReg o => some (assemble o.cond o.dst o.src2 o.src1 (crossBit o.x) 0b1010111000#10 o.side p)
  | .orS o => some (assemble o.cond o.dst o.src2 o.src1 (crossBit o.x) 0b0110111000#10 o.side p)
  | .orSC o => some (assemble o.cond o.dst o.src2 o.src1 (crossBit o.x) 0b0110101000#10 o.side p)
  | .rcpdp o => some (assemble o.cond (Pair.even o.dst) (Pair.even o.src2) 0#5 0#1 0b1011011000#10 o.side p)
  | .rcpsp o => some (assemble o.cond o.dst o.src2 0#5 (crossBit o.x) 0b1111011000#10 o.side p)
  | .rsqrdp o => some (assemble o.cond (Pair.even o.dst) (Pair.even o.src2) 0#5 0#1 0b1011101000#10 o.side p)
  | .rsqrsp o => some (assemble o.cond o.dst o.src2 0#5 (crossBit o.x) 0b1111101000#10 o.side p)
  | .setReg o => some (assemble o.cond o.dst o.src2 o.src1 (crossBit o.x) 0b1110111000#10 o.side p)
  | .shl o => some (assemble o.cond o.dst o.src2 o.src1 (crossBit o.x) 0b1100111000#10 o.side p)
  | .shlLong o => some (assemble o.cond (Pair.even o.dst) (Pair.even o.src2) o.src1 0#1 0b1100011000#10 o.side p)
  | .shlWide o => some (assemble o.cond (Pair.even o.dst) o.src2 o.src1 (crossBit o.x) 0b0100111000#10 o.side p)
  | .shlC o => some (assemble o.cond o.dst o.src2 o.src1 (crossBit o.x) 0b1100101000#10 o.side p)
  | .shlLongC o => some (assemble o.cond (Pair.even o.dst) (Pair.even o.src2) o.src1 0#1 0b1100001000#10 o.side p)
  | .shlWideC o => some (assemble o.cond (Pair.even o.dst) o.src2 o.src1 (crossBit o.x) 0b0100101000#10 o.side p)
  | .shr o => some (assemble o.cond o.dst o.src2 o.src1 (crossBit o.x) 0b1101111000#10 o.side p)
  | .shrLong o => some (assemble o.cond (Pair.even o.dst) (Pair.even o.src2) o.src1 0#1 0b1101011000#10 o.side p)
  | .shrC o => some (assemble o.cond o.dst o.src2 o.src1 (crossBit o.x) 0b1101101000#10 o.side p)
  | .shrLongC o => some (assemble o.cond (Pair.even o.dst) (Pair.even o.src2) o.src1 0#1 0b1101001000#10 o.side p)
  | .shru o => some (assemble o.cond o.dst o.src2 o.src1 (crossBit o.x) 0b1001111000#10 o.side p)
  | .shruLong o => some (assemble o.cond (Pair.even o.dst) (Pair.even o.src2) o.src1 0#1 0b1001011000#10 o.side p)
  | .shruC o => some (assemble o.cond o.dst o.src2 o.src1 (crossBit o.x) 0b1001101000#10 o.side p)
  | .shruLongC o => some (assemble o.cond (Pair.even o.dst) (Pair.even o.src2) o.src1 0#1 0b1001001000#10 o.side p)
  | .spdp o => some (assemble o.cond (Pair.even o.dst) o.src2 0#5 (crossBit o.x) 0b0000101000#10 o.side p)
  | .sshl o => some (assemble o.cond o.dst o.src2 o.src1 (crossBit o.x) 0b1000111000#10 o.side p)
  | .sshlC o => some (assemble o.cond o.dst o.src2 o.src1 (crossBit o.x) 0b1000101000#10 o.side p)
  | .subS o => some (assemble o.cond o.dst o.src2 o.src1 (crossBit o.x) 0b0101111000#10 o.side p)
  | .subSC o => some (assemble o.cond o.dst o.src2 o.src1 (crossBit o.x) 0b0101101000#10 o.side p)
  | .sub2 o => some (assemble o.cond o.dst o.src2 o.src1 (crossBit o.x) 0b0100011000#10 o.side p)
  | .xorS o => some (assemble o.cond o.dst o.src2 o.src1 (crossBit o.x) 0b0010111000#10 o.side p)
  | .xorSC o => some (assemble o.cond o.dst o.src2 o.src1 (crossBit o.x) 0b0010101000#10 o.side p)
  | .addD o => some (assemble o.cond o.dst o.src2 o.src1 0b0#1 0b1000010000#10 o.side p)
  | .addDC o => some (assemble o.cond o.dst o.src2 o.src1 0b0#1 0b1001010000#10 o.side p)
  | .subD o => some (assemble o.cond o.dst o.src2 o.src1 0b0#1 0b1000110000#10 o.side p)
  | .subDC o => some (assemble o.cond o.dst o.src2 o.src1 0b0#1 0b1001110000#10 o.side p)
  | .addab o => some (assemble o.cond o.dst o.src2 o.src1 0b1#1 0b1000010000#10 o.side p)
  | .addabC o => some (assemble o.cond o.dst o.src2 o.src1 0b1#1 0b1001010000#10 o.side p)
  | .addah o => some (assemble o.cond o.dst o.src2 o.src1 0b1#1 0b1010010000#10 o.side p)
  | .addahC o => some (assemble o.cond o.dst o.src2 o.src1 0b1#1 0b1011010000#10 o.side p)
  | .addaw o => some (assemble o.cond o.dst o.src2 o.src1 0b1#1 0b1100010000#10 o.side p)
  | .addawC o => some (assemble o.cond o.dst o.src2 o.src1 0b1#1 0b1101010000#10 o.side p)
  | .addad o => some (assemble o.cond o.dst o.src2 o.src1 0b1#1 0b1110010000#10 o.side p)
  | .addadC o => some (assemble o.cond o.dst o.src2 o.src1 0b1#1 0b1110110000#10 o.side p)
  | .subab o => some (assemble o.cond o.dst o.src2 o.src1 0b1#1 0b1000110000#10 o.side p)
  | .subabC o => some (assemble o.cond o.dst o.src2 o.src1 0b1#1 0b1001110000#10 o.side p)
  | .subah o => some (assemble o.cond o.dst o.src2 o.src1 0b1#1 0b1010110000#10 o.side p)
  | .subahC o => some (assemble o.cond o.dst o.src2 o.src1 0b1#1 0b1011110000#10 o.side p)
  | .subaw o => some (assemble o.cond o.dst o.src2 o.src1 0b1#1 0b1100110000#10 o.side p)
  | .subawC o => some (assemble o.cond o.dst o.src2 o.src1 0b1#1 0b1101110000#10 o.side p)
  | .mpy o => some (assemble o.cond o.dst o.src2 o.src1 (crossBit o.x) 0b1100100000#10 o.side p)
  | .mpyC o => some (assemble o.cond o.dst o.src2 o.src1 (crossBit o.x) 0b1100000000#10 o.side p)
  | .mpyu o => some (assemble o.cond o.dst o.src2 o.src1 (crossBit o.x) 0b1111100000#10 o.side p)
  | .mpyus o => some (assemble o.cond o.dst o.src2 o.src1 (crossBit o.x) 0b1110100000#10 o.side p)
  | .mpysu o => some (assemble o.cond o.dst o.src2 o.src1 (crossBit o.x) 0b1101100000#10 o.side p)
  | .mpysuC o => some (assemble o.cond o.dst o.src2 o.src1 (crossBit o.x) 0b1111000000#10 o.side p)
  | .mpyh o => some (assemble o.cond o.dst o.src2 o.src1 (crossBit o.x) 0b0000100000#10 o.side p)
  | .mpyhu o => some (assemble o.cond o.dst o.src2 o.src1 (crossBit o.x) 0b0011100000#10 o.side p)
  | .mpyhus o => some (assemble o.cond o.dst o.src2 o.src1 (crossBit o.x) 0b0010100000#10 o.side p)
  | .mpyhsu o => some (assemble o.cond o.dst o.src2 o.src1 (crossBit o.x) 0b0001100000#10 o.side p)
  | .mpyhl o => some (assemble o.cond o.dst o.src2 o.src1 (crossBit o.x) 0b0100100000#10 o.side p)
  | .mpyhlu o => some (assemble o.cond o.dst o.src2 o.src1 (crossBit o.x) 0b0111100000#10 o.side p)
  | .mpyhuls o => some (assemble o.cond o.dst o.src2 o.src1 (crossBit o.x) 0b0110100000#10 o.side p)
  | .mpyhslu o => some (assemble o.cond o.dst o.src2 o.src1 (crossBit o.x) 0b0101100000#10 o.side p)
  | .mpylh o => some (assemble o.cond o.dst o.src2 o.src1 (crossBit o.x) 0b1000100000#10 o.side p)
  | .mpylhu o => some (assemble o.cond o.dst o.src2 o.src1 (crossBit o.x) 0b1011100000#10 o.side p)
  | .mpyluhs o => some (assemble o.cond o.dst o.src2 o.src1 (crossBit o.x) 0b1010100000#10 o.side p)
  | .mpylshu o => some (assemble o.cond o.dst o.src2 o.src1 (crossBit o.x) 0b1001100000#10 o.side p)
  | .smpy o => some (assemble o.cond o.dst o.src2 o.src1 (crossBit o.x) 0b1101000000#10 o.side p)
  | .smpyhl o => some (assemble o.cond o.dst o.src2 o.src1 (crossBit o.x) 0b0101000000#10 o.side p)
  | .smpylh o => some (assemble o.cond o.dst o.src2 o.src1 (crossBit o.x) 0b1001000000#10 o.side p)
  | .smpyh o => some (assemble o.cond o.dst o.src2 o.src1 (crossBit o.x) 0b0001000000#10 o.side p)
  | .mpysp o => some (assemble o.cond o.dst o.src2 o.src1 (crossBit o.x) 0b1110000000#10 o.side p)
  | .mpydp o => some (assemble o.cond (Pair.even o.dst) (Pair.even o.src2) (Pair.even o.src1) (crossBit o.x) 0b0111000000#10 o.side p)
  | .mpyi o => some (assemble o.cond o.dst o.src2 o.src1 (crossBit o.x) 0b0010000000#10 o.side p)
  | .mpyiC o => some (assemble o.cond o.dst o.src2 o.src1 (crossBit o.x) 0b0011000000#10 o.side p)
  | .mpyid o => some (assemble o.cond (Pair.even o.dst) o.src2 o.src1 (crossBit o.x) 0b0100000000#10 o.side p)
  | .mpyidC o => some (assemble o.cond (Pair.even o.dst) o.src2 o.src1 (crossBit o.x) 0b0110000000#10 o.side p)
  | .mpyspdp o => some (assemble o.cond (Pair.even o.dst) (Pair.even o.src2) o.src1 (crossBit o.x) 0b0101101100#10 o.side p)
  | .mpysp2dp o => some (assemble o.cond (Pair.even o.dst) o.src2 o.src1 (crossBit o.x) 0b0101111100#10 o.side p)
  | .bReg o => some (assemble o.cond 0#5 o.src2 0#5 (crossBit o.x) 0b0011011000#10 .b p)
  | .bIrp c => some (assemble c 0#5 0b00110#5 0#5 0#1 0b0000111000#10 .b p)
  | .bNrp c => some (assemble c 0#5 0b00111#5 0#5 0#1 0b0000111000#10 .b p)
  | .mvcRead o => some (assemble o.cond o.dst o.creg 0#5 0#1 0b0011111000#10 .b p)
  | .mvcWrite o => some (assemble o.cond o.creg o.src2 0#5 (crossBit o.x) 0b0011101000#10 .b p)
  | .extuConst o => some (assembleField o 0b00#2 p)
  | .extConst o => some (assembleField o 0b01#2 p)
  | .setConst o => some (assembleField o 0b10#2 p)
  | .clrConst o => some (assembleField o 0b11#2 p)
  | .addk o => some (assembleConst16 o 0b10100#5 p)
  | .mvk o => some (assembleConst16 o 0b01010#5 p)
  | .mvkh o => some (assembleConst16 o 0b11010#5 p)
  | .bDisp o => some (o.cond.bits ++ o.scst21 ++ 0b00100#5 ++ o.side.bit ++ BitVec.ofBool p)
  | .ldhu o => some (assembleMem o o.data 0b0#1 0b000#3 p)
  | .ldhuK o => some (assembleMemK o 0b000#3 p)
  | .ldbu o => some (assembleMem o o.data 0b0#1 0b001#3 p)
  | .ldbuK o => some (assembleMemK o 0b001#3 p)
  | .ldb o => some (assembleMem o o.data 0b0#1 0b010#3 p)
  | .ldbK o => some (assembleMemK o 0b010#3 p)
  | .stb o => some (assembleMem o o.data 0b0#1 0b011#3 p)
  | .stbK o => some (assembleMemK o 0b011#3 p)
  | .ldh o => some (assembleMem o o.data 0b0#1 0b100#3 p)
  | .ldhK o => some (assembleMemK o 0b100#3 p)
  | .sth o => some (assembleMem o o.data 0b0#1 0b101#3 p)
  | .sthK o => some (assembleMemK o 0b101#3 p)
  | .ldw o => some (assembleMem o o.data 0b0#1 0b110#3 p)
  | .ldwK o => some (assembleMemK o 0b110#3 p)
  | .stw o => some (assembleMem o o.data 0b0#1 0b111#3 p)
  | .stwK o => some (assembleMemK o 0b111#3 p)
  | .lddw o => some (assembleMem o (Pair.even o.data) 0b1#1 0b110#3 p)
  | .nop o => some (0#15 ++ 0#1 ++ o ++ 0#12 ++ BitVec.ofBool p)
  | .nop9 => some (0#15 ++ 0b1000#4 ++ 0#12 ++ BitVec.ofBool p)
  | .idle => some (0#15 ++ 0b1111#4 ++ 0#12 ++ BitVec.ofBool p)
  | .mv _ => none
  | .neg _ => none
  | .not _ => none
  | .zero _ => none
  | .mvkl _ => none
  | .mvklh _ => none
  | .addspS _ => none
  | .adddpS _ => none
  | .subspS _ => none
  | .subdpS _ => none

end Sys2Proof
end

