-- ==== Sys2Proof/Machine/Fetch.lean ====
section
/-! DEFINITION. Instruction fetch (20_memory.md R98, R114) and the formation of an execute packet (30_encoding.md R123
to R127). -/

namespace Sys2Proof.Machine

/-- What a fetch of the byte returns is defined: memory backs it (20_memory.md R105), no store has changed it (R114), and
no other bus master writes it now or has written it (R112; log entries 9, 19 and 36). -/
def State.codeKnown (s : State) (a : Nat) : Bool :=
  fetchBacked s.device a && !(s.codeStores.contains a || s.contested a)

/-- The byte a fetch sees, a free one where it is undefined. -/
def State.fetchByte (s : State) (a : Nat) : Byte :=
  if s.codeKnown a then if fetchShares s.device a then readByte s.mem a else readByte s.pmem a
  else Config.freeCode s.free a

/-- The addresses of the bytes of an instruction word, least significant first (20_memory.md R98). -/
def State.codeAddresses (s : State) (a : Word) : List Nat := laneAddresses s.device.endian a 4

/-- The instruction word at an address (20_memory.md R98). DESIGN CHOICE: a fetch depends on the bytes of the words it
takes, not on the whole 256-bit fetch packet they stand in (log entry 42). -/
def State.fetchWord (s : State) (a : Word) : Word := BitVec.ofNat 32 (joinBytes ((s.codeAddresses a).map s.fetchByte))

/-- The refusal of a word that is no instruction (30_encoding.md R131, R142, R150, R153; log entry 41). -/
def Reject.refusal : Reject → Refusal
  | .unassigned => .unassignedEncoding
  | .reservedCondition => .reservedCondition
  | .reservedMode => .reservedAddressingMode
  | .oddPair => .unassignedEncoding

/-- The instruction at an address and its p-bit. -/
def State.fetchInstr (s : State) (a : Word) : Except Refusal (Instr × Bool) :=
  match decode (s.fetchWord a) with
  | .error r => .error (Reject.refusal r)
  | .ok i => if i.available s.device.variant then .ok (i, pBit (s.fetchWord a)) else .error .notOnThisVariant

/-- The last word of a fetch packet (30_encoding.md R122). -/
def lastInFetchPacket (a : Word) : Bool := a.extractLsb' 2 3 == 0b111#3

/-- The instructions of the execute packet from `a` on, at most `fuel` of them (30_encoding.md R124). On a C67x a packet
does not cross a fetch packet's end (R125). -/
def State.packetFrom (s : State) (a : Word) : Nat → Except Refusal (List Instr)
  | 0 => .error .packetTooLong
  | fuel + 1 =>
    match s.fetchInstr a with
    | .error e => .error e
    | .ok (i, p) =>
      if p = false then .ok [i]
      else if lastInFetchPacket a && !s.device.variant.packetsSpan then .error .packetCrossesFetchPacket
      else match s.packetFrom (a + 4#32) fuel with
        | .error e => .error e
        | .ok rest => .ok (i :: rest)

/-- The state with one word placed at `pc` as the fetch reads it, its bytes no longer changed code, and nothing left that
delays the next fetch: a loader's act, no instruction's (log entry 39). -/
def State.placeWord (s : State) (w : Nat) : State :=
  let cells := (s.codeAddresses s.pc).zip (splitBytes w 4)
  { s with
    mem := writeBytes s.mem (cells.filter fun c => fetchShares s.device c.1)
    pmem := writeBytes s.pmem (cells.filter fun c => !fetchShares s.device c.1)
    codeStores := s.codeStores.filter fun a => !(s.codeAddresses s.pc).contains a
    nopLeft := 0
    idle := false
    powerDown := none
    emptyLeft := 0 }

/-- The execute packet at `pc` (30_encoding.md R124, R127). -/
def State.packet (s : State) : Except Refusal (List Instr) := s.packetFrom s.pc 8

end Sys2Proof.Machine
end

