-- ==== Sys2Proof/Machine/Pipeline.lean ====
section
/-! DEFINITION. The end of a cycle (40_execution_model.md R176 steps 3 and 4): the interrupt flags, control-register
effects, register writes, SAT, warning bits and branches that land; and what comes between cycles: the choice of an
interrupt to take (60_exceptions.md R490 to R495) and reset (70_reset_and_hazards.md R541 to R544). -/

namespace Sys2Proof.Machine

/-- IF4 to IF15 at the end of the cycle (10_state.md R54): an input or an ISR write of the cycle before sets, else an
ICR write of the cycle before clears. An acknowledged flag has been cleared before (`takeInterrupt`). -/
def State.nextFlags (s : State) : BitVec 12 := s.input.ints ||| s.isrPend ||| (s.ifl &&& ~~~s.icrPend)

/-- A flag that was 0 becomes 1. -/
def State.flagRises (s : State) : Bool := s.nextFlags &&& ~~~s.ifl != 0#12 || (s.input.nmi && !s.nmif)

/-- The interrupt flags change (10_state.md R54, 60_exceptions.md R484), which ends the power-down mode PD1 that any
interrupt ends (60_exceptions.md R525; log entry 26). DESIGN CHOICE: the mode must be on already, so a flag that rises at
the end of the cycle of the MVC that enters it does not end it (log entry 26). -/
def State.latchFlags (s : State) : State :=
  { (if s.powerDown = some .pd1Any ∧ s.flagRises = true then s.clearPowerDown else s) with
    ifl := s.nextFlags
    nmif := s.nmif || s.input.nmi
    isrPend := 0#12
    icrPend := 0#12 }

/-- A write to CSR (10_state.md R37 to R45): PWRD, PCC, DCC, PGIE and GIE are stored, SAT can only be cleared (R41), the
other fields are read only. -/
def State.writeCsr (s : State) (v : Word) : State :=
  { s with
    pwrd := v.extractLsb' 10 6
    sat := s.sat && v.getLsbD 9 && !s.device.satWrite1Clears
    pcc := v.extractLsb' 5 3
    dcc := v.extractLsb' 2 3
    pgie := v.getLsbD 1
    gie := v.getLsbD 0 }

/-- The power-down state begins, if there is one; the rest of a NOP and the idle state end with it (60_exceptions.md R525;
log entry 26). -/
def State.enterPower (s : State) : Option PowerMode → State
  | some m => { s with powerDown := some m, nopLeft := 0, idle := false }
  | none => s

/-- A legal nonzero PWRD value puts a CPU that supports it in the power-down state (60_exceptions.md R525). -/
def State.enterPowerDown (s : State) (v : Word) : State :=
  match powerField (v.extractLsb' 10 6) with
  | .down m => if s.device.pwrdSupported then s.enterPower (some m) else s
  | .run => s
  | .reserved => s

/-- A write to the control register of an address (10_state.md R31, R33): reserved and read-only fields drop their bits.
-/
def State.writeControl (s : State) (a : BitVec 5) (v : Word) : State :=
  if a = 0#5 then { s with amr := v.extractLsb' 0 26 }
  else if a = 1#5 then (s.writeCsr v).enterPowerDown v
  else if a = 2#5 then { s with isrPend := v.extractLsb' 4 12 }
  else if a = 3#5 then { s with icrPend := v.extractLsb' 4 12 }
  else if a = 4#5 then { s with ie := v.extractLsb' 4 12, nmie := s.nmie || v.getLsbD 1 }
  else if a = 5#5 then { s with istb := v.extractLsb' 10 22 }
  else if a = 6#5 then { s with irp := v }
  else if a = 7#5 then { s with nrp := v }
  else if a = 18#5 then { s with fadcr := FpConfig.ofBits v }
  else if a = 19#5 then { s with faucr := FpConfig.ofBits v }
  else if a = 20#5 then { s with fmcr := FpConfig.ofBits v }
  else s

/-- A control-register effect of this cycle lands (10_state.md R32). -/
def State.applyControl (s : State) : ControlEffect → State
  | .write creg v => s.writeControl creg v
  | .restoreGie => { s with gie := s.pgie }
  | .setNmie => { s with nmie := true }
  | .enterPower m => s.enterPower m

/-- The control-register effects of this cycle land. -/
def State.landControls (s : State) : State := { s.controls.foldl State.applyControl s with controls := [] }

/-- The register writes that land in this cycle (40_execution_model.md R171). -/
def State.landing (s : State) : List PendingWrite := s.writes.filter fun w => w.left == 0

/-- The registers written in this cycle. -/
def State.landingRegs (s : State) : List RegName := s.landing.map PendingWrite.reg

/-- A number for each general register, below 64. -/
def RegName.index (n : RegName) : Nat := (match n.side with | .a => 0 | .b => 32) + n.num.toNat

/-- What a landing write leaves in its register: a free value if two writes land on it (40_execution_model.md R193; log
entry 15). -/
def State.landedValue (s : State) (w : PendingWrite) : Word :=
  if 1 < s.landingRegs.count w.reg then Config.freeWord (s.free + w.reg.index) else w.value

/-- A source the instruction still reads changes in this cycle (40_execution_model.md R177). -/
def disturbed (regs watch : List RegName) (watchLeft : Nat) : Bool := decide (0 < watchLeft) && watch.any (· ∈ regs)

/-- A write that stays in flight, one cycle older; free if its sources change under it (log entry 16). -/
def PendingWrite.age (w : PendingWrite) (regs : List RegName) (n : Nat) : PendingWrite :=
  if disturbed regs w.watch w.watchLeft then ⟨w.reg, Config.freeWord n, w.left - 1, [], 0⟩
  else { w with left := w.left - 1, watchLeft := w.watchLeft - 1 }

/-- The writes that stay in flight. -/
def ageWrites (regs : List RegName) : List PendingWrite → Nat → List PendingWrite
  | [], _ => []
  | w :: rest, n =>
    if w.left = 0 then ageWrites regs rest (n + 1) else w.age regs n :: ageWrites regs rest (n + 1)

/-- Register writes land, the others grow older. -/
def State.landWrites (s : State) : State :=
  { s.landing.foldl (fun t w => t.setReg w.reg (s.landedValue w)) s with
    writes := ageWrites s.landingRegs s.writes (s.free + 64) }

/-- The saturations that land in this cycle. -/
def State.landingSats (s : State) : List PendingSat := s.sats.filter fun p => p.left == 0

/-- SAT after this cycle (10_state.md R41): a set wins over the clear of an MVC. -/
def State.landSats (s : State) : State :=
  { s with
    sat := s.landingSats.any PendingSat.value || (s.landingSats.isEmpty && s.sat)
    sats := (s.sats.filter fun p => p.left != 0).map fun p => { p with left := p.left - 1 } }

/-- Warning bits raised in a configuration register (10_state.md R71). -/
def State.raise (s : State) (w : PendingWarn) : State :=
  match w.reg with
  | .fadcr => { s with fadcr := s.fadcr.raise w.side w.bits }
  | .faucr => { s with faucr := s.faucr.raise w.side w.bits }
  | .fmcr => { s with fmcr := s.fmcr.raise w.side w.bits }

/-- Warning bits that stay in flight, free if their instruction's sources change under it (log entry 16). -/
def PendingWarn.age (w : PendingWarn) (regs : List RegName) (n : Nat) : PendingWarn :=
  if disturbed regs w.watch w.watchLeft then
    ⟨w.left - 1, w.reg, w.side, (Config.freeWord n).extractLsb' 0 11 &&& w.mask, w.mask, [], 0⟩
  else { w with left := w.left - 1, watchLeft := w.watchLeft - 1 }

/-- The warning bits that stay in flight. -/
def ageWarns (regs : List RegName) : List PendingWarn → Nat → List PendingWarn
  | [], _ => []
  | w :: rest, n => if w.left = 0 then ageWarns regs rest (n + 1) else w.age regs n :: ageWarns regs rest (n + 1)

/-- Warning bits land, after any MVC of the cycle (10_state.md R72). `regs` are the registers written in the cycle. -/
def State.landWarns (s : State) (regs : List RegName) (n : Nat) : State :=
  { (s.warns.filter fun w => w.left == 0).foldl State.raise s with warns := ageWarns regs s.warns n }

/-- The targets of the branches that land in this cycle. -/
def State.landingTargets (s : State) : List Word := (s.branches.filter fun b => b.left == 0).map PendingBranch.target

/-- `pc` of the next cycle: the one landing target, the sequential address without one; a free word address for two or
an unaligned one (46_branch_nop.md R390; log entry 17). -/
def nextPc (targets : List Word) (seq free : Word) : Word :=
  match targets with
  | [] => seq
  | [t] => if t.toNat % 4 = 0 then t else free
  | _ => free

/-- Branches land (46_branch_nop.md R390); a landing one ends a NOP and the idle state (R395, R396). -/
def State.landBranches (s : State) (seq : Word) (n : Nat) : State :=
  { s with
    pc := nextPc s.landingTargets seq (freeTarget n)
    nopLeft := if s.landingTargets.isEmpty then s.nopLeft else 0
    idle := s.idle && s.landingTargets.isEmpty
    branches := (s.branches.filter fun b => b.left != 0).map fun b => { b with left := b.left - 1 } }

/-- The writes of other bus masters land, after the CPU's own accesses; a byte that a store of the same cycle has written
is free already (20_memory.md R112; log entry 36). -/
def State.landExternal (s : State) : State :=
  { s with
    mem := writeBytes s.mem (s.external.filter fun c => decide (c.1 ∉ s.stored))
    codeStores := insertAddresses (s.external.map Prod.fst) s.codeStores }

/-- The cycle is over: its issues join the history, its input is used up, and the free values it could draw with it. -/
def State.closeCycle (s : State) (issues : List Issue) (drawn : Nat) : State :=
  { s with
    history := (issues :: s.history).take 9
    stored := []
    inputs := s.inputs.tail
    free := s.free + drawn }

/-- The end of a cycle in which `issues` issued and after which the sequential address is `seq`
(40_execution_model.md R176 steps 3 and 4). -/
def State.endCycle (s : State) (issues : List Issue) (seq : Word) : State :=
  (((s.latchFlags.landControls.landWrites.landSats.landWarns s.landingRegs (s.free + 64 + s.writes.length)).landBranches
    seq (s.free + 64 + s.writes.length + s.warns.length)).landExternal.closeCycle issues
    (65 + s.writes.length + s.warns.length))

/-- A branch issued in one of the last five cycles, whether or not it was taken (60_exceptions.md R495). -/
def State.branchNear (s : State) : Bool := (s.history.take 5).any fun c => c.any fun j => j.timing == .branch

/-- The interrupts that end a power-down mode: none ends PD2 or PD3 (60_exceptions.md R525). -/
def State.interruptible (s : State) : Bool := s.powerDown != some .pd2 && s.powerDown != some .pd3 && !s.branchNear

/-- The interrupt to take in this cycle (60_exceptions.md R485, R490, R491, R495). -/
def State.interruptToTake (s : State) : Option Nat :=
  if s.interruptible then
    if s.nmif && s.nmie then some 1 else if s.gie && s.nmie then lowestInt (s.ifl &&& s.ie) else none
  else none

/-- A register file of free words (93_implementation_defined.md U22). -/
def freeFile (n : Nat) : Vector Word 32 := Vector.ofFn fun k => Config.freeWord (n + k.val)

/-- A cycle in which RESET is active (60_exceptions.md R498, 70_reset_and_hazards.md R541 to R544): registers, IRP and
NRP become free values, memory, the device and the inputs still to come stay, all else is as after power-on (log entry
22). Other bus masters may write in the cycle (20_memory.md R112). -/
def State.warmReset (s : State) : State :=
  { State.reset with
    device := s.device
    fileA := freeFile s.free
    fileB := freeFile (s.free + 32)
    irp := Config.freeWord (s.free + 64)
    nrp := Config.freeWord (s.free + 65)
    mem := s.landExternal.mem
    pmem := s.pmem
    codeStores := s.landExternal.codeStores
    inputs := s.inputs.tail
    free := s.free + 66 }

end Sys2Proof.Machine
end

