-- ==== Sys2Proof/Machine/Resources.lean ====
section
/-! DEFINITION. The resource rules of an execute packet (40_execution_model.md R174, R184 to R196): what each
instruction occupies, and the checks on a packet and on the nine cycles before it (R190). A packet that breaks a rule
is refused. The checks never look at register values: an instruction with a false condition counts (R133). -/

namespace Sys2Proof.Machine

/-- A single-cycle, 16 x 16 or other instruction that reads all its sources in cycle i. -/
def occupies (k : UnitKind) (side : Side) (t : Timing) (x : Bool) (reads : List RegName) (longRead longWrite : Bool) :
    Issue :=
  ⟨some ⟨k, side⟩, t, x, [reads], longRead, longWrite, none, false⟩

/-- An instruction that reads in several cycles (R177). -/
def occupiesFor (k : UnitKind) (side : Side) (t : Timing) (x : Bool) (reads : List (List RegName)) : Issue :=
  ⟨some ⟨k, side⟩, t, x, reads, false, false, none, false⟩

/-- The address registers of a load or store, by name. -/
def addressNames {γ : Type} (o : Mem γ) : List RegName := o.addressRegs.map fun r => ⟨o.unit, r⟩

/-- A load (45_load_store.md R363). -/
def occupiesLoad {γ : Type} (o : Mem γ) (doubleword : Bool) : Issue :=
  ⟨some ⟨.d, o.unit⟩, .load, false, [addressNames o], false, false, some o.side, doubleword⟩

/-- A store (45_load_store.md R364). -/
def occupiesStore (o : Mem Reg) : Issue :=
  ⟨some ⟨.d, o.unit⟩, .store, false, [addressNames o ++ [⟨o.side, o.data⟩]], false, false, some o.side, false⟩

/-- A load with a 15-bit offset, on .D2 (45_load_store.md R368). -/
def occupiesLoadK (o : MemK) : Issue :=
  ⟨some ⟨.d, .b⟩, .load, false, [[MemK.base o]], false, false, some o.side, false⟩

/-- A store with a 15-bit offset, on .D2 (45_load_store.md R368). -/
def occupiesStoreK (o : MemK) : Issue :=
  ⟨some ⟨.d, .b⟩, .store, false, [[MemK.base o, ⟨o.side, o.data⟩]], false, false, some o.side, false⟩

/-- NOP and IDLE use no unit and read nothing (40_execution_model.md R175). -/
def occupiesNothing : Issue := ⟨none, .none, false, [], false, false, none, false⟩

/-- What an instruction occupies: its unit, timing type, cross path, reads and long ports. A pseudo-instruction is the
instruction it assembles to. -/
def issueOf (i : Instr) : Issue :=
  match i.expand with
  | .abs o => occupies .l o.side .singleCycle o.x [⟨crossSide o.side o.x, o.src2⟩] false false
  | .absLong o => occupies .l o.side .singleCycle false [lowName o.side o.src2, highName o.side o.src2] true true
  | .addL o => occupies .l o.side .singleCycle o.x [⟨o.side, o.src1⟩, ⟨crossSide o.side o.x, o.src2⟩] false false
  | .addLWide o => occupies .l o.side .singleCycle o.x [⟨o.side, o.src1⟩, ⟨crossSide o.side o.x, o.src2⟩] false true
  | .addLLong o => occupies .l o.side .singleCycle o.x [⟨crossSide o.side o.x, o.src1⟩, lowName o.side o.src2, highName o.side o.src2] true true
  | .addLC o => occupies .l o.side .singleCycle o.x [⟨crossSide o.side o.x, o.src2⟩] false false
  | .addLLongC o => occupies .l o.side .singleCycle false [lowName o.side o.src2, highName o.side o.src2] true true
  | .adduWide o => occupies .l o.side .singleCycle o.x [⟨o.side, o.src1⟩, ⟨crossSide o.side o.x, o.src2⟩] false true
  | .adduLong o => occupies .l o.side .singleCycle o.x [⟨crossSide o.side o.x, o.src1⟩, lowName o.side o.src2, highName o.side o.src2] true true
  | .addspL o => occupies .l o.side .fourCycle o.x [⟨o.side, o.src1⟩, ⟨crossSide o.side o.x, o.src2⟩] false false
  | .adddpL o => occupiesFor .l o.side .adddp o.x
      [[lowName o.side o.src1, lowName (crossSide o.side o.x) o.src2], [highName o.side o.src1, highName (crossSide o.side o.x) o.src2]]
  | .andL o => occupies .l o.side .singleCycle o.x [⟨o.side, o.src1⟩, ⟨crossSide o.side o.x, o.src2⟩] false false
  | .andLC o => occupies .l o.side .singleCycle o.x [⟨crossSide o.side o.x, o.src2⟩] false false
  | .cmpeq o => occupies .l o.side .singleCycle o.x [⟨o.side, o.src1⟩, ⟨crossSide o.side o.x, o.src2⟩] false false
  | .cmpeqC o => occupies .l o.side .singleCycle o.x [⟨crossSide o.side o.x, o.src2⟩] false false
  | .cmpeqLong o => occupies .l o.side .singleCycle o.x [⟨crossSide o.side o.x, o.src1⟩, lowName o.side o.src2, highName o.side o.src2] true false
  | .cmpeqLongC o => occupies .l o.side .singleCycle false [lowName o.side o.src2, highName o.side o.src2] true false
  | .cmpgt o => occupies .l o.side .singleCycle o.x [⟨o.side, o.src1⟩, ⟨crossSide o.side o.x, o.src2⟩] false false
  | .cmpgtC o => occupies .l o.side .singleCycle o.x [⟨crossSide o.side o.x, o.src2⟩] false false
  | .cmpgtLong o => occupies .l o.side .singleCycle o.x [⟨crossSide o.side o.x, o.src1⟩, lowName o.side o.src2, highName o.side o.src2] true false
  | .cmpgtLongC o => occupies .l o.side .singleCycle false [lowName o.side o.src2, highName o.side o.src2] true false
  | .cmpgtu o => occupies .l o.side .singleCycle o.x [⟨o.side, o.src1⟩, ⟨crossSide o.side o.x, o.src2⟩] false false
  | .cmpgtuC o => occupies .l o.side .singleCycle o.x [⟨crossSide o.side o.x, o.src2⟩] false false
  | .cmpgtuLong o => occupies .l o.side .singleCycle o.x [⟨crossSide o.side o.x, o.src1⟩, lowName o.side o.src2, highName o.side o.src2] true false
  | .cmpgtuLongC o => occupies .l o.side .singleCycle false [lowName o.side o.src2, highName o.side o.src2] true false
  | .cmplt o => occupies .l o.side .singleCycle o.x [⟨o.side, o.src1⟩, ⟨crossSide o.side o.x, o.src2⟩] false false
  | .cmpltC o => occupies .l o.side .singleCycle o.x [⟨crossSide o.side o.x, o.src2⟩] false false
  | .cmpltLong o => occupies .l o.side .singleCycle o.x [⟨crossSide o.side o.x, o.src1⟩, lowName o.side o.src2, highName o.side o.src2] true false
  | .cmpltLongC o => occupies .l o.side .singleCycle false [lowName o.side o.src2, highName o.side o.src2] true false
  | .cmpltu o => occupies .l o.side .singleCycle o.x [⟨o.side, o.src1⟩, ⟨crossSide o.side o.x, o.src2⟩] false false
  | .cmpltuC o => occupies .l o.side .singleCycle o.x [⟨crossSide o.side o.x, o.src2⟩] false false
  | .cmpltuLong o => occupies .l o.side .singleCycle o.x [⟨crossSide o.side o.x, o.src1⟩, lowName o.side o.src2, highName o.side o.src2] true false
  | .cmpltuLongC o => occupies .l o.side .singleCycle false [lowName o.side o.src2, highName o.side o.src2] true false
  | .dpint o => occupies .l o.side .fourCycle false [lowName o.side o.src2, highName o.side o.src2] false false
  | .dpsp o => occupies .l o.side .fourCycle false [lowName o.side o.src2, highName o.side o.src2] false false
  | .dptrunc o => occupies .l o.side .fourCycle false [lowName o.side o.src2, highName o.side o.src2] false false
  | .intdp o => occupies .l o.side .intdp o.x [⟨crossSide o.side o.x, o.src2⟩] false false
  | .intdpu o => occupies .l o.side .intdp o.x [⟨crossSide o.side o.x, o.src2⟩] false false
  | .intsp o => occupies .l o.side .fourCycle o.x [⟨crossSide o.side o.x, o.src2⟩] false false
  | .intspu o => occupies .l o.side .fourCycle o.x [⟨crossSide o.side o.x, o.src2⟩] false false
  | .lmbd o => occupies .l o.side .singleCycle o.x [⟨o.side, o.src1⟩, ⟨crossSide o.side o.x, o.src2⟩] false false
  | .lmbdC o => occupies .l o.side .singleCycle o.x [⟨crossSide o.side o.x, o.src2⟩] false false
  | .norm o => occupies .l o.side .singleCycle o.x [⟨crossSide o.side o.x, o.src2⟩] false false
  | .normLong o => occupies .l o.side .singleCycle false [lowName o.side o.src2, highName o.side o.src2] true false
  | .orL o => occupies .l o.side .singleCycle o.x [⟨o.side, o.src1⟩, ⟨crossSide o.side o.x, o.src2⟩] false false
  | .orLC o => occupies .l o.side .singleCycle o.x [⟨crossSide o.side o.x, o.src2⟩] false false
  | .sadd o => occupies .l o.side .singleCycle o.x [⟨o.side, o.src1⟩, ⟨crossSide o.side o.x, o.src2⟩] false false
  | .saddLong o => occupies .l o.side .singleCycle o.x [⟨crossSide o.side o.x, o.src1⟩, lowName o.side o.src2, highName o.side o.src2] true true
  | .saddC o => occupies .l o.side .singleCycle o.x [⟨crossSide o.side o.x, o.src2⟩] false false
  | .saddLongC o => occupies .l o.side .singleCycle false [lowName o.side o.src2, highName o.side o.src2] true true
  | .sat o => occupies .l o.side .singleCycle false [lowName o.side o.src2, highName o.side o.src2] true false
  | .spint o => occupies .l o.side .fourCycle o.x [⟨crossSide o.side o.x, o.src2⟩] false false
  | .sptrunc o => occupies .l o.side .fourCycle o.x [⟨crossSide o.side o.x, o.src2⟩] false false
  | .ssub o => occupies .l o.side .singleCycle o.x [⟨o.side, o.src1⟩, ⟨crossSide o.side o.x, o.src2⟩] false false
  | .ssubX o => occupies .l o.side .singleCycle o.x [⟨crossSide o.side o.x, o.src1⟩, ⟨o.side, o.src2⟩] false false
  | .ssubC o => occupies .l o.side .singleCycle o.x [⟨crossSide o.side o.x, o.src2⟩] false false
  | .ssubLongC o => occupies .l o.side .singleCycle false [lowName o.side o.src2, highName o.side o.src2] true true
  | .subL o => occupies .l o.side .singleCycle o.x [⟨o.side, o.src1⟩, ⟨crossSide o.side o.x, o.src2⟩] false false
  | .subLX o => occupies .l o.side .singleCycle o.x [⟨crossSide o.side o.x, o.src1⟩, ⟨o.side, o.src2⟩] false false
  | .subLWide o => occupies .l o.side .singleCycle o.x [⟨o.side, o.src1⟩, ⟨crossSide o.side o.x, o.src2⟩] false true
  | .subLWideX o => occupies .l o.side .singleCycle o.x [⟨crossSide o.side o.x, o.src1⟩, ⟨o.side, o.src2⟩] false true
  | .subLC o => occupies .l o.side .singleCycle o.x [⟨crossSide o.side o.x, o.src2⟩] false false
  | .subLLongC o => occupies .l o.side .singleCycle false [lowName o.side o.src2, highName o.side o.src2] true true
  | .subuWide o => occupies .l o.side .singleCycle o.x [⟨o.side, o.src1⟩, ⟨crossSide o.side o.x, o.src2⟩] false true
  | .subuWideX o => occupies .l o.side .singleCycle o.x [⟨crossSide o.side o.x, o.src1⟩, ⟨o.side, o.src2⟩] false true
  | .subc o => occupies .l o.side .singleCycle o.x [⟨o.side, o.src1⟩, ⟨crossSide o.side o.x, o.src2⟩] false false
  | .subspL o => occupies .l o.side .fourCycle o.x [⟨o.side, o.src1⟩, ⟨crossSide o.side o.x, o.src2⟩] false false
  | .subspLX o => occupies .l o.side .fourCycle o.x [⟨crossSide o.side o.x, o.src1⟩, ⟨o.side, o.src2⟩] false false
  | .subdpL o => occupiesFor .l o.side .adddp o.x
      [[lowName o.side o.src1, lowName (crossSide o.side o.x) o.src2], [highName o.side o.src1, highName (crossSide o.side o.x) o.src2]]
  | .subdpLX o => occupiesFor .l o.side .adddp o.x
      [[lowName (crossSide o.side o.x) o.src1, lowName o.side o.src2], [highName (crossSide o.side o.x) o.src1, highName o.side o.src2]]
  | .xorL o => occupies .l o.side .singleCycle o.x [⟨o.side, o.src1⟩, ⟨crossSide o.side o.x, o.src2⟩] false false
  | .xorLC o => occupies .l o.side .singleCycle o.x [⟨crossSide o.side o.x, o.src2⟩] false false
  | .absdp o => occupies .s o.side .twoCycleDp false [lowName o.side o.src2, highName o.side o.src2] false false
  | .abssp o => occupies .s o.side .singleCycle o.x [⟨crossSide o.side o.x, o.src2⟩] false false
  | .addS o => occupies .s o.side .singleCycle o.x [⟨o.side, o.src1⟩, ⟨crossSide o.side o.x, o.src2⟩] false false
  | .addSC o => occupies .s o.side .singleCycle o.x [⟨crossSide o.side o.x, o.src2⟩] false false
  | .add2 o => occupies .s o.side .singleCycle o.x [⟨o.side, o.src1⟩, ⟨crossSide o.side o.x, o.src2⟩] false false
  | .andS o => occupies .s o.side .singleCycle o.x [⟨o.side, o.src1⟩, ⟨crossSide o.side o.x, o.src2⟩] false false
  | .andSC o => occupies .s o.side .singleCycle o.x [⟨crossSide o.side o.x, o.src2⟩] false false
  | .clrReg o => occupies .s o.side .singleCycle o.x [⟨o.side, o.src1⟩, ⟨crossSide o.side o.x, o.src2⟩] false false
  | .cmpeqdp o => occupiesFor .s o.side .dpCompare o.x
      [[lowName o.side o.src1, lowName (crossSide o.side o.x) o.src2], [highName o.side o.src1, highName (crossSide o.side o.x) o.src2]]
  | .cmpeqsp o => occupies .s o.side .singleCycle o.x [⟨o.side, o.src1⟩, ⟨crossSide o.side o.x, o.src2⟩] false false
  | .cmpgtdp o => occupiesFor .s o.side .dpCompare o.x
      [[lowName o.side o.src1, lowName (crossSide o.side o.x) o.src2], [highName o.side o.src1, highName (crossSide o.side o.x) o.src2]]
  | .cmpgtsp o => occupies .s o.side .singleCycle o.x [⟨o.side, o.src1⟩, ⟨crossSide o.side o.x, o.src2⟩] false false
  | .cmpltdp o => occupiesFor .s o.side .dpCompare o.x
      [[lowName o.side o.src1, lowName (crossSide o.side o.x) o.src2], [highName o.side o.src1, highName (crossSide o.side o.x) o.src2]]
  | .cmpltsp o => occupies .s o.side .singleCycle o.x [⟨o.side, o.src1⟩, ⟨crossSide o.side o.x, o.src2⟩] false false
  | .extReg o => occupies .s o.side .singleCycle o.x [⟨o.side, o.src1⟩, ⟨crossSide o.side o.x, o.src2⟩] false false
  | .extuReg o => occupies .s o.side .singleCycle o.x [⟨o.side, o.src1⟩, ⟨crossSide o.side o.x, o.src2⟩] false false
  | .orS o => occupies .s o.side .singleCycle o.x [⟨o.side, o.src1⟩, ⟨crossSide o.side o.x, o.src2⟩] false false
  | .orSC o => occupies .s o.side .singleCycle o.x [⟨crossSide o.side o.x, o.src2⟩] false false
  | .rcpdp o => occupies .s o.side .twoCycleDp false [lowName o.side o.src2, highName o.side o.src2] false false
  | .rcpsp o => occupies .s o.side .singleCycle o.x [⟨crossSide o.side o.x, o.src2⟩] false false
  | .rsqrdp o => occupies .s o.side .twoCycleDp false [lowName o.side o.src2, highName o.side o.src2] false false
  | .rsqrsp o => occupies .s o.side .singleCycle o.x [⟨crossSide o.side o.x, o.src2⟩] false false
  | .setReg o => occupies .s o.side .singleCycle o.x [⟨o.side, o.src1⟩, ⟨crossSide o.side o.x, o.src2⟩] false false
  | .shl o => occupies .s o.side .singleCycle o.x [⟨o.side, o.src1⟩, ⟨crossSide o.side o.x, o.src2⟩] false false
  | .shlLong o => occupies .s o.side .singleCycle false [⟨o.side, o.src1⟩, lowName o.side o.src2, highName o.side o.src2] true true
  | .shlWide o => occupies .s o.side .singleCycle o.x [⟨o.side, o.src1⟩, ⟨crossSide o.side o.x, o.src2⟩] false true
  | .shlC o => occupies .s o.side .singleCycle o.x [⟨crossSide o.side o.x, o.src2⟩] false false
  | .shlLongC o => occupies .s o.side .singleCycle false [lowName o.side o.src2, highName o.side o.src2] true true
  | .shlWideC o => occupies .s o.side .singleCycle o.x [⟨crossSide o.side o.x, o.src2⟩] false true
  | .shr o => occupies .s o.side .singleCycle o.x [⟨o.side, o.src1⟩, ⟨crossSide o.side o.x, o.src2⟩] false false
  | .shrLong o => occupies .s o.side .singleCycle false [⟨o.side, o.src1⟩, lowName o.side o.src2, highName o.side o.src2] true true
  | .shrC o => occupies .s o.side .singleCycle o.x [⟨crossSide o.side o.x, o.src2⟩] false false
  | .shrLongC o => occupies .s o.side .singleCycle false [lowName o.side o.src2, highName o.side o.src2] true true
  | .shru o => occupies .s o.side .singleCycle o.x [⟨o.side, o.src1⟩, ⟨crossSide o.side o.x, o.src2⟩] false false
  | .shruLong o => occupies .s o.side .singleCycle false [⟨o.side, o.src1⟩, lowName o.side o.src2, highName o.side o.src2] true true
  | .shruC o => occupies .s o.side .singleCycle o.x [⟨crossSide o.side o.x, o.src2⟩] false false
  | .shruLongC o => occupies .s o.side .singleCycle false [lowName o.side o.src2, highName o.side o.src2] true true
  | .spdp o => occupies .s o.side .twoCycleDp o.x [⟨crossSide o.side o.x, o.src2⟩] false false
  | .sshl o => occupies .s o.side .singleCycle o.x [⟨o.side, o.src1⟩, ⟨crossSide o.side o.x, o.src2⟩] false false
  | .sshlC o => occupies .s o.side .singleCycle o.x [⟨crossSide o.side o.x, o.src2⟩] false false
  | .subS o => occupies .s o.side .singleCycle o.x [⟨o.side, o.src1⟩, ⟨crossSide o.side o.x, o.src2⟩] false false
  | .subSC o => occupies .s o.side .singleCycle o.x [⟨crossSide o.side o.x, o.src2⟩] false false
  | .sub2 o => occupies .s o.side .singleCycle o.x [⟨o.side, o.src1⟩, ⟨crossSide o.side o.x, o.src2⟩] false false
  | .xorS o => occupies .s o.side .singleCycle o.x [⟨o.side, o.src1⟩, ⟨crossSide o.side o.x, o.src2⟩] false false
  | .xorSC o => occupies .s o.side .singleCycle o.x [⟨crossSide o.side o.x, o.src2⟩] false false
  | .addD o => occupies .d o.side .singleCycle false [⟨o.side, o.src1⟩, ⟨o.side, o.src2⟩] false false
  | .addDC o => occupies .d o.side .singleCycle false [⟨o.side, o.src2⟩] false false
  | .subD o => occupies .d o.side .singleCycle false [⟨o.side, o.src1⟩, ⟨o.side, o.src2⟩] false false
  | .subDC o => occupies .d o.side .singleCycle false [⟨o.side, o.src2⟩] false false
  | .addab o => occupies .d o.side .singleCycle false [⟨o.side, o.src1⟩, ⟨o.side, o.src2⟩] false false
  | .addabC o => occupies .d o.side .singleCycle false [⟨o.side, o.src2⟩] false false
  | .addah o => occupies .d o.side .singleCycle false [⟨o.side, o.src1⟩, ⟨o.side, o.src2⟩] false false
  | .addahC o => occupies .d o.side .singleCycle false [⟨o.side, o.src2⟩] false false
  | .addaw o => occupies .d o.side .singleCycle false [⟨o.side, o.src1⟩, ⟨o.side, o.src2⟩] false false
  | .addawC o => occupies .d o.side .singleCycle false [⟨o.side, o.src2⟩] false false
  | .addad o => occupies .d o.side .singleCycle false [⟨o.side, o.src1⟩, ⟨o.side, o.src2⟩] false false
  | .addadC o => occupies .d o.side .singleCycle false [⟨o.side, o.src2⟩] false false
  | .subab o => occupies .d o.side .singleCycle false [⟨o.side, o.src1⟩, ⟨o.side, o.src2⟩] false false
  | .subabC o => occupies .d o.side .singleCycle false [⟨o.side, o.src2⟩] false false
  | .subah o => occupies .d o.side .singleCycle false [⟨o.side, o.src1⟩, ⟨o.side, o.src2⟩] false false
  | .subahC o => occupies .d o.side .singleCycle false [⟨o.side, o.src2⟩] false false
  | .subaw o => occupies .d o.side .singleCycle false [⟨o.side, o.src1⟩, ⟨o.side, o.src2⟩] false false
  | .subawC o => occupies .d o.side .singleCycle false [⟨o.side, o.src2⟩] false false
  | .mpy o => occupies .m o.side .mul16 o.x [⟨o.side, o.src1⟩, ⟨crossSide o.side o.x, o.src2⟩] false false
  | .mpyC o => occupies .m o.side .mul16 o.x [⟨crossSide o.side o.x, o.src2⟩] false false
  | .mpyu o => occupies .m o.side .mul16 o.x [⟨o.side, o.src1⟩, ⟨crossSide o.side o.x, o.src2⟩] false false
  | .mpyus o => occupies .m o.side .mul16 o.x [⟨o.side, o.src1⟩, ⟨crossSide o.side o.x, o.src2⟩] false false
  | .mpysu o => occupies .m o.side .mul16 o.x [⟨o.side, o.src1⟩, ⟨crossSide o.side o.x, o.src2⟩] false false
  | .mpysuC o => occupies .m o.side .mul16 o.x [⟨crossSide o.side o.x, o.src2⟩] false false
  | .mpyh o => occupies .m o.side .mul16 o.x [⟨o.side, o.src1⟩, ⟨crossSide o.side o.x, o.src2⟩] false false
  | .mpyhu o => occupies .m o.side .mul16 o.x [⟨o.side, o.src1⟩, ⟨crossSide o.side o.x, o.src2⟩] false false
  | .mpyhus o => occupies .m o.side .mul16 o.x [⟨o.side, o.src1⟩, ⟨crossSide o.side o.x, o.src2⟩] false false
  | .mpyhsu o => occupies .m o.side .mul16 o.x [⟨o.side, o.src1⟩, ⟨crossSide o.side o.x, o.src2⟩] false false
  | .mpyhl o => occupies .m o.side .mul16 o.x [⟨o.side, o.src1⟩, ⟨crossSide o.side o.x, o.src2⟩] false false
  | .mpyhlu o => occupies .m o.side .mul16 o.x [⟨o.side, o.src1⟩, ⟨crossSide o.side o.x, o.src2⟩] false false
  | .mpyhuls o => occupies .m o.side .mul16 o.x [⟨o.side, o.src1⟩, ⟨crossSide o.side o.x, o.src2⟩] false false
  | .mpyhslu o => occupies .m o.side .mul16 o.x [⟨o.side, o.src1⟩, ⟨crossSide o.side o.x, o.src2⟩] false false
  | .mpylh o => occupies .m o.side .mul16 o.x [⟨o.side, o.src1⟩, ⟨crossSide o.side o.x, o.src2⟩] false false
  | .mpylhu o => occupies .m o.side .mul16 o.x [⟨o.side, o.src1⟩, ⟨crossSide o.side o.x, o.src2⟩] false false
  | .mpyluhs o => occupies .m o.side .mul16 o.x [⟨o.side, o.src1⟩, ⟨crossSide o.side o.x, o.src2⟩] false false
  | .mpylshu o => occupies .m o.side .mul16 o.x [⟨o.side, o.src1⟩, ⟨crossSide o.side o.x, o.src2⟩] false false
  | .smpy o => occupies .m o.side .mul16 o.x [⟨o.side, o.src1⟩, ⟨crossSide o.side o.x, o.src2⟩] false false
  | .smpyhl o => occupies .m o.side .mul16 o.x [⟨o.side, o.src1⟩, ⟨crossSide o.side o.x, o.src2⟩] false false
  | .smpylh o => occupies .m o.side .mul16 o.x [⟨o.side, o.src1⟩, ⟨crossSide o.side o.x, o.src2⟩] false false
  | .smpyh o => occupies .m o.side .mul16 o.x [⟨o.side, o.src1⟩, ⟨crossSide o.side o.x, o.src2⟩] false false
  | .mpysp o => occupies .m o.side .fourCycle o.x [⟨o.side, o.src1⟩, ⟨crossSide o.side o.x, o.src2⟩] false false
  | .mpydp o => occupiesFor .m o.side .mpydp o.x
      [[lowName o.side o.src1, lowName (crossSide o.side o.x) o.src2], [lowName o.side o.src1, highName (crossSide o.side o.x) o.src2], [highName o.side o.src1, lowName (crossSide o.side o.x) o.src2], [highName o.side o.src1, highName (crossSide o.side o.x) o.src2]]
  | .mpyi o => occupiesFor .m o.side .mpyi o.x
      [[⟨o.side, o.src1⟩, ⟨crossSide o.side o.x, o.src2⟩], [⟨o.side, o.src1⟩, ⟨crossSide o.side o.x, o.src2⟩], [⟨o.side, o.src1⟩, ⟨crossSide o.side o.x, o.src2⟩], [⟨o.side, o.src1⟩, ⟨crossSide o.side o.x, o.src2⟩]]
  | .mpyiC o => occupiesFor .m o.side .mpyi o.x
      [[⟨crossSide o.side o.x, o.src2⟩], [⟨crossSide o.side o.x, o.src2⟩], [⟨crossSide o.side o.x, o.src2⟩], [⟨crossSide o.side o.x, o.src2⟩]]
  | .mpyid o => occupiesFor .m o.side .mpyid o.x
      [[⟨o.side, o.src1⟩, ⟨crossSide o.side o.x, o.src2⟩], [⟨o.side, o.src1⟩, ⟨crossSide o.side o.x, o.src2⟩], [⟨o.side, o.src1⟩, ⟨crossSide o.side o.x, o.src2⟩], [⟨o.side, o.src1⟩, ⟨crossSide o.side o.x, o.src2⟩]]
  | .mpyidC o => occupiesFor .m o.side .mpyid o.x
      [[⟨crossSide o.side o.x, o.src2⟩], [⟨crossSide o.side o.x, o.src2⟩], [⟨crossSide o.side o.x, o.src2⟩], [⟨crossSide o.side o.x, o.src2⟩]]
  | .mpyspdp o => occupiesFor .m o.side .mpyspdp o.x
      [[⟨o.side, o.src1⟩, lowName (crossSide o.side o.x) o.src2], [⟨o.side, o.src1⟩, highName (crossSide o.side o.x) o.src2]]
  | .mpysp2dp o => occupies .m o.side .mpysp2dp o.x [⟨o.side, o.src1⟩, ⟨crossSide o.side o.x, o.src2⟩] false false
  | .bReg o => occupies .s .b .branch o.x [⟨crossSide .b o.x, o.src2⟩] false false
  | .bIrp _ => occupies .s .b .branch false [] false false
  | .bNrp _ => occupies .s .b .branch false [] false false
  | .mvcRead _ => occupies .s .b .singleCycle false [] false false
  | .mvcWrite o => occupies .s .b .singleCycle o.x [⟨crossSide .b o.x, o.src2⟩] false false
  | .extuConst o => occupies .s o.side .singleCycle false [⟨o.side, o.src2⟩] false false
  | .extConst o => occupies .s o.side .singleCycle false [⟨o.side, o.src2⟩] false false
  | .setConst o => occupies .s o.side .singleCycle false [⟨o.side, o.src2⟩] false false
  | .clrConst o => occupies .s o.side .singleCycle false [⟨o.side, o.src2⟩] false false
  | .addk o => occupies .s o.side .singleCycle false [⟨o.side, o.dst⟩] false false
  | .mvk o => occupies .s o.side .singleCycle false [] false false
  | .mvkh o => occupies .s o.side .singleCycle false [⟨o.side, o.dst⟩] false false
  | .bDisp o => occupies .s o.side .branch false [] false false
  | .ldhu o => occupiesLoad o false
  | .ldhuK o => occupiesLoadK o
  | .ldbu o => occupiesLoad o false
  | .ldbuK o => occupiesLoadK o
  | .ldb o => occupiesLoad o false
  | .ldbK o => occupiesLoadK o
  | .stb o => occupiesStore o
  | .stbK o => occupiesStoreK o
  | .ldh o => occupiesLoad o false
  | .ldhK o => occupiesLoadK o
  | .sth o => occupiesStore o
  | .sthK o => occupiesStoreK o
  | .ldw o => occupiesLoad o false
  | .ldwK o => occupiesLoadK o
  | .stw o => occupiesStore o
  | .stwK o => occupiesStoreK o
  | .lddw o => occupiesLoad o true
  | .nop _ => occupiesNothing
  | .nop9 => occupiesNothing
  | .idle => occupiesNothing
  | .mv _ => occupiesNothing
  | .neg _ => occupiesNothing
  | .not _ => occupiesNothing
  | .zero _ => occupiesNothing
  | .mvkl _ => occupiesNothing
  | .mvklh _ => occupiesNothing
  | .addspS o => occupies .s o.side .fourCycle o.x [⟨o.side, o.src1⟩, ⟨crossSide o.side o.x, o.src2⟩] false false
  | .adddpS o => occupiesFor .s o.side .adddp o.x
      [[lowName o.side o.src1, lowName (crossSide o.side o.x) o.src2], [highName o.side o.src1, highName (crossSide o.side o.x) o.src2]]
  | .subspS o => occupies .s o.side .fourCycle o.x [⟨o.side, o.src1⟩, ⟨crossSide o.side o.x, o.src2⟩] false false
  | .subdpS o => occupiesFor .s o.side .adddp o.x
      [[lowName o.side o.src1, lowName (crossSide o.side o.x) o.src2], [highName o.side o.src1, highName (crossSide o.side o.x) o.src2]]

/-- The cycles a unit is taken by an instruction issued in cycle i: i to i+n-1 (R174; MPYSPDP: 90_conflicts.md C5). -/
def Timing.lock : Timing → Nat
  | .dpCompare | .adddp | .mpysp2dp => 2
  | .mpyspdp => 3
  | .mpyi | .mpyid | .mpydp => 4
  | _ => 1

/-- The cycles an instruction holds its cross path (R195). -/
def Timing.crossCycles : Timing → Nat
  | .dpCompare | .adddp | .mpyspdp => 2
  | .mpyi | .mpyid | .mpydp => 4
  | _ => 1

/-- The cycles, counted from issue, in which a unit's write port carries the result (R173, R175). A load's data has a
port of its own. -/
def Timing.writeCycles : Timing → List Nat
  | .singleCycle => [0]
  | .mul16 => [1]
  | .twoCycleDp => [0, 1]
  | .dpCompare => [1]
  | .fourCycle => [3]
  | .intdp => [3, 4]
  | .mpysp2dp => [3, 4]
  | .adddp => [5, 6]
  | .mpyspdp => [5, 6]
  | .mpyi => [8]
  | .mpyid => [8, 9]
  | .mpydp => [8, 9]
  | .load | .store | .branch | .none => []

/-- The spacings that R196's table forbids and no common write cycle explains: an instruction of the second type cannot
be scheduled `age` cycles after one of the first on the same unit. -/
def Timing.forbids (first second : Timing) (age : Nat) : Bool :=
  match first, second with
  | .mpyi, .mul16 => age == 6
  | .mpyi, .fourCycle | .mpyi, .mpydp | .mpyi, .mpyspdp | .mpyi, .mpysp2dp
  | .mpyid, .fourCycle | .mpyid, .mpydp | .mpyid, .mpyspdp | .mpyid, .mpysp2dp
  | .mpydp, .fourCycle | .mpydp, .mpyi | .mpydp, .mpyid => age == 4 || age == 5 || age == 6
  | .mpyspdp, .fourCycle | .mpyspdp, .mpyi | .mpyspdp, .mpyid | .mpyspdp, .mpydp | .mpyspdp, .mpysp2dp =>
    age == 2 || age == 3
  | _, _ => false

/-- Two instructions of one unit would write in the same cycle, or the table forbids their spacing (R185, R196). -/
def writeClash (first second : Timing) (age : Nat) : Bool :=
  first.writeCycles.any (fun w => second.writeCycles.any fun v => w == v + age) || Timing.forbids first second age

/-- Each instruction issued before with its age in cycles: 1 for the previous cycle. -/
def aged (history : List (List Issue)) : List (Nat × Issue) := ageFrom 1 history
where
  /-- The ages from `n` on. -/
  ageFrom (n : Nat) : List (List Issue) → List (Nat × Issue)
    | [] => []
    | is :: rest => is.map (fun j => (n, j)) ++ ageFrom (n + 1) rest

/-- No two entries are equal. -/
def allDistinct {α : Type} [DecidableEq α] : List α → Bool
  | [] => true
  | x :: rest => !(x ∈ rest) && allDistinct rest

/-- The side of the unit. -/
def Issue.side (j : Issue) : Option Side := j.unit.map FUnit.side

/-- R184: no unit twice. -/
def unitsDistinct (now : List Issue) : Bool := allDistinct (now.filterMap Issue.unit)

/-- R174: no instruction on a locked unit. -/
def unitsUnlocked (past : List (Nat × Issue)) (now : List Issue) : Bool :=
  past.all fun h => h.1 ≥ h.2.timing.lock || now.all fun j => j.unit.isNone || j.unit != h.2.unit

/-- R186, R195: each cross path used at most once. -/
def crossPathsFree (past : List (Nat × Issue)) (now : List Issue) : Bool :=
  allDistinct ((now.filter Issue.cross ++
    (past.filter fun h => h.2.cross && decide (h.1 < h.2.timing.crossCycles)).map Prod.snd).filterMap Issue.side)

/-- R188: at most one load or store on each T path. -/
def tPathsDistinct (now : List Issue) : Bool := allDistinct (now.filterMap Issue.tPath)

/-- R189: the long ports of one side. -/
def longPortsFree (now : List Issue) : Bool :=
  allDistinct ((now.filter Issue.longRead).filterMap Issue.side) &&
  allDistinct ((now.filter Issue.longWrite).filterMap Issue.side) &&
  ((now.filter Issue.longRead).all fun j => now.all fun k => k.timing != .store || k.tPath != j.side)

/-- R191: no long result on the side to which an LDDW issued four cycles ago loads. -/
def longWriteAfterLddw (past : List (Nat × Issue)) (now : List Issue) : Bool :=
  past.all fun h => h.1 != 4 || !h.2.doubleword || now.all fun j => !j.longWrite || j.side != h.2.tPath

/-- The registers read `k` cycles from now, by the packet and by the multicycle instructions issued before (R192, R195). -/
def readsAhead (past : List (Nat × Issue)) (now : List Issue) (k : Nat) : List RegName :=
  now.flatMap (fun j => (j.reads[k]?).getD []) ++ past.flatMap (fun h => (h.2.reads[h.1 + k]?).getD [])

/-- R192: no register read more than four times in a cycle. A read comes at most three cycles after its issue (R177), and
the packet is held to this cycle and those three, so that it holds of the cycles in which nothing issues too (log entry
20). -/
def readsLimited (past : List (Nat × Issue)) (now : List Issue) : Bool :=
  (List.range 4).all fun k => (readsAhead past now k).all fun r => (readsAhead past now k).count r ≤ 4

/-- R185, R196: no two instructions of one unit writing in the same cycle. -/
def writePortsFree (past : List (Nat × Issue)) (now : List Issue) : Bool :=
  past.all fun h => now.all fun j =>
    j.unit.isNone || j.unit != h.2.unit || !writeClash h.2.timing j.timing h.1

/-- The first resource rule that a packet breaks, none if it may issue (R190). -/
def packetRefusal (history : List (List Issue)) (now : List Issue) : Option Refusal :=
  let past := aged history
  if !unitsDistinct now then some .unitUsedTwice
  else if !unitsUnlocked past now then some .unitLocked
  else if !crossPathsFree past now then some .crossPath
  else if !tPathsDistinct now then some .loadStorePaths
  else if !longPortsFree now then some .longPort
  else if !longWriteAfterLddw past now then some .lddwAndLongWrite
  else if !readsLimited past now then some .registerReads
  else if !writePortsFree past now then some .writePortHazard
  else none

end Sys2Proof.Machine
end

