-- ==== Sys2Proof/Machine/Cycle.lean ====
section
/-! DEFINITION. One execute cycle (40_execution_model.md R170, R176): what occupies E1, and what it does. -/

namespace Sys2Proof.Machine

/-- Instructions one after another into the current cycle. Each reads the state at the cycle's start: registers and
control registers do not change before the cycle ends (40_execution_model.md R176 step 1). -/
def runAll : List Instr → State → Result
  | [], s => .next s
  | i :: rest, s =>
    match exec i s with
    | .next t => runAll rest t
    | .fault f => .fault f
    | .refused r => .refused r

/-- STB, STH or STW. -/
def isStore (i : Instr) : Bool := (issueOf i).timing == .store

/-- The packet's instructions in the order of their memory accesses: loads read before stores write (20_memory.md R108).
-/
def memoryOrder (p : List Instr) : List Instr := p.filter (fun i => !isStore i) ++ p.filter isStore

/-- The address after an execute packet of `k` words (10_state.md R27, R29). -/
def sequentialPc (pc : Word) (k : Nat) : Word := pc + BitVec.ofNat 32 (4 * k)

/-- An execute packet issues (40_execution_model.md R176, R190). -/
def State.issuePacket (s : State) (p : List Instr) : Result :=
  match packetRefusal s.history (p.map issueOf) with
  | some r => .refused r
  | none =>
    match runAll (memoryOrder p) s with
    | .next t => .next (t.endCycle (p.map issueOf) (sequentialPc s.pc p.length))
    | .fault f => .fault f
    | .refused r => .refused r

/-- A cycle in which nothing issues and `pc` does not advance. -/
def State.quiet (s : State) : State := s.endCycle [] s.pc

/-- The execute packet at `pc` is fetched and issues. -/
def State.fetchAndIssue (s : State) : Result :=
  match s.packet with
  | .error r => .refused r
  | .ok p => s.issuePacket p

/-- A cycle in which no interrupt is taken and no interrupt entry is under way: a power-down cycle (60_exceptions.md
R525), a further cycle of a NOP (46_branch_nop.md R395), an idle cycle (R396), or an execute packet. -/
def State.runCycle (s : State) : Result :=
  if s.powerDown.isSome then .next s.quiet
  else if 0 < s.nopLeft then .next { s with nopLeft := s.nopLeft - 1 }.quiet
  else if s.idle then .next s.quiet
  else s.fetchAndIssue

/-- One cycle: reset (60_exceptions.md R498), an empty cycle of an interrupt entry (R497), the first cycle of one (R490
to R497), or a cycle of the program. -/
def nextCycle (s : State) : Result :=
  if s.input.reset then .next s.warmReset
  else if 0 < s.emptyLeft then .next { s with emptyLeft := s.emptyLeft - 1 }.quiet
  else match s.interruptToTake with
    | some n => .next (s.takeInterrupt n).quiet
    | none => s.runCycle

end Sys2Proof.Machine
end

