-- ==== Sys2Proof/Machine/Step.lean ====
section
/-! DEFINITION. The machine's step, and a state prepared to run one given instruction word (log entry 39). -/

namespace Sys2Proof.Machine

/-- One step is one execute cycle (40_execution_model.md R170). -/
def step (s : State) : Host.Outcome State Fault Refusal := nextCycle s

/-- The state with an instruction word where the next fetch reads it: `pc`, whatever issue state the fetch would wait
for put aside. -/
def State.withFetchWord (s : State) (nbits w : Nat) : State :=
  State.placeWord s (w % 2 ^ nbits)

end Sys2Proof.Machine
end

