-- ==== Sys2Proof/Safety.lean ====
section
/-! DEFINITION. What every state between two steps of a run keeps: the invariant `State.Inv`, and runs of several
steps. -/

namespace Sys2Proof.Machine

/-- A list of addresses of the 32-bit space, strictly rising. -/
def risingAddresses : List Nat → Bool
  | [] => true
  | a :: rest => decide (a < 2 ^ 32) && rest.all (fun b => a < b) && risingAddresses rest

/-- What holds between two cycles. -/
structure State.Inv (s : State) : Prop where
  /-- Data memory is in canonical form. -/
  memory : Memory.wf s.mem = true
  /-- Program memory is in canonical form. -/
  program : Memory.wf s.pmem = true
  /-- The addresses of changed code rise. -/
  changedCode : risingAddresses s.codeStores = true
  /-- `pc` is a multiple of 4 (10_state.md R27). -/
  pcAligned : s.pc.toNat % 4 = 0
  /-- No effect of a finished cycle is left over (10_state.md R32). -/
  cycleClosed : s.controls = [] ∧ s.stored = []
  /-- The history reaches back nine cycles (40_execution_model.md R190). -/
  historyBounded : s.history.length ≤ 9
  /-- At most eight further cycles of a NOP 9 (46_branch_nop.md R395). -/
  nopBounded : s.nopLeft ≤ 8
  /-- At most six further empty cycles (60_exceptions.md R497). -/
  entryBounded : s.emptyLeft ≤ 6
  /-- Every register write lands within nine cycles of its issue (40_execution_model.md R173). -/
  writesBounded : ∀ w ∈ s.writes, w.left ≤ 8
  /-- Every branch lands within five cycles, an interrupt's service packet within six (46_branch_nop.md R390). -/
  branchesBounded : ∀ b ∈ s.branches, b.left ≤ 5
  /-- SAT follows a result within two cycles (10_state.md R41). -/
  satsBounded : ∀ p ∈ s.sats, p.left ≤ 1
  /-- Warning bits land with the last result word (10_state.md R72). -/
  warnsBounded : ∀ w ∈ s.warns, w.left ≤ 8

/-- `n` steps, none where one of them stops. -/
def State.after (s : State) : Nat → Option State
  | 0 => some s
  | n + 1 => match step s with
    | .next t => State.after t n
    | .fault _ => none
    | .refused _ => none

end Sys2Proof.Machine
end

