-- ==== Sys2Proof/Certificates/Slice0/Obligations.lean ====
section
/-! DEFINITION. The statements for the provers, and before them the few definitions they are written with: exact values
as integers, queued writes, addresses and bytes, said from the spec and not through the model's own helpers. -/

namespace Sys2Proof.Claims

open Sys2Proof.Machine

/-- The side a source is read from: the other one through the cross path (40_execution_model.md R186). -/
def cross : Side → Bool → Side
  | side, false => side
  | .a, true => .b
  | .b, true => .a

/-- An exact integer modulo 2^32. -/
def word (v : Int) : Word := BitVec.ofInt 32 v

/-- One register write, due at the end of the cycle `left` cycles from now. -/
def lands (side : Side) (r : Reg) (left : Nat) (v : Word) : PendingWrite := ⟨⟨side, r⟩, v, left, [], 0⟩

/-- The state with these writes queued and nothing else changed. -/
def queue (s : State) (ws : List PendingWrite) : State := { s with writes := s.writes ++ ws }

/-- The two writes of a 40-bit result: bits 31-0, and bits 39-32 zero-filled (10_state.md R24). -/
def landsLong (side : Side) (p : Pair) (v : Int) : List PendingWrite :=
  [lands side (Pair.even p) 0 (word v), lands side (Pair.odd p) 0 (word (v / 2 ^ 32 % 256))]

/-- A 40-bit source as an unsigned number (10_state.md R24). -/
def ulong (s : State) (side : Side) (p : Pair) : Nat :=
  (s.reg ⟨side, Pair.even p⟩).toNat + 2 ^ 32 * ((s.reg ⟨side, Pair.odd p⟩).toNat % 256)

/-- A 40-bit source as a signed number. -/
def slong (s : State) (side : Side) (p : Pair) : Int := Int.bmod (ulong s side p) (2 ^ 40)

/-- One bit of a 40-bit source. -/
def longBit (s : State) (side : Side) (p : Pair) (k : Nat) : Bool := (ulong s side p).testBit k

/-- The nearest n-bit signed number. -/
def clamp (n : Nat) (v : Int) : Int := max (-2 ^ (n - 1)) (min (2 ^ (n - 1) - 1) v)

/-- A SAT set one cycle after the result, if clamping changed the value (10_state.md R41). -/
def satIf (n : Nat) (v : Int) (left : Nat) : List PendingSat := if clamp n v = v then [] else [⟨left + 1, true⟩]

/-- The signed lower half (44_multiply.md R320). -/
def lowS (w : Word) : Int := Int.bmod w.toNat 65536

/-- The signed upper half. -/
def highS (w : Word) : Int := Int.bmod (w.toNat / 65536) 65536

/-- The unsigned lower half. -/
def lowU (w : Word) : Int := w.toNat % 65536

/-- The unsigned upper half. -/
def highU (w : Word) : Int := w.toNat / 65536

/-- A register shift count: six bits, at most 40 (42_logic_shift_bitfield.md R265). -/
def count (w : Word) : Nat := min (w.toNat % 64) 40

/-- The AMR mode of a base register (10_state.md R34, R35). -/
def addressMode (s : State) (side : Side) (r : Reg) : Nat :=
  if 4 ≤ r.toNat ∧ r.toNat ≤ 7 then
    s.amr.toNat / 2 ^ (2 * (r.toNat - 4) + (if side = .b then 8 else 0)) % 4
  else 0

/-- The base register plus an offset, in linear mode or within its circular block (45_load_store.md R365). -/
def address (s : State) (side : Side) (r : Reg) (offset : Int) : Int :=
  let base : Int := (s.reg ⟨side, r⟩).toNat
  let within (size : Int) : Int := base / size * size + (base + offset) % size
  if addressMode s side r = 0 then base + offset
  else if addressMode s side r = 1 then within (2 ^ (s.amr.toNat / 2 ^ 16 % 32 + 1))
  else within (2 ^ (s.amr.toNat / 2 ^ 21 % 32 + 1))

/-- The offset of a load or store in bytes, before its sign. -/
def scaledOffset {γ : Type} (s : State) (o : Mem γ) (sh : Nat) : Int :=
  (match o.offset with
    | .cst k => k.toNat
    | .reg r => (s.reg ⟨o.unit, r⟩).toNat : Nat) * 2 ^ sh

/-- The modified base of a load or store (45_load_store.md R366). -/
def modifiedBase {γ : Type} (s : State) (o : Mem γ) (sh : Nat) : Word :=
  match o.mode with
  | .negOffset | .preDec | .postDec => word (address s o.unit o.base (-scaledOffset s o sh))
  | .posOffset | .preInc | .postInc => word (address s o.unit o.base (scaledOffset s o sh))

/-- The effective address of a load or store: the postmodifying modes use the base as it is (45_load_store.md R366). -/
def dataAddress {γ : Type} (s : State) (o : Mem γ) (sh : Nat) : Word :=
  match o.mode with
  | .postDec | .postInc => s.reg ⟨o.unit, o.base⟩
  | _ => modifiedBase s o sh

/-- The base-register write of the four modifying modes (45_load_store.md R366). -/
def baseUpdate {γ : Type} (s : State) (o : Mem γ) (sh : Nat) : List PendingWrite :=
  match o.mode with
  | .negOffset | .posOffset => []
  | _ => [lands o.unit o.base 0 (modifiedBase s o sh)]

/-- The effective address of a 15-bit-offset form: B14 or B15 plus the scaled constant (45_load_store.md R368). -/
def farAddress (s : State) (o : MemK) (sh : Nat) : Word :=
  word ((s.reg ⟨.b, if o.fromB15 then 15#5 else 14#5⟩).toNat + o.ucst15.toNat * 2 ^ sh : Nat)

/-- The address of byte k, from the least significant, of an n-byte value at `ea` (20_memory.md R97). -/
def byteAddress (s : State) (ea : Word) (n k : Nat) : Nat :=
  match s.device.endian with
  | .little => ea.toNat + k
  | .big => ea.toNat + (n - 1 - k)

/-- The n bytes at `ea` as a number in the device's byte order. -/
def bytesAt (s : State) (ea : Word) (n : Nat) : Nat :=
  ((List.range n).map fun k => (readByte s.mem (byteAddress s ea n k)).toNat * 256 ^ k).sum

/-- Memory stands behind the address in the load and store view (20_memory.md R104). -/
def InMemory (s : State) (a : Nat) : Prop := ∃ r, dataRegion s.device a = some r ∧ r.kind = .memory

/-- Nothing differs but queued writes and the counter of free values. -/
def OnlyWrites (s t : State) : Prop := t = { s with writes := t.writes, free := t.free }

/-- Nothing differs but queued writes, data memory, the records of stored addresses and changed code, and the counter of
free values. -/
def OnlyStores (s t : State) : Prop :=
  t = { s with writes := t.writes, mem := t.mem, stored := t.stored, codeStores := t.codeStores, free := t.free }

/-- `t` is `s` after the low n bytes of `v` were stored at `ea` and the writes `upd` queued. -/
def Stored (s t : State) (ea : Word) (n : Nat) (v : Word) (upd : List PendingWrite) : Prop :=
  (∀ k < n, readByte t.mem (byteAddress s ea n k) = BitVec.ofNat 8 (v.toNat / 256 ^ k)) ∧
  (∀ a, (∀ k < n, a ≠ ea.toNat + k) → readByte t.mem a = readByte s.mem a) ∧
  (∀ a, a ∈ t.stored ↔ ∃ k < n, a = ea.toNat + k) ∧
  t = { s with
    writes := s.writes ++ upd, mem := t.mem, stored := t.stored, codeStores := t.codeStores, free := t.free }

/-- The 32 bits of a floating-point configuration register: side B's half above side A's (10_state.md R64). -/
def configValue (c : FpConfig) : Nat := c.b.toNat * 2 ^ 16 + c.a.toNat

/-- The number of the enabled interrupt that comes first: NMI is 1, then INT4 to INT15, 0 if there is none
(10_state.md R59). -/
def firstInterrupt (s : State) : Nat :=
  if s.nmif = true ∧ s.nmie = true then 1
  else ((List.range 12).find? fun k => s.ifl.getLsbD k && s.ie.getLsbD k).elim 0 (· + 4)

/-- A readable control register as the sum of its fields (10_state.md R31 to R70). -/
def controlValue (s : State) (creg : Nat) : Option Nat :=
  match creg with
  | 0 => some s.amr.toNat
  | 1 => some ((match s.device.variant with | .c67x => 2 | .c67xPlus => 3) * 2 ^ 24 +
      s.device.revisionId.toNat * 2 ^ 16 + s.pwrd.toNat * 2 ^ 10 + s.sat.toNat * 2 ^ 9 +
      (match s.device.endian with | .little => 1 | .big => 0) * 2 ^ 8 + s.pcc.toNat * 2 ^ 5 + s.dcc.toNat * 2 ^ 2 +
      s.pgie.toNat * 2 + s.gie.toNat)
  | 2 => some (s.ifl.toNat * 2 ^ 4 + s.nmif.toNat * 2)
  | 4 => some (s.ie.toNat * 2 ^ 4 + s.nmie.toNat * 2 + 1)
  | 5 => some (s.istb.toNat * 2 ^ 10 + firstInterrupt s * 2 ^ 5)
  | 6 => some s.irp.toNat
  | 7 => some s.nrp.toNat
  | 16 => some (s.pc.toNat / 32 * 32)
  | 18 => some (configValue s.fadcr)
  | 19 => some (configValue s.faucr)
  | 20 => some (configValue s.fmcr)
  | _ => none

/-- The half of a configuration register that belongs to a side (10_state.md R64). -/
def half (c : FpConfig) (side : Side) : BitVec 11 :=
  match side with
  | .a => c.a
  | .b => c.b

/-- The rounding mode in bits 10-9 of a half, with the device's parameters (10_state.md R65). -/
def mode (d : Device) (h : BitVec 11) : FpMode := ⟨h.extractLsb' 9 2, d.tie, d.tiny, d.infoOnOverflow⟩

/-- The 64 bits of a register pair (10_state.md R23). -/
def pairBits (s : State) (side : Side) (p : Pair) : Nat :=
  (s.reg ⟨side, Pair.even p⟩).toNat + 2 ^ 32 * (s.reg ⟨side, Pair.odd p⟩).toNat

/-- The two registers of a pair. -/
def pairRegs (side : Side) (p : Pair) : List RegName := [⟨side, Pair.even p⟩, ⟨side, Pair.odd p⟩]

/-- A 32-bit floating-point result and its warnings queued for one cycle. -/
def fpWord (s : State) (side : Side) (dst : Reg) (left : Nat) (cfg : FpReg) (mask : BitVec 11) (r : FpResult)
    (watch : List RegName) (n : Nat) : State :=
  { s with
    writes := s.writes ++ [⟨⟨side, dst⟩, BitVec.ofNat 32 r.bits, left, watch, n⟩]
    warns := s.warns ++ [⟨left, cfg, side, r.warn, mask, watch, n⟩] }

/-- A 64-bit floating-point result: the low word at `left`, the high word and the warnings one cycle later
(40_execution_model.md R178). -/
def fpPair (s : State) (side : Side) (dst : Pair) (left : Nat) (cfg : FpReg) (mask : BitVec 11) (r : FpResult)
    (watch : List RegName) (n : Nat) : State :=
  { s with
    writes := s.writes ++ [⟨⟨side, Pair.even dst⟩, BitVec.ofNat 32 r.bits, left, watch, n⟩,
      ⟨⟨side, Pair.odd dst⟩, BitVec.ofNat 32 (r.bits / 2 ^ 32), left + 1, watch, n⟩]
    warns := s.warns ++ [⟨left + 1, cfg, side, r.warn, mask, watch, n⟩] }

/-- A compare's 1 or 0 with its warnings. -/
def compareResult (r : Bool × BitVec 11) : FpResult := ⟨if r.1 then 1 else 0, r.2⟩

/-- The programmable address of a floating-point configuration register (10_state.md R31). -/
def configAddress : FpReg → BitVec 5
  | .fadcr => 18#5
  | .faucr => 19#5
  | .fmcr => 20#5

/-- A configuration register of a state. -/
def config (s : State) : FpReg → FpConfig
  | .fadcr => s.fadcr
  | .faucr => s.faucr
  | .fmcr => s.fmcr

/-- The instruction has a condition field: every instruction but NOP and IDLE (30_encoding.md R132). -/
def Conditional (i : Instr) : Prop := (∀ k, i ≠ .nop k) ∧ i ≠ .nop9 ∧ i ≠ .idle

/-- creg and z as one number: bits 31-28 (30_encoding.md R130). -/
def conditionField : Cond → Nat
  | .always => 0
  | .nonzero .b0 => 2
  | .zero .b0 => 3
  | .nonzero .b1 => 4
  | .zero .b1 => 5
  | .nonzero .b2 => 6
  | .zero .b2 => 7
  | .nonzero .a1 => 8
  | .zero .a1 => 9
  | .nonzero .a2 => 10
  | .zero .a2 => 11

/-- The condition as a proposition on the registers (30_encoding.md R130). -/
def ConditionTrue (s : State) : Cond → Prop
  | .always => True
  | .nonzero .b0 => s.reg ⟨.b, 0#5⟩ ≠ 0#32
  | .zero .b0 => s.reg ⟨.b, 0#5⟩ = 0#32
  | .nonzero .b1 => s.reg ⟨.b, 1#5⟩ ≠ 0#32
  | .zero .b1 => s.reg ⟨.b, 1#5⟩ = 0#32
  | .nonzero .b2 => s.reg ⟨.b, 2#5⟩ ≠ 0#32
  | .zero .b2 => s.reg ⟨.b, 2#5⟩ = 0#32
  | .nonzero .a1 => s.reg ⟨.a, 1#5⟩ ≠ 0#32
  | .zero .a1 => s.reg ⟨.a, 1#5⟩ = 0#32
  | .nonzero .a2 => s.reg ⟨.a, 2#5⟩ ≠ 0#32
  | .zero .a2 => s.reg ⟨.a, 2#5⟩ = 0#32

/-- This cycle starts by fetching an execute packet: no reset, no interrupt entry, no interrupt, no power-down, no rest of
a NOP, not idle. -/
def Fetches (s : State) : Prop :=
  s.input.reset = false ∧ s.emptyLeft = 0 ∧ s.interruptToTake = none ∧ s.powerDown = none ∧ s.nopLeft = 0 ∧
    s.idle = false

/-- No interrupt is taken in this cycle and nothing but the NOP count or the idle state keeps it from fetching. -/
def Waits (s : State) : Prop :=
  s.input.reset = false ∧ s.emptyLeft = 0 ∧ s.interruptToTake = none ∧ s.powerDown = none

/-- No branch lands at the end of this cycle. -/
def NoBranchLands (s : State) : Prop := ∀ b ∈ s.branches, b.left ≠ 0

/-- Exactly one branch lands at the end of this cycle, on the word-aligned address `t`. -/
def BranchLands (s : State) (t : Word) : Prop :=
  s.branches.filter (fun b => b.left == 0) = [⟨t, 0⟩] ∧ t.toNat % 4 = 0

/-- The cycles a unit is locked by an instruction issued in cycle i, i itself included (40_execution_model.md R174). -/
def lockCycles : Timing → Nat
  | .dpCompare | .adddp | .mpysp2dp => 2
  | .mpyspdp => 3
  | .mpyi | .mpyid | .mpydp => 4
  | _ => 1

/-- The pipeline condition of 60_exceptions.md R495: no branch issued in the last five cycles. -/
def NoBranchNear (s : State) : Prop := ∀ k < 5, ∀ c, s.history[k]? = some c → ∀ j ∈ c, j.timing ≠ .branch

/-- Interrupt n (4 to 15) is pending and enabled in IER. -/
def PendingEnabled (s : State) (n : Nat) : Prop := s.ifl.getLsbD (n - 4) = true ∧ s.ie.getLsbD (n - 4) = true

/-- Interrupt n is the one to take (60_exceptions.md R485, R490, R491). -/
def FirstToTake (s : State) (n : Nat) : Prop :=
  (n = 1 ∧ s.nmif = true ∧ s.nmie = true) ∨
  (¬ (s.nmif = true ∧ s.nmie = true) ∧ 4 ≤ n ∧ n ≤ 15 ∧ s.gie = true ∧ s.nmie = true ∧ PendingEnabled s n ∧
    ∀ m, 4 ≤ m → m < n → ¬ PendingEnabled s m)

/-- Every branch in flight issued in one of the last five cycles and is recorded there, or is the service packet's address
of an interrupt entry under way. -/
def BranchesRecorded (s : State) : Prop :=
  ∀ b ∈ s.branches, s.emptyLeft = b.left + 1 ∨
    (b.left ≤ 4 ∧ ∃ c, s.history[4 - b.left]? = some c ∧ ∃ j ∈ c, j.timing = .branch)

/-- The reserved bits of the control register read at an address, as a mask (10_state.md R34, R49, R52, R64, R68, R70). -/
def reservedBits : Nat → Word
  | 0 => 0xFC000000#32
  | 2 => 0xFFFF000C#32
  | 4 => 0xFFFF000C#32
  | 18 => 0xF800F800#32
  | 19 => 0xF800F800#32
  | 20 => 0xF800F800#32
  | _ => 0#32

/-- The reserved bits of the control register written at an address: address 2 is ISR, 3 is ICR (10_state.md R47, R53). -/
def reservedForWrite : Nat → Word
  | 2 => 0xFFFF000F#32
  | 3 => 0xFFFF000F#32
  | a => reservedBits a

/-- Two to the power of an integer. -/
def pow2 (e : Int) : ℚ := (2 : ℚ) ^ e

/-- `± man * 2 ^ exp`. -/
def signed (neg : Bool) (man : Nat) (exp : Int) : ℚ := (if neg then -1 else 1) * (man : ℚ) * pow2 exp

/-- The pattern of a sign, exponent field and fraction. -/
def pattern (f : FpFormat) (neg : Bool) (e frac : Nat) : Nat :=
  (if neg then 2 ^ (f.expBits + f.fracBits) else 0) + e * 2 ^ f.fracBits + frac

/-- The largest exponent of a normal number, also the bias (47_float_arith.md R401, R402). -/
def maxExp (f : FpFormat) : Int := 2 ^ (f.expBits - 1) - 1

/-- An infinity. -/
def infinity (f : FpFormat) (neg : Bool) : Nat := pattern f neg (2 ^ f.expBits - 1) 0

/-- NaN_out (47_float_arith.md R404). -/
def nanOut (f : FpFormat) (neg : Bool) : Nat := pattern f neg (2 ^ f.expBits - 1) (2 ^ f.fracBits - 1)

/-- Warning bits by their places in a half (10_state.md R64, R68). -/
def nan1 : BitVec 11 := 1#11
/-- NAN2. -/
def nan2 : BitVec 11 := 2#11
/-- DEN1. -/
def den1 : BitVec 11 := 4#11
/-- DEN2. -/
def den2 : BitVec 11 := 8#11
/-- INVAL. -/
def inval : BitVec 11 := 16#11
/-- INFO. -/
def info : BitVec 11 := 32#11
/-- OVER. -/
def overBit : BitVec 11 := 64#11
/-- INEX. -/
def inex : BitVec 11 := 128#11
/-- UNDER. -/
def under : BitVec 11 := 256#11
/-- UNORD. -/
def unord : BitVec 11 := 512#11

/-- A bit that is raised when the condition holds. -/
def bitIf (c : Bool) (b : BitVec 11) : BitVec 11 := if c then b else 0#11

/-- The magnitude `x` in [2^e, 2^(e+1)) rounds to `n` units of 2^(e-p) (47_float_arith.md R411 step 1). -/
def RoundsTo (m : FpMode) (neg : Bool) (p : Nat) (x : ℚ) (e : Int) (n : Nat) : Prop :=
  let unit := pow2 (e - p)
  let away := x ≤ n * unit ∧ n * unit < x + unit
  let toward := n * unit ≤ x ∧ x < n * unit + unit
  if m.rm = 0#2 then
    |x - n * unit| ≤ unit / 2 ∧ (|x - n * unit| = unit / 2 → match m.tie with
      | .toEven => n % 2 = 0
      | .awayFromZero => x < n * unit)
  else if m.rm = 1#2 then toward
  else if m.rm = 2#2 then if neg then toward else away
  else if neg then away else toward

/-- The result `r` is that of rounding the magnitude `x` > 0 with a sign (47_float_arith.md R411). -/
def Rounded (f : FpFormat) (m : FpMode) (neg : Bool) (x : ℚ) (r : FpResult) : Prop :=
  ∃ (e : Int) (n : Nat), pow2 e ≤ x ∧ x < pow2 (e + 1) ∧ RoundsTo m neg f.fracBits x e n ∧
    let carried := n = 2 ^ (f.fracBits + 1)
    let e' := if carried then e + 1 else e
    let towardInf := (m.rm = 2#2 ∧ neg = false) ∨ (m.rm = 3#2 ∧ neg = true)
    if maxExp f < e' then
      r = if m.rm = 0#2 ∨ towardInf then ⟨infinity f neg, overBit ||| inex ||| bitIf m.infoOnOverflow info⟩
        else ⟨pattern f neg (2 ^ f.expBits - 2) (2 ^ f.fracBits - 1), overBit ||| inex⟩
    else if (match m.tiny with | .afterRounding => e' | .beforeRounding => e) < 1 - maxExp f then
      r = ⟨if towardInf then pattern f neg 1 0 else pattern f neg 0 0, under ||| inex⟩
    else r = ⟨pattern f neg (e' + maxExp f).toNat (if carried then 0 else n - 2 ^ f.fracBits),
      bitIf (decide (n * pow2 (e - f.fracBits) ≠ x)) inex⟩

/-- The classes of two sources raise these NaN warnings (47_float_arith.md R409). -/
def nanBits (a b : Fp) : BitVec 11 :=
  (match a with
    | .nan _ true => nan1 ||| inval
    | .nan _ false => nan1
    | _ => 0#11) |||
  (match b with
    | .nan _ true => nan2 ||| inval
    | .nan _ false => nan2
    | _ => 0#11)

/-- The source is a NaN. -/
def IsNan (x : Fp) : Prop := ∃ n q, x = .nan n q

/-- Another bus master writes the byte in this cycle (20_memory.md R112). -/
def Contested (s : State) (a : Nat) : Prop := s.device.externalWriters = true ∧ ∃ c ∈ s.input.external, c.1 = a

/-- Memory stands behind the address in the fetch view (20_memory.md R104). -/
def InCode (s : State) (a : Nat) : Prop := ∃ r, fetchRegion s.device a = some r ∧ r.kind = .memory

/-- The two views share the byte (20_memory.md R104). -/
def SharedByte (s : State) (a : Nat) : Prop := ∃ r, fetchRegion s.device a = some r ∧ r.view = .shared

/-- An access to which the spec gives a meaning: aligned, and backed by memory (20_memory.md R101, R105). -/
def Proper (s : State) (ea : Word) (n : Nat) : Prop := ea.toNat % n = 0 ∧ ∀ k < n, InMemory s (ea.toNat + k)

/-- A proper access of bytes that no other bus master writes in this cycle. -/
def Accessible (s : State) (ea : Word) (n : Nat) : Prop := Proper s ea n ∧ ∀ k < n, ¬ Contested s (ea.toNat + k)

/-- Byte k of the aligned container of an access. -/
def containerByte (ea : Word) (n k : Nat) : Nat := ea.toNat / n * n + k

/-- `b` is a free byte drawn between the two states. -/
def Drawn (s t : State) (b : Byte) : Prop := ∃ j, s.free ≤ j ∧ j < t.free ∧ b = freeByte j

/-- The load reads `n` bytes at `ea`, and queues these writes if the access is accessible; its base register is not in
the reserved AMR mode (45_load_store.md R370 to R376). -/
def IsLoad (s : State) (i : Instr) (ea : Word) (n : Nat) (ws : List PendingWrite) : Prop :=
  let value (w : Word) (side : Side) (r : Reg) := [lands side r 4 w]
  let u (n : Nat) : Word := word (bytesAt s ea n)
  let x (n : Nat) : Word := word (Int.bmod (bytesAt s ea n) (256 ^ n))
  (∃ o : Mem Reg, addressMode s o.unit o.base ≠ 3 ∧
    ((i = .ldb o ∧ ea = dataAddress s o 0 ∧ n = 1 ∧ ws = baseUpdate s o 0 ++ value (x 1) o.side o.data) ∨
    (i = .ldbu o ∧ ea = dataAddress s o 0 ∧ n = 1 ∧ ws = baseUpdate s o 0 ++ value (u 1) o.side o.data) ∨
    (i = .ldh o ∧ ea = dataAddress s o 1 ∧ n = 2 ∧ ws = baseUpdate s o 1 ++ value (x 2) o.side o.data) ∨
    (i = .ldhu o ∧ ea = dataAddress s o 1 ∧ n = 2 ∧ ws = baseUpdate s o 1 ++ value (u 2) o.side o.data) ∨
    (i = .ldw o ∧ ea = dataAddress s o 2 ∧ n = 4 ∧ ws = baseUpdate s o 2 ++ value (u 4) o.side o.data))) ∨
  (∃ o : Mem Pair, addressMode s o.unit o.base ≠ 3 ∧ i = .lddw o ∧ ea = dataAddress s o 3 ∧ n = 8 ∧
    ws = baseUpdate s o 3 ++ [lands o.side (Pair.even o.data) 4 (u 8),
      lands o.side (Pair.odd o.data) 4 (word (bytesAt s ea 8 / 2 ^ 32 : Nat))]) ∨
  (∃ o : MemK,
    (i = .ldbK o ∧ ea = farAddress s o 0 ∧ n = 1 ∧ ws = value (x 1) o.side o.data) ∨
    (i = .ldbuK o ∧ ea = farAddress s o 0 ∧ n = 1 ∧ ws = value (u 1) o.side o.data) ∨
    (i = .ldhK o ∧ ea = farAddress s o 1 ∧ n = 2 ∧ ws = value (x 2) o.side o.data) ∨
    (i = .ldhuK o ∧ ea = farAddress s o 1 ∧ n = 2 ∧ ws = value (u 2) o.side o.data) ∨
    (i = .ldwK o ∧ ea = farAddress s o 2 ∧ n = 4 ∧ ws = value (u 4) o.side o.data))

/-- The store writes the low `n` bytes of `v` at `ea` and queues the writes `upd`; its base register is not in the
reserved AMR mode (45_load_store.md R377 to R382). -/
def IsStore (s : State) (i : Instr) (ea : Word) (n : Nat) (v : Word) (upd : List PendingWrite) : Prop :=
  (∃ o : Mem Reg, addressMode s o.unit o.base ≠ 3 ∧ v = s.reg ⟨o.side, o.data⟩ ∧
    ((i = .stb o ∧ ea = dataAddress s o 0 ∧ n = 1 ∧ upd = baseUpdate s o 0) ∨
    (i = .sth o ∧ ea = dataAddress s o 1 ∧ n = 2 ∧ upd = baseUpdate s o 1) ∨
    (i = .stw o ∧ ea = dataAddress s o 2 ∧ n = 4 ∧ upd = baseUpdate s o 2))) ∨
  (∃ o : MemK, v = s.reg ⟨o.side, o.data⟩ ∧ upd = [] ∧
    ((i = .stbK o ∧ ea = farAddress s o 0 ∧ n = 1) ∨
    (i = .sthK o ∧ ea = farAddress s o 1 ∧ n = 2) ∨
    (i = .stwK o ∧ ea = farAddress s o 2 ∧ n = 4)))

/-- A configuration register of a state replaced. -/
def setConfig (s : State) (r : FpReg) (c : FpConfig) : State :=
  match r with
  | .fadcr => { s with fadcr := c }
  | .faucr => { s with faucr := c }
  | .fmcr => { s with fmcr := c }

/-- The warning bits that land at the end of this cycle in one half of a configuration register. -/
def dueBits (s : State) (r : FpReg) (side : Side) : BitVec 11 :=
  ((s.warns.filter fun w => w.left == 0 && w.reg == r && w.side == side).map PendingWarn.bits).foldl (· ||| ·) 0#11

/-- The power-down mode that a write of `v` to CSR enters (60_exceptions.md R525). -/
def entersMode (s : State) (v : Word) : Option PowerMode :=
  if s.device.pwrdSupported then
    match v.toNat / 2 ^ 10 % 64 with
    | 9 => some .pd1Enabled
    | 17 => some .pd1Any
    | 26 => some .pd2
    | 28 => some .pd3
    | _ => none
  else none

/-- The state `b` after a write of `v` to CSR in `s` that enters the power-down mode `m`, if any: SAT can only be
cleared, unless a saturation lands, and power-down ends the rest of a NOP and the idle state (10_state.md R37 to R45,
60_exceptions.md R525). -/
def csrWritten (s b : State) (v : Word) (m : Option PowerMode) : State :=
  { b with
    pwrd := BitVec.ofNat 6 (v.toNat / 2 ^ 10)
    sat := if s.sats.any (fun p => p.left == 0) then b.sat else s.sat && v.getLsbD 9 && !s.device.satWrite1Clears
    pcc := BitVec.ofNat 3 (v.toNat / 2 ^ 5)
    dcc := BitVec.ofNat 3 (v.toNat / 2 ^ 2)
    pgie := v.getLsbD 1
    gie := v.getLsbD 0
    powerDown := m.or b.powerDown
    nopLeft := if m.isSome then 0 else b.nopLeft
    idle := b.idle && m.isNone }

/-- A register write is due on `r` at the end of this cycle. -/
def Due (s : State) (r : RegName) : Prop := ∃ w ∈ s.writes, w.left = 0 ∧ w.reg = r

/-- The cycles an instruction keeps its cross path, i itself included (40_execution_model.md R195). -/
def crossHeld : Timing → Nat
  | .dpCompare | .adddp | .mpyspdp => 2
  | .mpyi | .mpyid | .mpydp => 4
  | _ => 1

/-- The table of 40_execution_model.md R196, MPYI against 16 x 16 as 90_conflicts.md C15 has it: the second type cannot be
scheduled on the unit this many cycles after the first. -/
def cannotFollow : Timing → Timing → List Nat
  | .twoCycleDp, .singleCycle | .twoCycleDp, .twoCycleDp => [1]
  | .fourCycle, .singleCycle => [3]
  | .fourCycle, .mul16 => [2]
  | .adddp, .singleCycle => [5, 6]
  | .adddp, .fourCycle | .adddp, .intdp => [2, 3]
  | .intdp, .singleCycle => [3, 4]
  | .intdp, .intdp | .intdp, .fourCycle => [1]
  | .mpyi, .fourCycle | .mpyi, .mpydp | .mpyi, .mpyspdp | .mpyi, .mpysp2dp => [4, 5, 6]
  | .mpyi, .mul16 => [6, 7]
  | .mpyid, .fourCycle | .mpyid, .mpydp | .mpyid, .mpyspdp | .mpyid, .mpysp2dp => [4, 5, 6]
  | .mpyid, .mul16 => [7, 8]
  | .mpydp, .fourCycle | .mpydp, .mpyi | .mpydp, .mpyid => [4, 5, 6]
  | .mpydp, .mul16 => [7, 8]
  | .mpyspdp, .fourCycle | .mpyspdp, .mpyi | .mpyspdp, .mpyid | .mpyspdp, .mpydp | .mpyspdp, .mpysp2dp => [2, 3]
  | .mpyspdp, .mul16 => [4, 5]
  | .mpysp2dp, .mul16 => [2, 3]
  | _, _ => []

/-- The reads of a register `k` cycles from now: those of a packet that issues now, and those of the multicycle
instructions issued before (40_execution_model.md R192, R195). -/
def readsOf (s : State) (p : List Instr) (k : Nat) (r : RegName) : Nat :=
  (p.map fun i => ((issueOf i).reads[k]?.getD []).count r).sum +
  (s.history.zipIdx.map fun c => (c.1.map fun h => (h.reads[c.2 + 1 + k]?.getD []).count r).sum).sum

/-- The class of a pattern with its sign inverted; a NaN keeps it (47_float_arith.md R430). -/
def inverted : Fp → Fp
  | .zero n => .zero (!n)
  | .denormal n => .denormal (!n)
  | .normal n k e => .normal (!n) k e
  | .inf n => .inf (!n)
  | .nan n q => .nan n q

/-- NAN1 and NAN2, and DEN1 and DEN2, exchanged. -/
def exchanged (w : BitVec 11) : BitVec 11 :=
  (w &&& 0x7F0#11) ||| ((w &&& 5#11) <<< 1) ||| ((w &&& 10#11) >>> 1)

/-- DIV0. -/
def div0 : BitVec 11 := 1024#11

/-- A denormal counts as a zero of its sign (47_float_arith.md R408). -/
def flushed : Fp → Fp
  | .denormal n => .zero n
  | x => x

/-- A zero, a denormal or a normal number. -/
def Finite (x : Fp) : Prop := ¬ IsNan x ∧ ∀ n, x ≠ .inf n

/-- The warnings of denormal sources that are taken as zeros (47_float_arith.md R408). -/
def denBits (a b : Fp) : BitVec 11 :=
  (match a with
    | .denormal _ => den1 ||| inex
    | _ => 0#11) |||
  (match b with
    | .denormal _ => den2 ||| inex
    | _ => 0#11)

/-- The NaN warnings of a one-source instruction (47_float_arith.md R409). -/
def nanBits2 (signalling : Bool) : BitVec 11 := nan2 ||| bitIf signalling inval

/-- The value rounds to the integer (48_float_compare_convert.md R458). -/
def RoundsToInt (m : FpMode) (x : ℚ) (n : Int) : Prop :=
  if m.rm = 0#2 then
    |x - n| ≤ 1 / 2 ∧ (|x - n| = 1 / 2 → match m.tie with
      | .toEven => n % 2 = 0
      | .awayFromZero => |x| < |(n : ℚ)|)
  else if m.rm = 1#2 then |(n : ℚ)| ≤ |x| ∧ |x| < |(n : ℚ)| + 1 ∧ 0 ≤ x * n
  else if m.rm = 2#2 then x ≤ n ∧ n < x + 1
  else n ≤ x ∧ x < n + 1

/-- The pattern fits the format and is no denormal and no NaN but NaN_out, and INEX does not come with INVAL
(47_float_arith.md R440, 48_float_compare_convert.md R470). -/
def Clean (f : FpFormat) (r : FpResult) : Prop :=
  let e := r.bits / 2 ^ f.fracBits % 2 ^ f.expBits
  let frac := r.bits % 2 ^ f.fracBits
  r.bits < 2 ^ (f.expBits + f.fracBits + 1) ∧ (e = 0 → frac = 0) ∧
    (e = 2 ^ f.expBits - 1 → frac = 0 ∨ frac = 2 ^ f.fracBits - 1) ∧ ¬ (r.warn &&& inex ≠ 0#11 ∧ r.warn &&& inval ≠ 0#11)

end Sys2Proof.Claims

section

open Sys2Proof Sys2Proof.Machine Sys2Proof.Claims

/-- ADD, ADDU, SUB, SUBU and ADDK: the exact sum or difference modulo 2^32 or 2^40, a long's odd register zero-filled.
Rules: R222, R227, R228, R233, R238, R242, R24, R171. -/
def Obligations.AddSubtractResults : Prop :=
  (∀ (o : Bin Reg Reg Reg) (s : State), s.holds o.cond = true →
    exec (.addL o) s = .next (queue s [lands o.side o.dst 0 (word ((s.reg ⟨o.side, o.src1⟩).toInt + (s.reg ⟨cross
      o.side o.x, o.src2⟩).toInt))])) ∧
  (∀ (o : Bin Cst5 Reg Reg) (s : State), s.holds o.cond = true →
    exec (.addLC o) s = .next (queue s [lands o.side o.dst 0 (word (o.src1.toInt + (s.reg ⟨cross o.side o.x,
      o.src2⟩).toInt))])) ∧
  (∀ (o : Bin Reg Reg Reg) (s : State), s.holds o.cond = true →
    exec (.addS o) s = .next (queue s [lands o.side o.dst 0 (word ((s.reg ⟨o.side, o.src1⟩).toInt + (s.reg ⟨cross
      o.side o.x, o.src2⟩).toInt))])) ∧
  (∀ (o : Bin Cst5 Reg Reg) (s : State), s.holds o.cond = true →
    exec (.addSC o) s = .next (queue s [lands o.side o.dst 0 (word (o.src1.toInt + (s.reg ⟨cross o.side o.x,
      o.src2⟩).toInt))])) ∧
  (∀ (o : BinN Reg Reg Reg) (s : State), s.holds o.cond = true →
    exec (.addD o) s = .next (queue s [lands o.side o.dst 0 (word ((s.reg ⟨o.side, o.src2⟩).toInt + (s.reg ⟨o.side,
      o.src1⟩).toInt))])) ∧
  (∀ (o : BinN Cst5 Reg Reg) (s : State), s.holds o.cond = true →
    exec (.addDC o) s = .next (queue s [lands o.side o.dst 0 (word ((s.reg ⟨o.side, o.src2⟩).toInt + (o.src1.toNat :
      Int)))])) ∧
  (∀ (o : Const16) (s : State), s.holds o.cond = true →
    exec (.addk o) s = .next (queue s [lands o.side o.dst 0 (word ((s.reg ⟨o.side, o.dst⟩).toInt + o.cst.toInt))])) ∧
  (∀ (o : Bin Reg Reg Reg) (s : State), s.holds o.cond = true →
    exec (.subL o) s = .next (queue s [lands o.side o.dst 0 (word ((s.reg ⟨o.side, o.src1⟩).toInt - (s.reg ⟨cross
      o.side o.x, o.src2⟩).toInt))])) ∧
  (∀ (o : Bin Reg Reg Reg) (s : State), s.holds o.cond = true →
    exec (.subLX o) s = .next (queue s [lands o.side o.dst 0 (word ((s.reg ⟨cross o.side o.x, o.src1⟩).toInt - (s.reg
      ⟨o.side, o.src2⟩).toInt))])) ∧
  (∀ (o : Bin Cst5 Reg Reg) (s : State), s.holds o.cond = true →
    exec (.subLC o) s = .next (queue s [lands o.side o.dst 0 (word (o.src1.toInt - (s.reg ⟨cross o.side o.x,
      o.src2⟩).toInt))])) ∧
  (∀ (o : Bin Reg Reg Reg) (s : State), s.holds o.cond = true →
    exec (.subS o) s = .next (queue s [lands o.side o.dst 0 (word ((s.reg ⟨o.side, o.src1⟩).toInt - (s.reg ⟨cross
      o.side o.x, o.src2⟩).toInt))])) ∧
  (∀ (o : Bin Cst5 Reg Reg) (s : State), s.holds o.cond = true →
    exec (.subSC o) s = .next (queue s [lands o.side o.dst 0 (word (o.src1.toInt - (s.reg ⟨cross o.side o.x,
      o.src2⟩).toInt))])) ∧
  (∀ (o : BinN Reg Reg Reg) (s : State), s.holds o.cond = true →
    exec (.subD o) s = .next (queue s [lands o.side o.dst 0 (word ((s.reg ⟨o.side, o.src2⟩).toInt - (s.reg ⟨o.side,
      o.src1⟩).toInt))])) ∧
  (∀ (o : BinN Cst5 Reg Reg) (s : State), s.holds o.cond = true →
    exec (.subDC o) s = .next (queue s [lands o.side o.dst 0 (word ((s.reg ⟨o.side, o.src2⟩).toInt - (o.src1.toNat :
      Int)))])) ∧
  (∀ (o : Bin Reg Reg Pair) (s : State), s.holds o.cond = true →
    exec (.addLWide o) s = .next (queue s (landsLong o.side o.dst ((s.reg ⟨o.side, o.src1⟩).toInt + (s.reg ⟨cross
      o.side o.x, o.src2⟩).toInt)))) ∧
  (∀ (o : Bin Reg Pair Pair) (s : State), s.holds o.cond = true →
    exec (.addLLong o) s = .next (queue s (landsLong o.side o.dst ((s.reg ⟨cross o.side o.x, o.src1⟩).toInt + slong s
      o.side o.src2)))) ∧
  (∀ (o : BinN Cst5 Pair Pair) (s : State), s.holds o.cond = true →
    exec (.addLLongC o) s = .next (queue s (landsLong o.side o.dst (o.src1.toInt + slong s o.side o.src2)))) ∧
  (∀ (o : Bin Reg Reg Pair) (s : State), s.holds o.cond = true →
    exec (.adduWide o) s = .next (queue s (landsLong o.side o.dst (((s.reg ⟨o.side, o.src1⟩).toNat : Int) + ((s.reg
      ⟨cross o.side o.x, o.src2⟩).toNat : Int))))) ∧
  (∀ (o : Bin Reg Pair Pair) (s : State), s.holds o.cond = true →
    exec (.adduLong o) s = .next (queue s (landsLong o.side o.dst (((s.reg ⟨cross o.side o.x, o.src1⟩).toNat : Int) +
      (ulong s o.side o.src2 : Int))))) ∧
  (∀ (o : Bin Reg Reg Pair) (s : State), s.holds o.cond = true →
    exec (.subLWide o) s = .next (queue s (landsLong o.side o.dst ((s.reg ⟨o.side, o.src1⟩).toInt - (s.reg ⟨cross
      o.side o.x, o.src2⟩).toInt)))) ∧
  (∀ (o : Bin Reg Reg Pair) (s : State), s.holds o.cond = true →
    exec (.subLWideX o) s = .next (queue s (landsLong o.side o.dst ((s.reg ⟨cross o.side o.x, o.src1⟩).toInt - (s.reg
      ⟨o.side, o.src2⟩).toInt)))) ∧
  (∀ (o : BinN Cst5 Pair Pair) (s : State), s.holds o.cond = true →
    exec (.subLLongC o) s = .next (queue s (landsLong o.side o.dst (o.src1.toInt - slong s o.side o.src2)))) ∧
  (∀ (o : Bin Reg Reg Pair) (s : State), s.holds o.cond = true →
    exec (.subuWide o) s = .next (queue s (landsLong o.side o.dst (((s.reg ⟨o.side, o.src1⟩).toNat : Int) - ((s.reg
      ⟨cross o.side o.x, o.src2⟩).toNat : Int))))) ∧
  (∀ (o : Bin Reg Reg Pair) (s : State), s.holds o.cond = true →
    exec (.subuWideX o) s = .next (queue s (landsLong o.side o.dst (((s.reg ⟨cross o.side o.x, o.src1⟩).toNat : Int)
      - ((s.reg ⟨o.side, o.src2⟩).toNat : Int)))))

/-- SADD, SSUB, SAT, SSHL and SMPY clamp the exact result, and set SAT one cycle after it exactly when clamping
changed it. Rules: R230, R231, R232, R268, R337, R338, R339, R340, R41. -/
def Obligations.SaturatingResults : Prop :=
  (∀ (o : Bin Reg Reg Reg) (s : State), s.holds o.cond = true →
    exec (.sadd o) s = .next
      { queue s [lands o.side o.dst 0 (word (clamp 32 ((s.reg ⟨o.side, o.src1⟩).toInt + (s.reg ⟨cross o.side o.x,
        o.src2⟩).toInt)))] with
        sats := s.sats ++ satIf 32 ((s.reg ⟨o.side, o.src1⟩).toInt + (s.reg ⟨cross o.side o.x, o.src2⟩).toInt) 0 }) ∧
  (∀ (o : Bin Reg Pair Pair) (s : State), s.holds o.cond = true →
    exec (.saddLong o) s = .next
      { queue s (landsLong o.side o.dst (clamp 40 ((s.reg ⟨cross o.side o.x, o.src1⟩).toInt + slong s o.side
        o.src2))) with
        sats := s.sats ++ satIf 40 ((s.reg ⟨cross o.side o.x, o.src1⟩).toInt + slong s o.side o.src2) 0 }) ∧
  (∀ (o : Bin Cst5 Reg Reg) (s : State), s.holds o.cond = true →
    exec (.saddC o) s = .next
      { queue s [lands o.side o.dst 0 (word (clamp 32 (o.src1.toInt + (s.reg ⟨cross o.side o.x, o.src2⟩).toInt)))]
        with
        sats := s.sats ++ satIf 32 (o.src1.toInt + (s.reg ⟨cross o.side o.x, o.src2⟩).toInt) 0 }) ∧
  (∀ (o : BinN Cst5 Pair Pair) (s : State), s.holds o.cond = true →
    exec (.saddLongC o) s = .next
      { queue s (landsLong o.side o.dst (clamp 40 (o.src1.toInt + slong s o.side o.src2))) with
        sats := s.sats ++ satIf 40 (o.src1.toInt + slong s o.side o.src2) 0 }) ∧
  (∀ (o : UnN Pair Reg) (s : State), s.holds o.cond = true →
    exec (.sat o) s = .next
      { queue s [lands o.side o.dst 0 (word (clamp 32 (slong s o.side o.src2)))] with
        sats := s.sats ++ satIf 32 (slong s o.side o.src2) 0 }) ∧
  (∀ (o : Bin Reg Reg Reg) (s : State), s.holds o.cond = true →
    exec (.ssub o) s = .next
      { queue s [lands o.side o.dst 0 (word (clamp 32 ((s.reg ⟨o.side, o.src1⟩).toInt - (s.reg ⟨cross o.side o.x,
        o.src2⟩).toInt)))] with
        sats := s.sats ++ satIf 32 ((s.reg ⟨o.side, o.src1⟩).toInt - (s.reg ⟨cross o.side o.x, o.src2⟩).toInt) 0 }) ∧
  (∀ (o : Bin Reg Reg Reg) (s : State), s.holds o.cond = true →
    exec (.ssubX o) s = .next
      { queue s [lands o.side o.dst 0 (word (clamp 32 ((s.reg ⟨cross o.side o.x, o.src1⟩).toInt - (s.reg ⟨o.side,
        o.src2⟩).toInt)))] with
        sats := s.sats ++ satIf 32 ((s.reg ⟨cross o.side o.x, o.src1⟩).toInt - (s.reg ⟨o.side, o.src2⟩).toInt) 0 }) ∧
  (∀ (o : Bin Cst5 Reg Reg) (s : State), s.holds o.cond = true →
    exec (.ssubC o) s = .next
      { queue s [lands o.side o.dst 0 (word (clamp 32 (o.src1.toInt - (s.reg ⟨cross o.side o.x, o.src2⟩).toInt)))]
        with
        sats := s.sats ++ satIf 32 (o.src1.toInt - (s.reg ⟨cross o.side o.x, o.src2⟩).toInt) 0 }) ∧
  (∀ (o : BinN Cst5 Pair Pair) (s : State), s.holds o.cond = true →
    exec (.ssubLongC o) s = .next
      { queue s (landsLong o.side o.dst (clamp 40 (o.src1.toInt - slong s o.side o.src2))) with
        sats := s.sats ++ satIf 40 (o.src1.toInt - slong s o.side o.src2) 0 }) ∧
  (∀ (o : Bin Cst5 Reg Reg) (s : State), s.holds o.cond = true →
    exec (.sshlC o) s = .next
      { queue s [lands o.side o.dst 0 (word (clamp 32 ((s.reg ⟨cross o.side o.x, o.src2⟩).toInt * 2 ^
        o.src1.toNat)))] with
        sats := s.sats ++ satIf 32 ((s.reg ⟨cross o.side o.x, o.src2⟩).toInt * 2 ^ o.src1.toNat) 0 }) ∧
  (∀ (o : Bin Reg Reg Reg) (s : State), s.holds o.cond = true → (s.reg ⟨o.side, o.src1⟩).toNat ≤ 31 →
    exec (.sshl o) s = .next
      { queue s [lands o.side o.dst 0 (word (clamp 32 ((s.reg ⟨cross o.side o.x, o.src2⟩).toInt * 2 ^ (s.reg ⟨o.side,
        o.src1⟩).toNat)))] with
        sats := s.sats ++ satIf 32 ((s.reg ⟨cross o.side o.x, o.src2⟩).toInt * 2 ^ (s.reg ⟨o.side, o.src1⟩).toNat) 0
          }) ∧
  (∀ (o : Bin Reg Reg Reg) (s : State), s.holds o.cond = true →
    exec (.smpy o) s = .next
      { queue s [lands o.side o.dst 1 (word (clamp 32 (2 * (lowS (s.reg ⟨o.side, o.src1⟩) * lowS (s.reg ⟨cross o.side
        o.x, o.src2⟩)))))] with
        sats := s.sats ++ satIf 32 (2 * (lowS (s.reg ⟨o.side, o.src1⟩) * lowS (s.reg ⟨cross o.side o.x, o.src2⟩))) 1
          }) ∧
  (∀ (o : Bin Reg Reg Reg) (s : State), s.holds o.cond = true →
    exec (.smpyh o) s = .next
      { queue s [lands o.side o.dst 1 (word (clamp 32 (2 * (highS (s.reg ⟨o.side, o.src1⟩) * highS (s.reg ⟨cross
        o.side o.x, o.src2⟩)))))] with
        sats := s.sats ++ satIf 32 (2 * (highS (s.reg ⟨o.side, o.src1⟩) * highS (s.reg ⟨cross o.side o.x, o.src2⟩)))
          1 }) ∧
  (∀ (o : Bin Reg Reg Reg) (s : State), s.holds o.cond = true →
    exec (.smpyhl o) s = .next
      { queue s [lands o.side o.dst 1 (word (clamp 32 (2 * (highS (s.reg ⟨o.side, o.src1⟩) * lowS (s.reg ⟨cross
        o.side o.x, o.src2⟩)))))] with
        sats := s.sats ++ satIf 32 (2 * (highS (s.reg ⟨o.side, o.src1⟩) * lowS (s.reg ⟨cross o.side o.x, o.src2⟩))) 1
          }) ∧
  (∀ (o : Bin Reg Reg Reg) (s : State), s.holds o.cond = true →
    exec (.smpylh o) s = .next
      { queue s [lands o.side o.dst 1 (word (clamp 32 (2 * (lowS (s.reg ⟨o.side, o.src1⟩) * highS (s.reg ⟨cross
        o.side o.x, o.src2⟩)))))] with
        sats := s.sats ++ satIf 32 (2 * (lowS (s.reg ⟨o.side, o.src1⟩) * highS (s.reg ⟨cross o.side o.x, o.src2⟩))) 1
          })

/-- Integer instructions whose result the spec leaves undefined complete with a free result and nothing else changed.
The free values are the model's form for them (log entries 10, 11, 12). Rules: R35, R268, R269, R270, R271, R272,
R365. -/
def Obligations.UndefinedResultsAreFree : Prop :=
  (∀ (o : Bin Reg Reg Reg) (s : State), s.holds o.cond = true → 31 < (s.reg ⟨o.side, o.src1⟩).toNat →
    ∃ v b, exec (.sshl o) s = .next
      { queue s [lands o.side o.dst 0 v] with sats := s.sats ++ [⟨1, b⟩], free := s.free + 2 }) ∧
  (∀ (o : BinN Reg Reg Reg) (s : State), s.holds o.cond = true → addressMode s o.side o.src2 = 3 →
    ∃ v, exec (.addab o) s = .next { queue s [lands o.side o.dst 0 v] with free := s.free + 1 }) ∧
  (∀ (o : BinN Cst5 Reg Reg) (s : State), s.holds o.cond = true → addressMode s o.side o.src2 = 3 →
    ∃ v, exec (.addabC o) s = .next { queue s [lands o.side o.dst 0 v] with free := s.free + 1 }) ∧
  (∀ (o : BinN Reg Reg Reg) (s : State), s.holds o.cond = true → addressMode s o.side o.src2 = 3 →
    ∃ v, exec (.addah o) s = .next { queue s [lands o.side o.dst 0 v] with free := s.free + 1 }) ∧
  (∀ (o : BinN Cst5 Reg Reg) (s : State), s.holds o.cond = true → addressMode s o.side o.src2 = 3 →
    ∃ v, exec (.addahC o) s = .next { queue s [lands o.side o.dst 0 v] with free := s.free + 1 }) ∧
  (∀ (o : BinN Reg Reg Reg) (s : State), s.holds o.cond = true → addressMode s o.side o.src2 = 3 →
    ∃ v, exec (.addaw o) s = .next { queue s [lands o.side o.dst 0 v] with free := s.free + 1 }) ∧
  (∀ (o : BinN Cst5 Reg Reg) (s : State), s.holds o.cond = true → addressMode s o.side o.src2 = 3 →
    ∃ v, exec (.addawC o) s = .next { queue s [lands o.side o.dst 0 v] with free := s.free + 1 }) ∧
  (∀ (o : BinN Reg Reg Reg) (s : State), s.holds o.cond = true → addressMode s o.side o.src2 = 3 →
    ∃ v, exec (.addad o) s = .next { queue s [lands o.side o.dst 0 v] with free := s.free + 1 }) ∧
  (∀ (o : BinN Cst5 Reg Reg) (s : State), s.holds o.cond = true → addressMode s o.side o.src2 = 3 →
    ∃ v, exec (.addadC o) s = .next { queue s [lands o.side o.dst 0 v] with free := s.free + 1 }) ∧
  (∀ (o : BinN Reg Reg Reg) (s : State), s.holds o.cond = true → addressMode s o.side o.src2 = 3 →
    ∃ v, exec (.subab o) s = .next { queue s [lands o.side o.dst 0 v] with free := s.free + 1 }) ∧
  (∀ (o : BinN Cst5 Reg Reg) (s : State), s.holds o.cond = true → addressMode s o.side o.src2 = 3 →
    ∃ v, exec (.subabC o) s = .next { queue s [lands o.side o.dst 0 v] with free := s.free + 1 }) ∧
  (∀ (o : BinN Reg Reg Reg) (s : State), s.holds o.cond = true → addressMode s o.side o.src2 = 3 →
    ∃ v, exec (.subah o) s = .next { queue s [lands o.side o.dst 0 v] with free := s.free + 1 }) ∧
  (∀ (o : BinN Cst5 Reg Reg) (s : State), s.holds o.cond = true → addressMode s o.side o.src2 = 3 →
    ∃ v, exec (.subahC o) s = .next { queue s [lands o.side o.dst 0 v] with free := s.free + 1 }) ∧
  (∀ (o : BinN Reg Reg Reg) (s : State), s.holds o.cond = true → addressMode s o.side o.src2 = 3 →
    ∃ v, exec (.subaw o) s = .next { queue s [lands o.side o.dst 0 v] with free := s.free + 1 }) ∧
  (∀ (o : BinN Cst5 Reg Reg) (s : State), s.holds o.cond = true → addressMode s o.side o.src2 = 3 →
    ∃ v, exec (.subawC o) s = .next { queue s [lands o.side o.dst 0 v] with free := s.free + 1 }) ∧
  (∀ (o : FieldOp) (s : State), s.holds o.cond = true → o.cstb.toNat < o.csta.toNat →
    ∃ v, exec (.clrConst o) s = .next { queue s [lands o.side o.dst 0 v] with free := s.free + 1 }) ∧
  (∀ (o : FieldOp) (s : State), s.holds o.cond = true → o.cstb.toNat < o.csta.toNat →
    ∃ v, exec (.setConst o) s = .next { queue s [lands o.side o.dst 0 v] with free := s.free + 1 }) ∧
  (∀ (o : Bin Reg Reg Reg) (s : State), s.holds o.cond = true → (1024 ≤ (s.reg ⟨o.side, o.src1⟩).toNat ∨ ((s.reg
    ⟨o.side, o.src1⟩).toNat % 32) < ((s.reg ⟨o.side, o.src1⟩).toNat / 32)) →
    ∃ v, exec (.clrReg o) s = .next { queue s [lands o.side o.dst 0 v] with free := s.free + 1 }) ∧
  (∀ (o : Bin Reg Reg Reg) (s : State), s.holds o.cond = true → (1024 ≤ (s.reg ⟨o.side, o.src1⟩).toNat ∨ ((s.reg
    ⟨o.side, o.src1⟩).toNat % 32) < ((s.reg ⟨o.side, o.src1⟩).toNat / 32)) →
    ∃ v, exec (.setReg o) s = .next { queue s [lands o.side o.dst 0 v] with free := s.free + 1 }) ∧
  (∀ (o : Bin Reg Reg Reg) (s : State), s.holds o.cond = true → (1024 ≤ (s.reg ⟨o.side, o.src1⟩).toNat ∨ ((s.reg
    ⟨o.side, o.src1⟩).toNat % 32) < ((s.reg ⟨o.side, o.src1⟩).toNat / 32)) →
    ∃ v, exec (.extReg o) s = .next { queue s [lands o.side o.dst 0 v] with free := s.free + 1 }) ∧
  (∀ (o : Bin Reg Reg Reg) (s : State), s.holds o.cond = true → (1024 ≤ (s.reg ⟨o.side, o.src1⟩).toNat ∨ ((s.reg
    ⟨o.side, o.src1⟩).toNat % 32) < ((s.reg ⟨o.side, o.src1⟩).toNat / 32)) →
    ∃ v, exec (.extuReg o) s = .next { queue s [lands o.side o.dst 0 v] with free := s.free + 1 })

/-- ABS clamps and leaves SAT alone; ADD2 and SUB2 work on halves; SUBC is one division step. That ABS leaves SAT
alone is the spec's decision D17; SUBC for operands of 80000000h and above, where D0 is open, is the choice of
93_implementation_defined.md U13 (log entry 37). Rules: R221, R229, R237, R239, R24. -/
def Obligations.AbsoluteAndPackedResults : Prop :=
  (∀ (o : Un Reg Reg) (s : State), s.holds o.cond = true →
    exec (.abs o) s = .next (queue s [lands o.side o.dst 0 (word (clamp 32 |(s.reg ⟨cross o.side o.x,
      o.src2⟩).toInt|))])) ∧
  (∀ (o : UnN Pair Pair) (s : State), s.holds o.cond = true →
    exec (.absLong o) s = .next (queue s (landsLong o.side o.dst (clamp 40 |slong s o.side o.src2|)))) ∧
  (∀ (o : Bin Reg Reg Reg) (s : State), s.holds o.cond = true →
    exec (.add2 o) s = .next (queue s [lands o.side o.dst 0 (word (((s.reg ⟨o.side, o.src1⟩).toNat % 65536 + (s.reg
      ⟨cross o.side o.x, o.src2⟩).toNat % 65536) % 65536 +
        65536 * (((s.reg ⟨o.side, o.src1⟩).toNat / 65536 + (s.reg ⟨cross o.side o.x, o.src2⟩).toNat / 65536) % 65536)
          : Nat))])) ∧
  (∀ (o : Bin Reg Reg Reg) (s : State), s.holds o.cond = true →
    exec (.sub2 o) s = .next (queue s [lands o.side o.dst 0 (word ((((s.reg ⟨o.side, o.src1⟩).toNat : Int) % 65536 -
      ((s.reg ⟨cross o.side o.x, o.src2⟩).toNat : Int) % 65536) % 65536 +
        65536 * ((((s.reg ⟨o.side, o.src1⟩).toNat : Int) / 65536 - ((s.reg ⟨cross o.side o.x, o.src2⟩).toNat : Int) /
          65536) % 65536)))])) ∧
  (∀ (o : Bin Reg Reg Reg) (s : State), s.holds o.cond = true →
    exec (.subc o) s = .next (queue s [lands o.side o.dst 0 (word (if (s.reg ⟨cross o.side o.x, o.src2⟩).toNat ≤
      (s.reg ⟨o.side, o.src1⟩).toNat then 2 * (((s.reg ⟨o.side, o.src1⟩).toNat : Int) - ((s.reg ⟨cross o.side o.x,
      o.src2⟩).toNat : Int)) + 1 else 2 * ((s.reg ⟨o.side, o.src1⟩).toNat : Int)))]))

/-- ADDAB, ADDAH, ADDAW, ADDAD, SUBAB, SUBAH and SUBAW: scaled linear or circular address arithmetic by AMR. Rules:
R223, R224, R225, R226, R234, R235, R236, R365. -/
def Obligations.AddressArithmetic : Prop :=
  (∀ (o : BinN Reg Reg Reg) (s : State), s.holds o.cond = true → addressMode s o.side o.src2 ≠ 3 →
    exec (.addab o) s = .next (queue s [lands o.side o.dst 0 (word (address s o.side o.src2 (((s.reg ⟨o.side,
      o.src1⟩).toNat * 1 : Nat))))])) ∧
  (∀ (o : BinN Cst5 Reg Reg) (s : State), s.holds o.cond = true → addressMode s o.side o.src2 ≠ 3 →
    exec (.addabC o) s = .next (queue s [lands o.side o.dst 0 (word (address s o.side o.src2 ((o.src1.toNat * 1 :
      Nat))))])) ∧
  (∀ (o : BinN Reg Reg Reg) (s : State), s.holds o.cond = true → addressMode s o.side o.src2 ≠ 3 →
    exec (.addah o) s = .next (queue s [lands o.side o.dst 0 (word (address s o.side o.src2 (((s.reg ⟨o.side,
      o.src1⟩).toNat * 2 : Nat))))])) ∧
  (∀ (o : BinN Cst5 Reg Reg) (s : State), s.holds o.cond = true → addressMode s o.side o.src2 ≠ 3 →
    exec (.addahC o) s = .next (queue s [lands o.side o.dst 0 (word (address s o.side o.src2 ((o.src1.toNat * 2 :
      Nat))))])) ∧
  (∀ (o : BinN Reg Reg Reg) (s : State), s.holds o.cond = true → addressMode s o.side o.src2 ≠ 3 →
    exec (.addaw o) s = .next (queue s [lands o.side o.dst 0 (word (address s o.side o.src2 (((s.reg ⟨o.side,
      o.src1⟩).toNat * 4 : Nat))))])) ∧
  (∀ (o : BinN Cst5 Reg Reg) (s : State), s.holds o.cond = true → addressMode s o.side o.src2 ≠ 3 →
    exec (.addawC o) s = .next (queue s [lands o.side o.dst 0 (word (address s o.side o.src2 ((o.src1.toNat * 4 :
      Nat))))])) ∧
  (∀ (o : BinN Reg Reg Reg) (s : State), s.holds o.cond = true → addressMode s o.side o.src2 ≠ 3 →
    exec (.addad o) s = .next (queue s [lands o.side o.dst 0 (word (address s o.side o.src2 (((s.reg ⟨o.side,
      o.src1⟩).toNat * 8 : Nat))))])) ∧
  (∀ (o : BinN Cst5 Reg Reg) (s : State), s.holds o.cond = true → addressMode s o.side o.src2 ≠ 3 →
    exec (.addadC o) s = .next (queue s [lands o.side o.dst 0 (word (address s o.side o.src2 ((o.src1.toNat * 8 :
      Nat))))])) ∧
  (∀ (o : BinN Reg Reg Reg) (s : State), s.holds o.cond = true → addressMode s o.side o.src2 ≠ 3 →
    exec (.subab o) s = .next (queue s [lands o.side o.dst 0 (word (address s o.side o.src2 (-((s.reg ⟨o.side,
      o.src1⟩).toNat * 1 : Nat))))])) ∧
  (∀ (o : BinN Cst5 Reg Reg) (s : State), s.holds o.cond = true → addressMode s o.side o.src2 ≠ 3 →
    exec (.subabC o) s = .next (queue s [lands o.side o.dst 0 (word (address s o.side o.src2 (-(o.src1.toNat * 1 :
      Nat))))])) ∧
  (∀ (o : BinN Reg Reg Reg) (s : State), s.holds o.cond = true → addressMode s o.side o.src2 ≠ 3 →
    exec (.subah o) s = .next (queue s [lands o.side o.dst 0 (word (address s o.side o.src2 (-((s.reg ⟨o.side,
      o.src1⟩).toNat * 2 : Nat))))])) ∧
  (∀ (o : BinN Cst5 Reg Reg) (s : State), s.holds o.cond = true → addressMode s o.side o.src2 ≠ 3 →
    exec (.subahC o) s = .next (queue s [lands o.side o.dst 0 (word (address s o.side o.src2 (-(o.src1.toNat * 2 :
      Nat))))])) ∧
  (∀ (o : BinN Reg Reg Reg) (s : State), s.holds o.cond = true → addressMode s o.side o.src2 ≠ 3 →
    exec (.subaw o) s = .next (queue s [lands o.side o.dst 0 (word (address s o.side o.src2 (-((s.reg ⟨o.side,
      o.src1⟩).toNat * 4 : Nat))))])) ∧
  (∀ (o : BinN Cst5 Reg Reg) (s : State), s.holds o.cond = true → addressMode s o.side o.src2 ≠ 3 →
    exec (.subawC o) s = .next (queue s [lands o.side o.dst 0 (word (address s o.side o.src2 (-(o.src1.toNat * 4 :
      Nat))))]))

/-- AND, OR, XOR bit by bit; SHL, SHR and SHRU shift 32-bit and 40-bit values by a constant or by a register count
capped at 40. Rules: R261, R262, R263, R265, R266, R267, R24. -/
def Obligations.LogicAndShiftResults : Prop :=
  (∀ (o : Bin Reg Reg Reg) (s : State), s.holds o.cond = true → ∃ v,
    exec (.andL o) s = .next (queue s [lands o.side o.dst 0 v]) ∧
      ∀ k < 32, v.getLsbD k = and ((s.reg ⟨o.side, o.src1⟩).getLsbD k) ((s.reg ⟨cross o.side o.x, o.src2⟩).getLsbD
        k)) ∧
  (∀ (o : Bin Cst5 Reg Reg) (s : State), s.holds o.cond = true → ∃ v,
    exec (.andLC o) s = .next (queue s [lands o.side o.dst 0 v]) ∧
      ∀ k < 32, v.getLsbD k = and ((o.src1.signExtend 32).getLsbD k) ((s.reg ⟨cross o.side o.x, o.src2⟩).getLsbD k)) ∧
  (∀ (o : Bin Reg Reg Reg) (s : State), s.holds o.cond = true → ∃ v,
    exec (.andS o) s = .next (queue s [lands o.side o.dst 0 v]) ∧
      ∀ k < 32, v.getLsbD k = and ((s.reg ⟨o.side, o.src1⟩).getLsbD k) ((s.reg ⟨cross o.side o.x, o.src2⟩).getLsbD
        k)) ∧
  (∀ (o : Bin Cst5 Reg Reg) (s : State), s.holds o.cond = true → ∃ v,
    exec (.andSC o) s = .next (queue s [lands o.side o.dst 0 v]) ∧
      ∀ k < 32, v.getLsbD k = and ((o.src1.signExtend 32).getLsbD k) ((s.reg ⟨cross o.side o.x, o.src2⟩).getLsbD k)) ∧
  (∀ (o : Bin Reg Reg Reg) (s : State), s.holds o.cond = true → ∃ v,
    exec (.orL o) s = .next (queue s [lands o.side o.dst 0 v]) ∧
      ∀ k < 32, v.getLsbD k = or ((s.reg ⟨o.side, o.src1⟩).getLsbD k) ((s.reg ⟨cross o.side o.x, o.src2⟩).getLsbD k))
        ∧
  (∀ (o : Bin Cst5 Reg Reg) (s : State), s.holds o.cond = true → ∃ v,
    exec (.orLC o) s = .next (queue s [lands o.side o.dst 0 v]) ∧
      ∀ k < 32, v.getLsbD k = or ((o.src1.signExtend 32).getLsbD k) ((s.reg ⟨cross o.side o.x, o.src2⟩).getLsbD k)) ∧
  (∀ (o : Bin Reg Reg Reg) (s : State), s.holds o.cond = true → ∃ v,
    exec (.orS o) s = .next (queue s [lands o.side o.dst 0 v]) ∧
      ∀ k < 32, v.getLsbD k = or ((s.reg ⟨o.side, o.src1⟩).getLsbD k) ((s.reg ⟨cross o.side o.x, o.src2⟩).getLsbD k))
        ∧
  (∀ (o : Bin Cst5 Reg Reg) (s : State), s.holds o.cond = true → ∃ v,
    exec (.orSC o) s = .next (queue s [lands o.side o.dst 0 v]) ∧
      ∀ k < 32, v.getLsbD k = or ((o.src1.signExtend 32).getLsbD k) ((s.reg ⟨cross o.side o.x, o.src2⟩).getLsbD k)) ∧
  (∀ (o : Bin Reg Reg Reg) (s : State), s.holds o.cond = true → ∃ v,
    exec (.xorL o) s = .next (queue s [lands o.side o.dst 0 v]) ∧
      ∀ k < 32, v.getLsbD k = xor ((s.reg ⟨o.side, o.src1⟩).getLsbD k) ((s.reg ⟨cross o.side o.x, o.src2⟩).getLsbD
        k)) ∧
  (∀ (o : Bin Cst5 Reg Reg) (s : State), s.holds o.cond = true → ∃ v,
    exec (.xorLC o) s = .next (queue s [lands o.side o.dst 0 v]) ∧
      ∀ k < 32, v.getLsbD k = xor ((o.src1.signExtend 32).getLsbD k) ((s.reg ⟨cross o.side o.x, o.src2⟩).getLsbD k)) ∧
  (∀ (o : Bin Reg Reg Reg) (s : State), s.holds o.cond = true → ∃ v,
    exec (.xorS o) s = .next (queue s [lands o.side o.dst 0 v]) ∧
      ∀ k < 32, v.getLsbD k = xor ((s.reg ⟨o.side, o.src1⟩).getLsbD k) ((s.reg ⟨cross o.side o.x, o.src2⟩).getLsbD
        k)) ∧
  (∀ (o : Bin Cst5 Reg Reg) (s : State), s.holds o.cond = true → ∃ v,
    exec (.xorSC o) s = .next (queue s [lands o.side o.dst 0 v]) ∧
      ∀ k < 32, v.getLsbD k = xor ((o.src1.signExtend 32).getLsbD k) ((s.reg ⟨cross o.side o.x, o.src2⟩).getLsbD k)) ∧
  (∀ (o : Bin Reg Reg Reg) (s : State), s.holds o.cond = true →
    exec (.shl o) s = .next (queue s [lands o.side o.dst 0 (word ((s.reg ⟨cross o.side o.x, o.src2⟩).toInt * 2 ^
      (count (s.reg ⟨o.side, o.src1⟩))))])) ∧
  (∀ (o : BinN Reg Pair Pair) (s : State), s.holds o.cond = true →
    exec (.shlLong o) s = .next (queue s (landsLong o.side o.dst (slong s o.side o.src2 * 2 ^ (count (s.reg ⟨o.side,
      o.src1⟩)))))) ∧
  (∀ (o : Bin Reg Reg Pair) (s : State), s.holds o.cond = true →
    exec (.shlWide o) s = .next (queue s (landsLong o.side o.dst (((s.reg ⟨cross o.side o.x, o.src2⟩).toNat : Int) *
      2 ^ (count (s.reg ⟨o.side, o.src1⟩)))))) ∧
  (∀ (o : Bin Cst5 Reg Reg) (s : State), s.holds o.cond = true →
    exec (.shlC o) s = .next (queue s [lands o.side o.dst 0 (word ((s.reg ⟨cross o.side o.x, o.src2⟩).toInt * 2 ^
      o.src1.toNat))])) ∧
  (∀ (o : BinN Cst5 Pair Pair) (s : State), s.holds o.cond = true →
    exec (.shlLongC o) s = .next (queue s (landsLong o.side o.dst (slong s o.side o.src2 * 2 ^ o.src1.toNat)))) ∧
  (∀ (o : Bin Cst5 Reg Pair) (s : State), s.holds o.cond = true →
    exec (.shlWideC o) s = .next (queue s (landsLong o.side o.dst (((s.reg ⟨cross o.side o.x, o.src2⟩).toNat : Int) *
      2 ^ o.src1.toNat)))) ∧
  (∀ (o : Bin Reg Reg Reg) (s : State), s.holds o.cond = true →
    exec (.shr o) s = .next (queue s [lands o.side o.dst 0 (word ((s.reg ⟨cross o.side o.x, o.src2⟩).toInt / 2 ^
      (count (s.reg ⟨o.side, o.src1⟩))))])) ∧
  (∀ (o : BinN Reg Pair Pair) (s : State), s.holds o.cond = true →
    exec (.shrLong o) s = .next (queue s (landsLong o.side o.dst (slong s o.side o.src2 / 2 ^ (count (s.reg ⟨o.side,
      o.src1⟩)))))) ∧
  (∀ (o : Bin Cst5 Reg Reg) (s : State), s.holds o.cond = true →
    exec (.shrC o) s = .next (queue s [lands o.side o.dst 0 (word ((s.reg ⟨cross o.side o.x, o.src2⟩).toInt / 2 ^
      o.src1.toNat))])) ∧
  (∀ (o : BinN Cst5 Pair Pair) (s : State), s.holds o.cond = true →
    exec (.shrLongC o) s = .next (queue s (landsLong o.side o.dst (slong s o.side o.src2 / 2 ^ o.src1.toNat)))) ∧
  (∀ (o : Bin Reg Reg Reg) (s : State), s.holds o.cond = true →
    exec (.shru o) s = .next (queue s [lands o.side o.dst 0 (word (((s.reg ⟨cross o.side o.x, o.src2⟩).toNat : Int) /
      2 ^ (count (s.reg ⟨o.side, o.src1⟩))))])) ∧
  (∀ (o : BinN Reg Pair Pair) (s : State), s.holds o.cond = true →
    exec (.shruLong o) s = .next (queue s (landsLong o.side o.dst ((ulong s o.side o.src2 : Int) / 2 ^ (count (s.reg
      ⟨o.side, o.src1⟩)))))) ∧
  (∀ (o : Bin Cst5 Reg Reg) (s : State), s.holds o.cond = true →
    exec (.shruC o) s = .next (queue s [lands o.side o.dst 0 (word (((s.reg ⟨cross o.side o.x, o.src2⟩).toNat : Int)
      / 2 ^ o.src1.toNat))])) ∧
  (∀ (o : BinN Cst5 Pair Pair) (s : State), s.holds o.cond = true →
    exec (.shruLongC o) s = .next (queue s (landsLong o.side o.dst ((ulong s o.side o.src2 : Int) / 2 ^
      o.src1.toNat))))

/-- CLR and SET change exactly the bits of the field, EXT and EXTU shift left and then right; LMBD and NORM count
leading bits. Rules: R269, R270, R271, R272, R273, R274. -/
def Obligations.BitFieldsAndCounts : Prop :=
  (∀ (o : FieldOp) (s : State), s.holds o.cond = true → o.csta.toNat ≤ o.cstb.toNat → ∃ v,
    exec (.clrConst o) s = .next (queue s [lands o.side o.dst 0 v]) ∧
      ∀ k < 32, v.getLsbD k = if o.csta.toNat ≤ k ∧ k ≤ o.cstb.toNat then false else (s.reg ⟨o.side, o.src2⟩).getLsbD
        k) ∧
  (∀ (o : Bin Reg Reg Reg) (s : State), s.holds o.cond = true → (s.reg ⟨o.side, o.src1⟩).toNat < 1024 →
    ((s.reg ⟨o.side, o.src1⟩).toNat / 32) ≤ ((s.reg ⟨o.side, o.src1⟩).toNat % 32) → ∃ v,
    exec (.clrReg o) s = .next (queue s [lands o.side o.dst 0 v]) ∧
      ∀ k < 32, v.getLsbD k = if ((s.reg ⟨o.side, o.src1⟩).toNat / 32) ≤ k ∧
        k ≤ ((s.reg ⟨o.side, o.src1⟩).toNat % 32) then false else (s.reg ⟨cross o.side o.x, o.src2⟩).getLsbD k) ∧
  (∀ (o : FieldOp) (s : State), s.holds o.cond = true → o.csta.toNat ≤ o.cstb.toNat → ∃ v,
    exec (.setConst o) s = .next (queue s [lands o.side o.dst 0 v]) ∧
      ∀ k < 32, v.getLsbD k = if o.csta.toNat ≤ k ∧ k ≤ o.cstb.toNat then true else (s.reg ⟨o.side, o.src2⟩).getLsbD
        k) ∧
  (∀ (o : Bin Reg Reg Reg) (s : State), s.holds o.cond = true → (s.reg ⟨o.side, o.src1⟩).toNat < 1024 →
    ((s.reg ⟨o.side, o.src1⟩).toNat / 32) ≤ ((s.reg ⟨o.side, o.src1⟩).toNat % 32) → ∃ v,
    exec (.setReg o) s = .next (queue s [lands o.side o.dst 0 v]) ∧
      ∀ k < 32, v.getLsbD k = if ((s.reg ⟨o.side, o.src1⟩).toNat / 32) ≤ k ∧
        k ≤ ((s.reg ⟨o.side, o.src1⟩).toNat % 32) then true else (s.reg ⟨cross o.side o.x, o.src2⟩).getLsbD k) ∧
  (∀ (o : FieldOp) (s : State), s.holds o.cond = true →
    exec (.extuConst o) s = .next (queue s [lands o.side o.dst 0 (word (((s.reg ⟨o.side, o.src2⟩).toNat * 2 ^
      o.csta.toNat % 2 ^ 32 / 2 ^ o.cstb.toNat : Nat)))])) ∧
  (∀ (o : Bin Reg Reg Reg) (s : State), s.holds o.cond = true → (s.reg ⟨o.side, o.src1⟩).toNat < 1024 →
    ((s.reg ⟨o.side, o.src1⟩).toNat / 32) ≤ ((s.reg ⟨o.side, o.src1⟩).toNat % 32) →
    exec (.extuReg o) s = .next
      (queue s [lands o.side o.dst 0 (word ((s.reg ⟨cross o.side o.x, o.src2⟩).toNat * 2 ^ ((s.reg ⟨o.side,
        o.src1⟩).toNat / 32) % 2 ^ 32 / 2 ^ ((s.reg ⟨o.side, o.src1⟩).toNat % 32) : Nat))])) ∧
  (∀ (o : FieldOp) (s : State), s.holds o.cond = true →
    exec (.extConst o) s = .next (queue s [lands o.side o.dst 0 (word (Int.bmod ((s.reg ⟨o.side, o.src2⟩).toInt * 2 ^
      o.csta.toNat) (2 ^ 32) / 2 ^ o.cstb.toNat))])) ∧
  (∀ (o : Bin Reg Reg Reg) (s : State), s.holds o.cond = true → (s.reg ⟨o.side, o.src1⟩).toNat < 1024 →
    ((s.reg ⟨o.side, o.src1⟩).toNat / 32) ≤ ((s.reg ⟨o.side, o.src1⟩).toNat % 32) →
    exec (.extReg o) s = .next
      (queue s [lands o.side o.dst 0 (word (Int.bmod ((s.reg ⟨cross o.side o.x, o.src2⟩).toInt * 2 ^ ((s.reg ⟨o.side,
        o.src1⟩).toNat / 32)) (2 ^ 32) / 2 ^ ((s.reg ⟨o.side, o.src1⟩).toNat % 32)))])) ∧
  (∀ (o : Bin Reg Reg Reg) (s : State), s.holds o.cond = true → ∃ m : Nat, m ≤ 32 ∧
    exec (.lmbd o) s = .next (queue s [lands o.side o.dst 0 (word m)]) ∧
      (∀ k < m, (s.reg ⟨cross o.side o.x, o.src2⟩).getLsbD (31 - k) = !(s.reg ⟨o.side, o.src1⟩).getLsbD 0) ∧
        (m < 32 → (s.reg ⟨cross o.side o.x, o.src2⟩).getLsbD (31 - m) = (s.reg ⟨o.side, o.src1⟩).getLsbD 0)) ∧
  (∀ (o : Bin Cst5 Reg Reg) (s : State), s.holds o.cond = true → ∃ m : Nat, m ≤ 32 ∧
    exec (.lmbdC o) s = .next (queue s [lands o.side o.dst 0 (word m)]) ∧
      (∀ k < m, (s.reg ⟨cross o.side o.x, o.src2⟩).getLsbD (31 - k) = !o.src1.getLsbD 0) ∧ (m < 32 →
        (s.reg ⟨cross o.side o.x, o.src2⟩).getLsbD (31 - m) = o.src1.getLsbD 0)) ∧
  (∀ (o : Un Reg Reg) (s : State), s.holds o.cond = true → ∃ m : Nat, m ≤ 31 ∧
    exec (.norm o) s = .next (queue s [lands o.side o.dst 0 (word m)]) ∧
      (∀ k < m, (s.reg ⟨cross o.side o.x, o.src2⟩).getLsbD (30 - k) = (s.reg ⟨cross o.side o.x, o.src2⟩).getLsbD 31)
        ∧ (m < 31 → (s.reg ⟨cross o.side o.x, o.src2⟩).getLsbD (30 - m) =
        !(s.reg ⟨cross o.side o.x, o.src2⟩).getLsbD 31)) ∧
  (∀ (o : UnN Pair Reg) (s : State), s.holds o.cond = true → ∃ m : Nat, m ≤ 39 ∧
    exec (.normLong o) s = .next (queue s [lands o.side o.dst 0 (word m)]) ∧
      (∀ k < m, longBit s o.side o.src2 (38 - k) = longBit s o.side o.src2 39) ∧
      (m < 39 → longBit s o.side o.src2 (38 - m) = !longBit s o.side o.src2 39))

/-- CMPEQ, CMPGT, CMPGTU, CMPLT and CMPLTU write 1 when the relation holds of the signed or unsigned values, else 0.
Rules: R290, R291, R292, R293, R294, R295. -/
def Obligations.IntegerComparisons : Prop :=
  (∀ (o : Bin Reg Reg Reg) (s : State), s.holds o.cond = true →
    exec (.cmpeq o) s = .next (queue s [lands o.side o.dst 0 (if (s.reg ⟨o.side, o.src1⟩).toInt =
      (s.reg ⟨cross o.side o.x, o.src2⟩).toInt then 1#32 else 0#32)])) ∧
  (∀ (o : Bin Cst5 Reg Reg) (s : State), s.holds o.cond = true →
    exec (.cmpeqC o) s = .next (queue s [lands o.side o.dst 0 (if o.src1.toInt =
      (s.reg ⟨cross o.side o.x, o.src2⟩).toInt then 1#32 else 0#32)])) ∧
  (∀ (o : Bin Reg Pair Reg) (s : State), s.holds o.cond = true →
    exec (.cmpeqLong o) s = .next (queue s [lands o.side o.dst 0 (if (s.reg ⟨cross o.side o.x, o.src1⟩).toInt =
      slong s o.side o.src2 then 1#32 else 0#32)])) ∧
  (∀ (o : BinN Cst5 Pair Reg) (s : State), s.holds o.cond = true →
    exec (.cmpeqLongC o) s = .next (queue s [lands o.side o.dst 0 (if o.src1.toInt =
      slong s o.side o.src2 then 1#32 else 0#32)])) ∧
  (∀ (o : Bin Reg Reg Reg) (s : State), s.holds o.cond = true →
    exec (.cmpgt o) s = .next (queue s [lands o.side o.dst 0 (if (s.reg ⟨o.side, o.src1⟩).toInt > (s.reg ⟨cross
      o.side o.x, o.src2⟩).toInt then 1#32 else 0#32)])) ∧
  (∀ (o : Bin Cst5 Reg Reg) (s : State), s.holds o.cond = true →
    exec (.cmpgtC o) s = .next (queue s [lands o.side o.dst 0 (if o.src1.toInt > (s.reg ⟨cross o.side o.x,
      o.src2⟩).toInt then 1#32 else 0#32)])) ∧
  (∀ (o : Bin Reg Pair Reg) (s : State), s.holds o.cond = true →
    exec (.cmpgtLong o) s = .next (queue s [lands o.side o.dst 0 (if (s.reg ⟨cross o.side o.x, o.src1⟩).toInt > slong
      s o.side o.src2 then 1#32 else 0#32)])) ∧
  (∀ (o : BinN Cst5 Pair Reg) (s : State), s.holds o.cond = true →
    exec (.cmpgtLongC o) s = .next (queue s [lands o.side o.dst 0 (if o.src1.toInt > slong s o.side o.src2 then 1#32
      else 0#32)])) ∧
  (∀ (o : Bin Reg Reg Reg) (s : State), s.holds o.cond = true →
    exec (.cmplt o) s = .next (queue s [lands o.side o.dst 0 (if (s.reg ⟨o.side, o.src1⟩).toInt < (s.reg ⟨cross
      o.side o.x, o.src2⟩).toInt then 1#32 else 0#32)])) ∧
  (∀ (o : Bin Cst5 Reg Reg) (s : State), s.holds o.cond = true →
    exec (.cmpltC o) s = .next (queue s [lands o.side o.dst 0 (if o.src1.toInt < (s.reg ⟨cross o.side o.x,
      o.src2⟩).toInt then 1#32 else 0#32)])) ∧
  (∀ (o : Bin Reg Pair Reg) (s : State), s.holds o.cond = true →
    exec (.cmpltLong o) s = .next (queue s [lands o.side o.dst 0 (if (s.reg ⟨cross o.side o.x, o.src1⟩).toInt < slong
      s o.side o.src2 then 1#32 else 0#32)])) ∧
  (∀ (o : BinN Cst5 Pair Reg) (s : State), s.holds o.cond = true →
    exec (.cmpltLongC o) s = .next (queue s [lands o.side o.dst 0 (if o.src1.toInt < slong s o.side o.src2 then 1#32
      else 0#32)])) ∧
  (∀ (o : Bin Reg Reg Reg) (s : State), s.holds o.cond = true →
    exec (.cmpgtu o) s = .next (queue s [lands o.side o.dst 0 (if ((s.reg ⟨o.side, o.src1⟩).toNat : Int) > ((s.reg
      ⟨cross o.side o.x, o.src2⟩).toNat : Int) then 1#32 else 0#32)])) ∧
  (∀ (o : Bin Ucst4 Reg Reg) (s : State), s.holds o.cond = true →
    exec (.cmpgtuC o) s = .next (queue s [lands o.side o.dst 0 (if (o.src1.toNat : Int) > ((s.reg ⟨cross o.side o.x,
      o.src2⟩).toNat : Int) then 1#32 else 0#32)])) ∧
  (∀ (o : Bin Reg Pair Reg) (s : State), s.holds o.cond = true →
    exec (.cmpgtuLong o) s = .next (queue s [lands o.side o.dst 0 (if ((s.reg ⟨cross o.side o.x, o.src1⟩).toNat :
      Int) > (ulong s o.side o.src2 : Int) then 1#32 else 0#32)])) ∧
  (∀ (o : BinN Ucst4 Pair Reg) (s : State), s.holds o.cond = true →
    exec (.cmpgtuLongC o) s = .next (queue s [lands o.side o.dst 0 (if (o.src1.toNat : Int) > (ulong s o.side o.src2
      : Int) then 1#32 else 0#32)])) ∧
  (∀ (o : Bin Reg Reg Reg) (s : State), s.holds o.cond = true →
    exec (.cmpltu o) s = .next (queue s [lands o.side o.dst 0 (if ((s.reg ⟨o.side, o.src1⟩).toNat : Int) < ((s.reg
      ⟨cross o.side o.x, o.src2⟩).toNat : Int) then 1#32 else 0#32)])) ∧
  (∀ (o : Bin Ucst4 Reg Reg) (s : State), s.holds o.cond = true →
    exec (.cmpltuC o) s = .next (queue s [lands o.side o.dst 0 (if (o.src1.toNat : Int) < ((s.reg ⟨cross o.side o.x,
      o.src2⟩).toNat : Int) then 1#32 else 0#32)])) ∧
  (∀ (o : Bin Reg Pair Reg) (s : State), s.holds o.cond = true →
    exec (.cmpltuLong o) s = .next (queue s [lands o.side o.dst 0 (if ((s.reg ⟨cross o.side o.x, o.src1⟩).toNat :
      Int) < (ulong s o.side o.src2 : Int) then 1#32 else 0#32)])) ∧
  (∀ (o : BinN Ucst4 Pair Reg) (s : State), s.holds o.cond = true →
    exec (.cmpltuLongC o) s = .next (queue s [lands o.side o.dst 0 (if (o.src1.toNat : Int) < (ulong s o.side o.src2
      : Int) then 1#32 else 0#32)]))

/-- The 16 by 16-bit multiplies write the exact product of the named halves, with one delay slot. Rules: R320, R321,
R322, R324, R325, R329, R330, R331, R332, R333, R335, R336. -/
def Obligations.HalfwordProducts : Prop :=
  (∀ (o : Bin Reg Reg Reg) (s : State), s.holds o.cond = true →
    exec (.mpy o) s = .next (queue s [lands o.side o.dst 1 (word (lowS (s.reg ⟨o.side, o.src1⟩) * lowS (s.reg ⟨cross
      o.side o.x, o.src2⟩)))])) ∧
  (∀ (o : Bin Reg Reg Reg) (s : State), s.holds o.cond = true →
    exec (.mpyu o) s = .next (queue s [lands o.side o.dst 1 (word (lowU (s.reg ⟨o.side, o.src1⟩) * lowU (s.reg ⟨cross
      o.side o.x, o.src2⟩)))])) ∧
  (∀ (o : Bin Reg Reg Reg) (s : State), s.holds o.cond = true →
    exec (.mpyus o) s = .next (queue s [lands o.side o.dst 1 (word (lowU (s.reg ⟨o.side, o.src1⟩) * lowS (s.reg
      ⟨cross o.side o.x, o.src2⟩)))])) ∧
  (∀ (o : Bin Reg Reg Reg) (s : State), s.holds o.cond = true →
    exec (.mpysu o) s = .next (queue s [lands o.side o.dst 1 (word (lowS (s.reg ⟨o.side, o.src1⟩) * lowU (s.reg
      ⟨cross o.side o.x, o.src2⟩)))])) ∧
  (∀ (o : Bin Reg Reg Reg) (s : State), s.holds o.cond = true →
    exec (.mpyh o) s = .next (queue s [lands o.side o.dst 1 (word (highS (s.reg ⟨o.side, o.src1⟩) * highS (s.reg
      ⟨cross o.side o.x, o.src2⟩)))])) ∧
  (∀ (o : Bin Reg Reg Reg) (s : State), s.holds o.cond = true →
    exec (.mpyhu o) s = .next (queue s [lands o.side o.dst 1 (word (highU (s.reg ⟨o.side, o.src1⟩) * highU (s.reg
      ⟨cross o.side o.x, o.src2⟩)))])) ∧
  (∀ (o : Bin Reg Reg Reg) (s : State), s.holds o.cond = true →
    exec (.mpyhus o) s = .next (queue s [lands o.side o.dst 1 (word (highU (s.reg ⟨o.side, o.src1⟩) * highS (s.reg
      ⟨cross o.side o.x, o.src2⟩)))])) ∧
  (∀ (o : Bin Reg Reg Reg) (s : State), s.holds o.cond = true →
    exec (.mpyhsu o) s = .next (queue s [lands o.side o.dst 1 (word (highS (s.reg ⟨o.side, o.src1⟩) * highU (s.reg
      ⟨cross o.side o.x, o.src2⟩)))])) ∧
  (∀ (o : Bin Reg Reg Reg) (s : State), s.holds o.cond = true →
    exec (.mpyhl o) s = .next (queue s [lands o.side o.dst 1 (word (highS (s.reg ⟨o.side, o.src1⟩) * lowS (s.reg
      ⟨cross o.side o.x, o.src2⟩)))])) ∧
  (∀ (o : Bin Reg Reg Reg) (s : State), s.holds o.cond = true →
    exec (.mpyhlu o) s = .next (queue s [lands o.side o.dst 1 (word (highU (s.reg ⟨o.side, o.src1⟩) * lowU (s.reg
      ⟨cross o.side o.x, o.src2⟩)))])) ∧
  (∀ (o : Bin Reg Reg Reg) (s : State), s.holds o.cond = true →
    exec (.mpyhuls o) s = .next (queue s [lands o.side o.dst 1 (word (highU (s.reg ⟨o.side, o.src1⟩) * lowS (s.reg
      ⟨cross o.side o.x, o.src2⟩)))])) ∧
  (∀ (o : Bin Reg Reg Reg) (s : State), s.holds o.cond = true →
    exec (.mpyhslu o) s = .next (queue s [lands o.side o.dst 1 (word (highS (s.reg ⟨o.side, o.src1⟩) * lowU (s.reg
      ⟨cross o.side o.x, o.src2⟩)))])) ∧
  (∀ (o : Bin Reg Reg Reg) (s : State), s.holds o.cond = true →
    exec (.mpylh o) s = .next (queue s [lands o.side o.dst 1 (word (lowS (s.reg ⟨o.side, o.src1⟩) * highS (s.reg
      ⟨cross o.side o.x, o.src2⟩)))])) ∧
  (∀ (o : Bin Reg Reg Reg) (s : State), s.holds o.cond = true →
    exec (.mpylhu o) s = .next (queue s [lands o.side o.dst 1 (word (lowU (s.reg ⟨o.side, o.src1⟩) * highU (s.reg
      ⟨cross o.side o.x, o.src2⟩)))])) ∧
  (∀ (o : Bin Reg Reg Reg) (s : State), s.holds o.cond = true →
    exec (.mpyluhs o) s = .next (queue s [lands o.side o.dst 1 (word (lowU (s.reg ⟨o.side, o.src1⟩) * highS (s.reg
      ⟨cross o.side o.x, o.src2⟩)))])) ∧
  (∀ (o : Bin Reg Reg Reg) (s : State), s.holds o.cond = true →
    exec (.mpylshu o) s = .next (queue s [lands o.side o.dst 1 (word (lowS (s.reg ⟨o.side, o.src1⟩) * highU (s.reg
      ⟨cross o.side o.x, o.src2⟩)))])) ∧
  (∀ (o : Bin Cst5 Reg Reg) (s : State), s.holds o.cond = true →
    exec (.mpyC o) s = .next (queue s [lands o.side o.dst 1 (word (o.src1.toInt * lowS (s.reg ⟨cross o.side o.x,
      o.src2⟩)))])) ∧
  (∀ (o : Bin Cst5 Reg Reg) (s : State), s.holds o.cond = true →
    exec (.mpysuC o) s = .next (queue s [lands o.side o.dst 1 (word (o.src1.toInt * lowU (s.reg ⟨cross o.side o.x,
      o.src2⟩)))]))

/-- MPYI and MPYID: the low 32 or all 64 bits of the product, landing in cycles i+8 and i+9. Rules: R341, R342, R173,
R177. -/
def Obligations.WordProducts : Prop :=
  (∀ (o : Bin Reg Reg Reg) (s : State), s.holds o.cond = true →
    exec (.mpyi o) s = .next (queue s [⟨⟨o.side, o.dst⟩, word ((s.reg ⟨o.side, o.src1⟩).toInt * (s.reg ⟨cross o.side
      o.x, o.src2⟩).toInt), 8, [⟨o.side, o.src1⟩, ⟨cross o.side o.x, o.src2⟩], 3⟩])) ∧
  (∀ (o : Bin Cst5 Reg Reg) (s : State), s.holds o.cond = true →
    exec (.mpyiC o) s = .next (queue s [⟨⟨o.side, o.dst⟩, word (o.src1.toInt * (s.reg ⟨cross o.side o.x,
      o.src2⟩).toInt), 8, [⟨cross o.side o.x, o.src2⟩], 3⟩])) ∧
  (∀ (o : Bin Reg Reg Pair) (s : State), s.holds o.cond = true →
    exec (.mpyid o) s = .next (queue s
      [⟨⟨o.side, Pair.even o.dst⟩, word ((s.reg ⟨o.side, o.src1⟩).toInt * (s.reg ⟨cross o.side o.x, o.src2⟩).toInt),
        8, [⟨o.side, o.src1⟩, ⟨cross o.side o.x, o.src2⟩], 3⟩,
       ⟨⟨o.side, Pair.odd o.dst⟩, word ((s.reg ⟨o.side, o.src1⟩).toInt * (s.reg ⟨cross o.side o.x, o.src2⟩).toInt / 2
         ^ 32), 9, [⟨o.side, o.src1⟩, ⟨cross o.side o.x, o.src2⟩], 3⟩])) ∧
  (∀ (o : Bin Cst5 Reg Pair) (s : State), s.holds o.cond = true →
    exec (.mpyidC o) s = .next (queue s
      [⟨⟨o.side, Pair.even o.dst⟩, word (o.src1.toInt * (s.reg ⟨cross o.side o.x, o.src2⟩).toInt), 8, [⟨cross o.side
        o.x, o.src2⟩], 3⟩,
       ⟨⟨o.side, Pair.odd o.dst⟩, word (o.src1.toInt * (s.reg ⟨cross o.side o.x, o.src2⟩).toInt / 2 ^ 32), 9, [⟨cross
         o.side o.x, o.src2⟩], 3⟩]))

/-- MVK and MVKL sign-extend 16 bits, MVKH and MVKLH replace the upper half; MV, NEG, NOT and ZERO do what they
assemble to does. Rules: R165, R240, R241, R264, R300, R306, R307, R308. -/
def Obligations.MovesAndPseudoInstructions : Prop :=
  (∀ (o : Const16) (s : State), s.holds o.cond = true →
    exec (.mvk o) s = .next (queue s [lands o.side o.dst 0 (word (o.cst.toInt))])) ∧
  (∀ (o : Const32) (s : State), s.holds o.cond = true →
    exec (.mvkl o) s = .next (queue s [lands o.side o.dst 0 (word (Int.bmod o.cst.toInt 65536))])) ∧
  (∀ (o : Const16) (s : State), s.holds o.cond = true →
    exec (.mvkh o) s = .next (queue s [lands o.side o.dst 0 (word ((o.cst.toNat * 65536 + (s.reg ⟨o.side,
      o.dst⟩).toNat % 65536 : Nat)))])) ∧
  (∀ (o : Const32) (s : State), s.holds o.cond = true →
    exec (.mvklh o) s = .next (queue s [lands o.side o.dst 0 (word ((o.cst.toNat % 65536 * 65536 + (s.reg ⟨o.side,
      o.dst⟩).toNat % 65536 : Nat)))])) ∧
  (∀ (o : Un Reg Reg) (s : State), s.holds o.cond = true →
    exec (.mv (.l o)) s = .next (queue s [lands o.side o.dst 0 ((s.reg ⟨cross o.side o.x, o.src2⟩))])) ∧
  (∀ (o : Un Reg Reg) (s : State), s.holds o.cond = true →
    exec (.mv (.s o)) s = .next (queue s [lands o.side o.dst 0 ((s.reg ⟨cross o.side o.x, o.src2⟩))])) ∧
  (∀ (o : UnN Reg Reg) (s : State), s.holds o.cond = true →
    exec (.mv (.d o)) s = .next (queue s [lands o.side o.dst 0 ((s.reg ⟨o.side, o.src2⟩))])) ∧
  (∀ (o : UnN Pair Pair) (s : State), s.holds o.cond = true →
    exec (.mv (.lLong o)) s = .next (queue s (landsLong o.side o.dst (slong s o.side o.src2)))) ∧
  (∀ (o : Un Reg Reg) (s : State), s.holds o.cond = true →
    exec (.neg (.l o)) s = .next (queue s [lands o.side o.dst 0 (word (-(s.reg ⟨cross o.side o.x, o.src2⟩).toInt))]))
      ∧
  (∀ (o : Un Reg Reg) (s : State), s.holds o.cond = true →
    exec (.neg (.s o)) s = .next (queue s [lands o.side o.dst 0 (word (-(s.reg ⟨cross o.side o.x, o.src2⟩).toInt))]))
      ∧
  (∀ (o : UnN Pair Pair) (s : State), s.holds o.cond = true →
    exec (.neg (.lLong o)) s = .next (queue s (landsLong o.side o.dst (-(slong s o.side o.src2))))) ∧
  (∀ (o : Un Reg Reg) (s : State), s.holds o.cond = true →
    exec (.not (.l o)) s = .next (queue s [lands o.side o.dst 0 (~~~(s.reg ⟨cross o.side o.x, o.src2⟩))])) ∧
  (∀ (o : Un Reg Reg) (s : State), s.holds o.cond = true →
    exec (.not (.s o)) s = .next (queue s [lands o.side o.dst 0 (~~~(s.reg ⟨cross o.side o.x, o.src2⟩))])) ∧
  (∀ (o : Dst Reg) (s : State), s.holds o.cond = true →
    exec (.zero (.l o)) s = .next (queue s [lands o.side o.dst 0 (0#32)])) ∧
  (∀ (o : Dst Reg) (s : State), s.holds o.cond = true →
    exec (.zero (.d o)) s = .next (queue s [lands o.side o.dst 0 (0#32)])) ∧
  (∀ (o : Dst Reg) (s : State), s.holds o.cond = true →
    exec (.zero (.sMvk o)) s = .next (queue s [lands o.side o.dst 0 (0#32)])) ∧
  (∀ (o : Dst Reg) (s : State), s.holds o.cond = true →
    exec (.zero (.sSub o)) s = .next (queue s [lands o.side o.dst 0 (0#32)])) ∧
  (∀ (o : Dst Pair) (s : State), s.holds o.cond = true →
    exec (.zero (.lLong o)) s = .next (queue s (landsLong o.side o.dst (0)))) ∧
  (∀ (i : Instr) (s : State), exec i.expand s = exec i s)

/-- The loads: address by mode and AMR, base update in this cycle, the bytes in the device's order at i+4. That LDDW
uses AMR is the spec's inference (R365, 90_conflicts.md C8), which the model follows (log entry 40). In a cycle in
which another bus master writes a byte of the access the value is free instead (log entry 36). Rules: R363, R365,
R366, R368, R370, R371, R372, R373, R374, R375, R376, R97. -/
def Obligations.LoadResults : Prop :=
  (∀ (o : Mem Reg) (s : State), s.holds o.cond = true → addressMode s o.unit o.base ≠ 3 →
    Accessible s (dataAddress s o 0) 1 →
    exec (.ldb o) s = .next (queue s (baseUpdate s o 0 ++
      [lands o.side o.data 4 (word (Int.bmod (bytesAt s (dataAddress s o 0) 1) (2 ^ 8)))]))) ∧
  (∀ (o : MemK) (s : State), s.holds o.cond = true → Accessible s (farAddress s o 0) 1 →
    exec (.ldbK o) s = .next (queue s [lands o.side o.data 4 (word (Int.bmod (bytesAt s (farAddress s o 0) 1) (2 ^
      8)))])) ∧
  (∀ (o : Mem Reg) (s : State), s.holds o.cond = true → addressMode s o.unit o.base ≠ 3 →
    Accessible s (dataAddress s o 0) 1 →
    exec (.ldbu o) s = .next (queue s (baseUpdate s o 0 ++
      [lands o.side o.data 4 (word (bytesAt s (dataAddress s o 0) 1))]))) ∧
  (∀ (o : MemK) (s : State), s.holds o.cond = true → Accessible s (farAddress s o 0) 1 →
    exec (.ldbuK o) s = .next (queue s [lands o.side o.data 4 (word (bytesAt s (farAddress s o 0) 1))])) ∧
  (∀ (o : Mem Reg) (s : State), s.holds o.cond = true → addressMode s o.unit o.base ≠ 3 →
    Accessible s (dataAddress s o 1) 2 →
    exec (.ldh o) s = .next (queue s (baseUpdate s o 1 ++
      [lands o.side o.data 4 (word (Int.bmod (bytesAt s (dataAddress s o 1) 2) (2 ^ 16)))]))) ∧
  (∀ (o : MemK) (s : State), s.holds o.cond = true → Accessible s (farAddress s o 1) 2 →
    exec (.ldhK o) s = .next (queue s [lands o.side o.data 4 (word (Int.bmod (bytesAt s (farAddress s o 1) 2) (2 ^
      16)))])) ∧
  (∀ (o : Mem Reg) (s : State), s.holds o.cond = true → addressMode s o.unit o.base ≠ 3 →
    Accessible s (dataAddress s o 1) 2 →
    exec (.ldhu o) s = .next (queue s (baseUpdate s o 1 ++
      [lands o.side o.data 4 (word (bytesAt s (dataAddress s o 1) 2))]))) ∧
  (∀ (o : MemK) (s : State), s.holds o.cond = true → Accessible s (farAddress s o 1) 2 →
    exec (.ldhuK o) s = .next (queue s [lands o.side o.data 4 (word (bytesAt s (farAddress s o 1) 2))])) ∧
  (∀ (o : Mem Reg) (s : State), s.holds o.cond = true → addressMode s o.unit o.base ≠ 3 →
    Accessible s (dataAddress s o 2) 4 →
    exec (.ldw o) s = .next (queue s (baseUpdate s o 2 ++
      [lands o.side o.data 4 (word (bytesAt s (dataAddress s o 2) 4))]))) ∧
  (∀ (o : MemK) (s : State), s.holds o.cond = true → Accessible s (farAddress s o 2) 4 →
    exec (.ldwK o) s = .next (queue s [lands o.side o.data 4 (word (bytesAt s (farAddress s o 2) 4))])) ∧
  (∀ (o : Mem Pair) (s : State), s.holds o.cond = true → addressMode s o.unit o.base ≠ 3 →
    Accessible s (dataAddress s o 3) 8 →
    exec (.lddw o) s = .next (queue s (baseUpdate s o 3 ++
      [lands o.side (Pair.even o.data) 4 (word (bytesAt s (dataAddress s o 3) 8)),
       lands o.side (Pair.odd o.data) 4 (word (bytesAt s (dataAddress s o 3) 8 / 2 ^ 32 : Nat))])))

/-- The stores: the low bytes of the register at the effective address, no other byte, and the base update. The order
of the two steps within one cycle is the spec's (R108); a byte that another bus master writes in the same cycle is
outside this statement (log entry 36). Rules: R364, R365, R366, R368, R377, R378, R379, R380, R381, R382, R97. -/
def Obligations.StoreResults : Prop :=
  (∀ (o : Mem Reg) (s : State), s.holds o.cond = true → addressMode s o.unit o.base ≠ 3 →
    Accessible s (dataAddress s o 0) 1 →
    Memory.wf s.mem = true → s.stored = [] → ∃ t, exec (.stb o) s = .next t ∧
      Stored s t (dataAddress s o 0) 1 (s.reg ⟨o.side, o.data⟩) (baseUpdate s o 0)) ∧
  (∀ (o : MemK) (s : State), s.holds o.cond = true → Accessible s (farAddress s o 0) 1 →
    Memory.wf s.mem = true → s.stored = [] → ∃ t, exec (.stbK o) s = .next t ∧
      Stored s t (farAddress s o 0) 1 (s.reg ⟨o.side, o.data⟩) ([])) ∧
  (∀ (o : Mem Reg) (s : State), s.holds o.cond = true → addressMode s o.unit o.base ≠ 3 →
    Accessible s (dataAddress s o 1) 2 →
    Memory.wf s.mem = true → s.stored = [] → ∃ t, exec (.sth o) s = .next t ∧
      Stored s t (dataAddress s o 1) 2 (s.reg ⟨o.side, o.data⟩) (baseUpdate s o 1)) ∧
  (∀ (o : MemK) (s : State), s.holds o.cond = true → Accessible s (farAddress s o 1) 2 →
    Memory.wf s.mem = true → s.stored = [] → ∃ t, exec (.sthK o) s = .next t ∧
      Stored s t (farAddress s o 1) 2 (s.reg ⟨o.side, o.data⟩) ([])) ∧
  (∀ (o : Mem Reg) (s : State), s.holds o.cond = true → addressMode s o.unit o.base ≠ 3 →
    Accessible s (dataAddress s o 2) 4 →
    Memory.wf s.mem = true → s.stored = [] → ∃ t, exec (.stw o) s = .next t ∧
      Stored s t (dataAddress s o 2) 4 (s.reg ⟨o.side, o.data⟩) (baseUpdate s o 2)) ∧
  (∀ (o : MemK) (s : State), s.holds o.cond = true → Accessible s (farAddress s o 2) 4 →
    Memory.wf s.mem = true → s.stored = [] → ∃ t, exec (.stwK o) s = .next t ∧
      Stored s t (farAddress s o 2) 4 (s.reg ⟨o.side, o.data⟩) ([]))

/-- Every load and store completes in every state, at every address, aligned or not, backed by memory or not, in any
AMR mode. That the changed bytes stay in the aligned container is the bound U12 allows (log entry 8). Rules: R101,
R102, R105. -/
def Obligations.AccessesComplete : Prop :=
  (∀ (o : Mem Reg) (s : State), s.holds o.cond = true →
    ∃ t, exec (.ldb o) s = .next t ∧ OnlyWrites s t ∧ (addressMode s o.unit o.base ≠ 3 →
      ∃ v, t.writes = s.writes ++ (baseUpdate s o 0 ++ [lands o.side o.data 4 v]))) ∧
  (∀ (o : MemK) (s : State), s.holds o.cond = true →
    ∃ t, exec (.ldbK o) s = .next t ∧ OnlyWrites s t ∧ (∃ v, t.writes = s.writes ++ [lands o.side o.data 4 v])) ∧
  (∀ (o : Mem Reg) (s : State), s.holds o.cond = true →
    ∃ t, exec (.ldbu o) s = .next t ∧ OnlyWrites s t ∧ (addressMode s o.unit o.base ≠ 3 →
      ∃ v, t.writes = s.writes ++ (baseUpdate s o 0 ++ [lands o.side o.data 4 v]))) ∧
  (∀ (o : MemK) (s : State), s.holds o.cond = true →
    ∃ t, exec (.ldbuK o) s = .next t ∧ OnlyWrites s t ∧ (∃ v, t.writes = s.writes ++ [lands o.side o.data 4 v])) ∧
  (∀ (o : Mem Reg) (s : State), s.holds o.cond = true →
    ∃ t, exec (.ldh o) s = .next t ∧ OnlyWrites s t ∧ (addressMode s o.unit o.base ≠ 3 →
      ∃ v, t.writes = s.writes ++ (baseUpdate s o 1 ++ [lands o.side o.data 4 v]))) ∧
  (∀ (o : MemK) (s : State), s.holds o.cond = true →
    ∃ t, exec (.ldhK o) s = .next t ∧ OnlyWrites s t ∧ (∃ v, t.writes = s.writes ++ [lands o.side o.data 4 v])) ∧
  (∀ (o : Mem Reg) (s : State), s.holds o.cond = true →
    ∃ t, exec (.ldhu o) s = .next t ∧ OnlyWrites s t ∧ (addressMode s o.unit o.base ≠ 3 →
      ∃ v, t.writes = s.writes ++ (baseUpdate s o 1 ++ [lands o.side o.data 4 v]))) ∧
  (∀ (o : MemK) (s : State), s.holds o.cond = true →
    ∃ t, exec (.ldhuK o) s = .next t ∧ OnlyWrites s t ∧ (∃ v, t.writes = s.writes ++ [lands o.side o.data 4 v])) ∧
  (∀ (o : Mem Reg) (s : State), s.holds o.cond = true →
    ∃ t, exec (.ldw o) s = .next t ∧ OnlyWrites s t ∧ (addressMode s o.unit o.base ≠ 3 →
      ∃ v, t.writes = s.writes ++ (baseUpdate s o 2 ++ [lands o.side o.data 4 v]))) ∧
  (∀ (o : MemK) (s : State), s.holds o.cond = true →
    ∃ t, exec (.ldwK o) s = .next t ∧ OnlyWrites s t ∧ (∃ v, t.writes = s.writes ++ [lands o.side o.data 4 v])) ∧
  (∀ (o : Mem Pair) (s : State), s.holds o.cond = true →
    ∃ t, exec (.lddw o) s = .next t ∧ OnlyWrites s t ∧ (addressMode s o.unit o.base ≠ 3 →
      ∃ v u, t.writes = s.writes ++ (baseUpdate s o 3 ++ [lands o.side (Pair.even o.data) 4 v, lands o.side (Pair.odd
      o.data) 4 u]))) ∧
  (∀ (o : Mem Reg) (s : State), s.holds o.cond = true → Memory.wf s.mem = true →
    ∃ t, exec (.stb o) s = .next t ∧ OnlyStores s t ∧ (addressMode s o.unit o.base ≠ 3 →
      t.writes = s.writes ++ baseUpdate s o 0) ∧
      ∀ a, (∀ k < 1, a ≠ containerByte (s.effective o 0) 1 k) → readByte t.mem a = readByte s.mem a) ∧
  (∀ (o : MemK) (s : State), s.holds o.cond = true → Memory.wf s.mem = true →
    ∃ t, exec (.stbK o) s = .next t ∧ OnlyStores s t ∧ (t.writes = s.writes) ∧
      ∀ a, (∀ k < 1, a ≠ containerByte (s.effectiveK o 0) 1 k) → readByte t.mem a = readByte s.mem a) ∧
  (∀ (o : Mem Reg) (s : State), s.holds o.cond = true → Memory.wf s.mem = true →
    ∃ t, exec (.sth o) s = .next t ∧ OnlyStores s t ∧ (addressMode s o.unit o.base ≠ 3 →
      t.writes = s.writes ++ baseUpdate s o 1) ∧
      ∀ a, (∀ k < 2, a ≠ containerByte (s.effective o 1) 2 k) → readByte t.mem a = readByte s.mem a) ∧
  (∀ (o : MemK) (s : State), s.holds o.cond = true → Memory.wf s.mem = true →
    ∃ t, exec (.sthK o) s = .next t ∧ OnlyStores s t ∧ (t.writes = s.writes) ∧
      ∀ a, (∀ k < 2, a ≠ containerByte (s.effectiveK o 1) 2 k) → readByte t.mem a = readByte s.mem a) ∧
  (∀ (o : Mem Reg) (s : State), s.holds o.cond = true → Memory.wf s.mem = true →
    ∃ t, exec (.stw o) s = .next t ∧ OnlyStores s t ∧ (addressMode s o.unit o.base ≠ 3 →
      t.writes = s.writes ++ baseUpdate s o 2) ∧
      ∀ a, (∀ k < 4, a ≠ containerByte (s.effective o 2) 4 k) → readByte t.mem a = readByte s.mem a) ∧
  (∀ (o : MemK) (s : State), s.holds o.cond = true → Memory.wf s.mem = true →
    ∃ t, exec (.stwK o) s = .next t ∧ OnlyStores s t ∧ (t.writes = s.writes) ∧
      ∀ a, (∀ k < 4, a ≠ containerByte (s.effectiveK o 2) 4 k) → readByte t.mem a = readByte s.mem a)

/-- A misaligned access, or one to an address that no memory backs, loads a free value or stores free bytes, and its
base update is kept. The spec says any value (93_implementation_defined.md U12); the counter of free values is the
model's form for it (log entries 7, 8, 9, 36). Rules: R102, R105, R369. -/
def Obligations.UndefinedAccessesAreFree : Prop :=
  (∀ (o : Mem Reg) (s : State), s.holds o.cond = true → addressMode s o.unit o.base ≠ 3 →
    ¬ Accessible s (dataAddress s o 0) 1 →
    exec (.ldb o) s = .next { queue s (baseUpdate s o 0 ++ [lands o.side o.data 4 (Config.freeWord s.free)]) with
      free := s.free + 1 }) ∧
  (∀ (o : MemK) (s : State), s.holds o.cond = true → ¬ Accessible s (farAddress s o 0) 1 →
    exec (.ldbK o) s = .next { queue s ([lands o.side o.data 4 (Config.freeWord s.free)]) with free := s.free + 1 }) ∧
  (∀ (o : Mem Reg) (s : State), s.holds o.cond = true → addressMode s o.unit o.base ≠ 3 →
    ¬ Accessible s (dataAddress s o 0) 1 →
    exec (.ldbu o) s = .next { queue s (baseUpdate s o 0 ++ [lands o.side o.data 4 (Config.freeWord s.free)]) with
      free := s.free + 1 }) ∧
  (∀ (o : MemK) (s : State), s.holds o.cond = true → ¬ Accessible s (farAddress s o 0) 1 →
    exec (.ldbuK o) s = .next { queue s ([lands o.side o.data 4 (Config.freeWord s.free)]) with free := s.free + 1 })
      ∧
  (∀ (o : Mem Reg) (s : State), s.holds o.cond = true → addressMode s o.unit o.base ≠ 3 →
    ¬ Accessible s (dataAddress s o 1) 2 →
    exec (.ldh o) s = .next { queue s (baseUpdate s o 1 ++ [lands o.side o.data 4 (Config.freeWord s.free)]) with
      free := s.free + 1 }) ∧
  (∀ (o : MemK) (s : State), s.holds o.cond = true → ¬ Accessible s (farAddress s o 1) 2 →
    exec (.ldhK o) s = .next { queue s ([lands o.side o.data 4 (Config.freeWord s.free)]) with free := s.free + 1 }) ∧
  (∀ (o : Mem Reg) (s : State), s.holds o.cond = true → addressMode s o.unit o.base ≠ 3 →
    ¬ Accessible s (dataAddress s o 1) 2 →
    exec (.ldhu o) s = .next { queue s (baseUpdate s o 1 ++ [lands o.side o.data 4 (Config.freeWord s.free)]) with
      free := s.free + 1 }) ∧
  (∀ (o : MemK) (s : State), s.holds o.cond = true → ¬ Accessible s (farAddress s o 1) 2 →
    exec (.ldhuK o) s = .next { queue s ([lands o.side o.data 4 (Config.freeWord s.free)]) with free := s.free + 1 })
      ∧
  (∀ (o : Mem Reg) (s : State), s.holds o.cond = true → addressMode s o.unit o.base ≠ 3 →
    ¬ Accessible s (dataAddress s o 2) 4 →
    exec (.ldw o) s = .next { queue s (baseUpdate s o 2 ++ [lands o.side o.data 4 (Config.freeWord s.free)]) with
      free := s.free + 1 }) ∧
  (∀ (o : MemK) (s : State), s.holds o.cond = true → ¬ Accessible s (farAddress s o 2) 4 →
    exec (.ldwK o) s = .next { queue s ([lands o.side o.data 4 (Config.freeWord s.free)]) with free := s.free + 1 }) ∧
  (∀ (o : Mem Pair) (s : State), s.holds o.cond = true → addressMode s o.unit o.base ≠ 3 →
    ¬ Accessible s (dataAddress s o 3) 8 →
    exec (.lddw o) s = .next { queue s (baseUpdate s o 3 ++ [lands o.side (Pair.even o.data) 4 (Config.freeWord
      s.free),
        lands o.side (Pair.odd o.data) 4 (Config.freeWord (s.free + 1))]) with free := s.free + 2 }) ∧
  (∀ (o : Mem Reg) (s : State), s.holds o.cond = true → addressMode s o.unit o.base ≠ 3 →
    ¬ Proper s (dataAddress s o 0) 1 → Memory.wf s.mem = true →
    ∃ t, exec (.stb o) s = .next t ∧ OnlyStores s t ∧ t.writes = s.writes ++ baseUpdate s o 0 ∧
      (∀ k < 1, Drawn s t (readByte t.mem (containerByte (dataAddress s o 0) 1 k))) ∧
      ∀ a, (∀ k < 1, a ≠ containerByte (dataAddress s o 0) 1 k) → readByte t.mem a = readByte s.mem a) ∧
  (∀ (o : MemK) (s : State), s.holds o.cond = true → ¬ Proper s (farAddress s o 0) 1 → Memory.wf s.mem = true →
    ∃ t, exec (.stbK o) s = .next t ∧ OnlyStores s t ∧ t.writes = s.writes ∧
      (∀ k < 1, Drawn s t (readByte t.mem (containerByte (farAddress s o 0) 1 k))) ∧
      ∀ a, (∀ k < 1, a ≠ containerByte (farAddress s o 0) 1 k) → readByte t.mem a = readByte s.mem a) ∧
  (∀ (o : Mem Reg) (s : State), s.holds o.cond = true → addressMode s o.unit o.base ≠ 3 →
    ¬ Proper s (dataAddress s o 1) 2 → Memory.wf s.mem = true →
    ∃ t, exec (.sth o) s = .next t ∧ OnlyStores s t ∧ t.writes = s.writes ++ baseUpdate s o 1 ∧
      (∀ k < 2, Drawn s t (readByte t.mem (containerByte (dataAddress s o 1) 2 k))) ∧
      ∀ a, (∀ k < 2, a ≠ containerByte (dataAddress s o 1) 2 k) → readByte t.mem a = readByte s.mem a) ∧
  (∀ (o : MemK) (s : State), s.holds o.cond = true → ¬ Proper s (farAddress s o 1) 2 → Memory.wf s.mem = true →
    ∃ t, exec (.sthK o) s = .next t ∧ OnlyStores s t ∧ t.writes = s.writes ∧
      (∀ k < 2, Drawn s t (readByte t.mem (containerByte (farAddress s o 1) 2 k))) ∧
      ∀ a, (∀ k < 2, a ≠ containerByte (farAddress s o 1) 2 k) → readByte t.mem a = readByte s.mem a) ∧
  (∀ (o : Mem Reg) (s : State), s.holds o.cond = true → addressMode s o.unit o.base ≠ 3 →
    ¬ Proper s (dataAddress s o 2) 4 → Memory.wf s.mem = true →
    ∃ t, exec (.stw o) s = .next t ∧ OnlyStores s t ∧ t.writes = s.writes ++ baseUpdate s o 2 ∧
      (∀ k < 4, Drawn s t (readByte t.mem (containerByte (dataAddress s o 2) 4 k))) ∧
      ∀ a, (∀ k < 4, a ≠ containerByte (dataAddress s o 2) 4 k) → readByte t.mem a = readByte s.mem a) ∧
  (∀ (o : MemK) (s : State), s.holds o.cond = true → ¬ Proper s (farAddress s o 2) 4 → Memory.wf s.mem = true →
    ∃ t, exec (.stwK o) s = .next t ∧ OnlyStores s t ∧ t.writes = s.writes ∧
      (∀ k < 4, Drawn s t (readByte t.mem (containerByte (farAddress s o 2) 4 k))) ∧
      ∀ a, (∀ k < 4, a ≠ containerByte (farAddress s o 2) 4 k) → readByte t.mem a = readByte s.mem a)

/-- The four branches queue their target for five delay slots; B IRP restores GIE and B NRP sets NMIE at the end of
the cycle. In a packet that spans two fetch packets the displacement counts from the fetch packet of the packet's
first word: the spec's decision D3 (R28, R391), log entry 33. Rules: R390, R391, R392, R393, R394. -/
def Obligations.BranchTargets : Prop :=
  (∀ (o : Disp) (s : State), s.holds o.cond = true →
    exec (.bDisp o) s = .next { s with branches := s.branches ++
      [⟨word (s.pc.toNat / 32 * 32 + 4 * o.scst21.toInt), 5⟩] }) ∧
  (∀ (o : BranchReg) (s : State), s.holds o.cond = true →
    exec (.bReg o) s = .next { s with branches := s.branches ++ [⟨s.reg ⟨cross .b o.x, o.src2⟩, 5⟩] }) ∧
  (∀ (c : Cond) (s : State), s.holds c = true →
    exec (.bIrp c) s = .next { s with branches := s.branches ++ [⟨s.irp, 5⟩], controls := s.controls ++ [.restoreGie]
      }) ∧
  (∀ (c : Cond) (s : State), s.holds c = true →
    exec (.bNrp c) s = .next { s with branches := s.branches ++ [⟨s.nrp, 5⟩], controls := s.controls ++ [.setNmie] })

/-- MVC from a control register gives its fields in their places, reserved bits 0. That PCE1 in a packet spanning two
fetch packets names the one of the packet's first word is the spec's decision D3, log entry 33. Rules: R31, R37, R49,
R52, R57, R59, R60, R64, R305. -/
def Obligations.ControlRegisterReads : Prop :=
  ∀ (o : MvcRead) (s : State) (v : Nat), s.holds o.cond = true → controlValue s o.creg.toNat = some v →
    v < 2 ^ 32 ∧ exec (.mvcRead o) s = .next (queue s [lands .b o.dst 0 (word v)])

/-- MVC to a writable control register queues the source for the end of the cycle; addresses and PWRD values the spec
leaves open. The refusal undefinedControlRegister, the free value and the free power-down mode are the model's choice
for what U6 and U7 leave open (log entries 13, 14). Rules: R31, R32, R40, R305. -/
def Obligations.ControlRegisterWrites : Prop :=
  (∀ (o : MvcRead) (s : State), s.holds o.cond = true → o.creg.toNat ∉ [0, 1, 2, 4, 5, 6, 7, 16, 18, 19, 20] →
    ∃ v, exec (.mvcRead o) s = .next { queue s [lands .b o.dst 0 v] with free := s.free + 1 }) ∧
  (∀ (o : MvcWrite) (s : State), s.holds o.cond = true → o.creg.toNat ∉ [0, 1, 2, 3, 4, 5, 6, 7, 18, 19, 20] →
    exec (.mvcWrite o) s = .refused .undefinedControlRegister) ∧
  (∀ (o : MvcWrite) (s : State), s.holds o.cond = true → o.creg.toNat ∈ [0, 1, 2, 3, 4, 5, 6, 7, 18, 19, 20] →
    (o.creg.toNat = 1 → s.device.pwrdSupported = true →
      (s.reg ⟨cross .b o.x, o.src2⟩).toNat / 2 ^ 10 % 64 ∈ [0x00, 0x09, 0x11, 0x1A, 0x1C]) →
    exec (.mvcWrite o) s =
      .next { s with controls := s.controls ++ [.write o.creg (s.reg ⟨cross .b o.x, o.src2⟩)] }) ∧
  (∀ (o : MvcWrite) (s : State), s.holds o.cond = true → o.creg.toNat = 1 → s.device.pwrdSupported = true →
    (s.reg ⟨cross .b o.x, o.src2⟩).toNat / 2 ^ 10 % 64 ∉ [0x00, 0x09, 0x11, 0x1A, 0x1C] →
    ∃ m, exec (.mvcWrite o) s = .next { s with
      controls := s.controls ++ [.write o.creg (s.reg ⟨cross .b o.x, o.src2⟩), .enterPower m], free := s.free + 1 })

/-- ADDSP, ADDDP, SUBSP and SUBDP on .L and .S, and the reverse subtracts of .S: operands, RMODE, landing cycles and
warning bits. That the warning bits land with the last result word and that RMODE is read in the issue cycle are the
spec's decision D7 (R72), log entry 27; the operand forms of the .S instructions and of the reverse subtracts, whose
encodings the spec does not know, are the model's choice (log entry 31). Rules: R66, R72, R173, R177, R180, R412,
R414, R430, R432. -/
def Obligations.FloatSumTiming : Prop :=
  (∀ (o : Bin Reg Reg Reg) (s : State), s.holds o.cond = true →
    exec (.addspL o) s = .next (fpWord s o.side o.dst 3 .fadcr 0x1FF#11
      (addFp single (mode s.device (half s.fadcr o.side)) (unpack single (s.reg ⟨o.side, o.src1⟩).toNat) (unpack
        single (s.reg ⟨cross o.side o.x, o.src2⟩).toNat)) [] 0)) ∧
  (∀ (o : Bin Reg Reg Reg) (s : State), s.holds o.cond = true →
    exec (.addspS o) s = .next (fpWord s o.side o.dst 3 .fadcr 0x1FF#11
      (addFp single (mode s.device (half s.fadcr o.side)) (unpack single (s.reg ⟨o.side, o.src1⟩).toNat) (unpack
        single (s.reg ⟨cross o.side o.x, o.src2⟩).toNat)) [] 0)) ∧
  (∀ (o : Bin Reg Reg Reg) (s : State), s.holds o.cond = true →
    exec (.subspL o) s = .next (fpWord s o.side o.dst 3 .fadcr 0x1FF#11
      (subFp single (mode s.device (half s.fadcr o.side)) (unpack single (s.reg ⟨o.side, o.src1⟩).toNat) (unpack
        single (s.reg ⟨cross o.side o.x, o.src2⟩).toNat)) [] 0)) ∧
  (∀ (o : Bin Reg Reg Reg) (s : State), s.holds o.cond = true →
    exec (.subspLX o) s = .next (fpWord s o.side o.dst 3 .fadcr 0x1FF#11
      (subFp single (mode s.device (half s.fadcr o.side)) (unpack single (s.reg ⟨cross o.side o.x, o.src1⟩).toNat)
        (unpack single (s.reg ⟨o.side, o.src2⟩).toNat)) [] 0)) ∧
  (∀ (o : Bin Reg Reg Reg) (s : State), s.holds o.cond = true →
    exec (.subspS ⟨o, false⟩) s = .next (fpWord s o.side o.dst 3 .fadcr 0x1FF#11
      (subFp single (mode s.device (half s.fadcr o.side)) (unpack single (s.reg ⟨o.side, o.src1⟩).toNat) (unpack
        single (s.reg ⟨cross o.side o.x, o.src2⟩).toNat)) [] 0)) ∧
  (∀ (o : Bin Pair Pair Pair) (s : State), s.holds o.cond = true →
    exec (.adddpL o) s = .next (fpPair s o.side o.dst 5 .fadcr 0x1FF#11
      (addFp double (mode s.device (half s.fadcr o.side)) (unpack double (pairBits s o.side o.src1)) (unpack double
        (pairBits s (cross o.side o.x) o.src2))) (pairRegs o.side o.src1 ++ pairRegs (cross o.side o.x) o.src2) 1)) ∧
  (∀ (o : Bin Pair Pair Pair) (s : State), s.holds o.cond = true →
    exec (.adddpS o) s = .next (fpPair s o.side o.dst 5 .fadcr 0x1FF#11
      (addFp double (mode s.device (half s.fadcr o.side)) (unpack double (pairBits s o.side o.src1)) (unpack double
        (pairBits s (cross o.side o.x) o.src2))) (pairRegs o.side o.src1 ++ pairRegs (cross o.side o.x) o.src2) 1)) ∧
  (∀ (o : Bin Pair Pair Pair) (s : State), s.holds o.cond = true →
    exec (.subdpL o) s = .next (fpPair s o.side o.dst 5 .fadcr 0x1FF#11
      (subFp double (mode s.device (half s.fadcr o.side)) (unpack double (pairBits s o.side o.src1)) (unpack double
        (pairBits s (cross o.side o.x) o.src2))) (pairRegs o.side o.src1 ++ pairRegs (cross o.side o.x) o.src2) 1)) ∧
  (∀ (o : Bin Pair Pair Pair) (s : State), s.holds o.cond = true →
    exec (.subdpLX o) s = .next (fpPair s o.side o.dst 5 .fadcr 0x1FF#11
      (subFp double (mode s.device (half s.fadcr o.side)) (unpack double (pairBits s (cross o.side o.x) o.src1))
        (unpack double (pairBits s o.side o.src2))) (pairRegs (cross o.side o.x) o.src1 ++ pairRegs o.side o.src2)
        1)) ∧
  (∀ (o : Bin Pair Pair Pair) (s : State), s.holds o.cond = true →
    exec (.subdpS ⟨o, false⟩) s = .next (fpPair s o.side o.dst 5 .fadcr 0x1FF#11
      (subFp double (mode s.device (half s.fadcr o.side)) (unpack double (pairBits s o.side o.src1)) (unpack double
        (pairBits s (cross o.side o.x) o.src2))) (pairRegs o.side o.src1 ++ pairRegs (cross o.side o.x) o.src2) 1)) ∧
  (∀ (o : Bin Reg Reg Reg) (s : State), s.holds o.cond = true →
    exec (.subspS ⟨o, true⟩) s = .next (fpWord s o.side o.dst 3 .fadcr 0x1FF#11
      (addFp single (mode s.device (half s.fadcr o.side)) (inverted (unpack single (s.reg ⟨o.side, o.src1⟩).toNat))
        (unpack single (s.reg ⟨cross o.side o.x, o.src2⟩).toNat)) [] 0)) ∧
  (∀ (o : Bin Pair Pair Pair) (s : State), s.holds o.cond = true →
    exec (.subdpS ⟨o, true⟩) s = .next (fpPair s o.side o.dst 5 .fadcr 0x1FF#11
      (addFp double (mode s.device (half s.fadcr o.side)) (inverted (unpack double (pairBits s o.side o.src1)))
        (unpack double (pairBits s (cross o.side o.x) o.src2))) (pairRegs o.side o.src1 ++ pairRegs (cross o.side
        o.x) o.src2) 1))

/-- MPYSP, MPYDP, MPYSPDP and MPYSP2DP: operands, FMCR rounding mode, landing cycles and warning bits. That the
warning bits land with the last result word and that RMODE is read in the issue cycle are the spec's decision D7
(R72), log entry 27. Rules: R70, R72, R173, R177, R416, R418, R420, R421. -/
def Obligations.FloatProductTiming : Prop :=
  (∀ (o : Bin Reg Reg Reg) (s : State), s.holds o.cond = true →
    exec (.mpysp o) s = .next (fpWord s o.side o.dst 3 .fmcr 0x1FF#11
      (mulFp single (mode s.device (half s.fmcr o.side)) (unpack single (s.reg ⟨o.side, o.src1⟩).toNat) (unpack
        single (s.reg ⟨cross o.side o.x, o.src2⟩).toNat)) [] 0)) ∧
  (∀ (o : Bin Pair Pair Pair) (s : State), s.holds o.cond = true →
    exec (.mpydp o) s = .next (fpPair s o.side o.dst 8 .fmcr 0x1FF#11
      (mulFp double (mode s.device (half s.fmcr o.side)) (unpack double (pairBits s o.side o.src1)) (unpack double
        (pairBits s (cross o.side o.x) o.src2))) (pairRegs o.side o.src1 ++ pairRegs (cross o.side o.x) o.src2) 3)) ∧
  (∀ (o : Bin Reg Pair Pair) (s : State), s.holds o.cond = true →
    exec (.mpyspdp o) s = .next (fpPair s o.side o.dst 5 .fmcr 0x1FF#11
      (mulFp double (mode s.device (half s.fmcr o.side)) (unpack single (s.reg ⟨o.side, o.src1⟩).toNat) (unpack
        double (pairBits s (cross o.side o.x) o.src2))) (⟨o.side, o.src1⟩ :: pairRegs (cross o.side o.x) o.src2) 1)) ∧
  (∀ (o : Bin Reg Reg Pair) (s : State), s.holds o.cond = true →
    exec (.mpysp2dp o) s = .next (fpPair s o.side o.dst 3 .fmcr 0x1FF#11
      (mulFp double (mode s.device (half s.fmcr o.side)) (unpack single (s.reg ⟨o.side, o.src1⟩).toNat) (unpack
        single (s.reg ⟨cross o.side o.x, o.src2⟩).toNat)) [] 0))

/-- Absolute values, reciprocal seeds and compares: operands, FAUCR, landing cycles and warning bits. That the warning
bits land with the last result word is the spec's decision D7 (R72), log entry 27. That a compare of a NaN with a
denormal raises no DENn is the model's choice, which R450 leaves open (log entry 44). Rules: R68, R72, R173, R177,
R434, R435, R436, R437, R438, R439, R450. -/
def Obligations.FloatAuxiliaryTiming : Prop :=
  (∀ (o : Un Reg Reg) (s : State), s.holds o.cond = true →
    exec (.abssp o) s = .next (fpWord s o.side o.dst 0 .faucr 0x1FF#11
      (absFp single (unpack single (s.reg ⟨cross o.side o.x, o.src2⟩).toNat) (s.reg ⟨cross o.side o.x,
        o.src2⟩).toNat) [] 0)) ∧
  (∀ (o : UnN Pair Pair) (s : State), s.holds o.cond = true →
    exec (.absdp o) s = .next (fpPair s o.side o.dst 0 .faucr 0x1FF#11
      (absFp double (unpack double (pairBits s o.side o.src2)) (pairBits s o.side o.src2)) [] 0)) ∧
  (∀ (o : Un Reg Reg) (s : State), s.holds o.cond = true →
    exec (.rcpsp o) s = .next (fpWord s o.side o.dst 0 .faucr 0x5FF#11
      (rcpFp single (Config.rcpSp (s.reg ⟨cross o.side o.x, o.src2⟩)).toNat (unpack single (s.reg ⟨cross o.side o.x,
        o.src2⟩).toNat)) [] 0)) ∧
  (∀ (o : UnN Pair Pair) (s : State), s.holds o.cond = true →
    exec (.rcpdp o) s = .next (fpPair s o.side o.dst 0 .faucr 0x5FF#11
      (rcpFp double (Config.rcpDp (BitVec.ofNat 64 (pairBits s o.side o.src2))).toNat (unpack double (pairBits s
        o.side o.src2))) [] 0)) ∧
  (∀ (o : Un Reg Reg) (s : State), s.holds o.cond = true →
    exec (.rsqrsp o) s = .next (fpWord s o.side o.dst 0 .faucr 0x5FF#11
      (rsqrFp single (Config.rsqrSp (s.reg ⟨cross o.side o.x, o.src2⟩)).toNat (unpack single (s.reg ⟨cross o.side
        o.x, o.src2⟩).toNat)) [] 0)) ∧
  (∀ (o : UnN Pair Pair) (s : State), s.holds o.cond = true →
    exec (.rsqrdp o) s = .next (fpPair s o.side o.dst 0 .faucr 0x5FF#11
      (rsqrFp double (Config.rsqrDp (BitVec.ofNat 64 (pairBits s o.side o.src2))).toNat (unpack double (pairBits s
        o.side o.src2))) [] 0)) ∧
  (∀ (o : Bin Reg Reg Reg) (s : State), s.holds o.cond = true →
    exec (.cmpeqsp o) s = .next (fpWord s o.side o.dst 0 .faucr 0x21F#11
      (compareResult (relateFp .equal (unpack single (s.reg ⟨o.side, o.src1⟩).toNat) (unpack single (s.reg ⟨cross
        o.side o.x, o.src2⟩).toNat))) [] 0)) ∧
  (∀ (o : Bin Pair Pair Reg) (s : State), s.holds o.cond = true →
    exec (.cmpeqdp o) s = .next (fpWord s o.side o.dst 1 .faucr 0x21F#11
      (compareResult (relateFp .equal (unpack double (pairBits s o.side o.src1)) (unpack double (pairBits s (cross
        o.side o.x) o.src2)))) (pairRegs o.side o.src1 ++ pairRegs (cross o.side o.x) o.src2) 1)) ∧
  (∀ (o : Bin Reg Reg Reg) (s : State), s.holds o.cond = true →
    exec (.cmpgtsp o) s = .next (fpWord s o.side o.dst 0 .faucr 0x21F#11
      (compareResult (relateFp .greater (unpack single (s.reg ⟨o.side, o.src1⟩).toNat) (unpack single (s.reg ⟨cross
        o.side o.x, o.src2⟩).toNat))) [] 0)) ∧
  (∀ (o : Bin Pair Pair Reg) (s : State), s.holds o.cond = true →
    exec (.cmpgtdp o) s = .next (fpWord s o.side o.dst 1 .faucr 0x21F#11
      (compareResult (relateFp .greater (unpack double (pairBits s o.side o.src1)) (unpack double (pairBits s (cross
        o.side o.x) o.src2)))) (pairRegs o.side o.src1 ++ pairRegs (cross o.side o.x) o.src2) 1)) ∧
  (∀ (o : Bin Reg Reg Reg) (s : State), s.holds o.cond = true →
    exec (.cmpltsp o) s = .next (fpWord s o.side o.dst 0 .faucr 0x21F#11
      (compareResult (relateFp .less (unpack single (s.reg ⟨o.side, o.src1⟩).toNat) (unpack single (s.reg ⟨cross
        o.side o.x, o.src2⟩).toNat))) [] 0)) ∧
  (∀ (o : Bin Pair Pair Reg) (s : State), s.holds o.cond = true →
    exec (.cmpltdp o) s = .next (fpWord s o.side o.dst 1 .faucr 0x21F#11
      (compareResult (relateFp .less (unpack double (pairBits s o.side o.src1)) (unpack double (pairBits s (cross
        o.side o.x) o.src2)))) (pairRegs o.side o.src1 ++ pairRegs (cross o.side o.x) o.src2) 1))

/-- The ten conversions: operand, rounding mode, landing cycles and warning bits. That the warning bits land with the
last result word and that RMODE is read in the issue cycle are the spec's decision D7 (R72), log entry 27. Rules: R72,
R173, R460, R461, R462, R463, R464, R465, R466, R467, R468, R469. -/
def Obligations.FloatConversionTiming : Prop :=
  (∀ (o : UnN Pair Reg) (s : State), s.holds o.cond = true →
    exec (.dpint o) s = .next (fpWord s o.side o.dst 3 .fadcr 0x1FF#11
      (toInt32 (mode s.device (half s.fadcr o.side)) (unpack double (pairBits s o.side o.src2))) [] 0)) ∧
  (∀ (o : UnN Pair Reg) (s : State), s.holds o.cond = true →
    exec (.dptrunc o) s = .next (fpWord s o.side o.dst 3 .fadcr 0x1FF#11
      (toInt32 ⟨1#2, s.device.tie, s.device.tiny, s.device.infoOnOverflow⟩ (unpack double (pairBits s o.side
        o.src2))) [] 0)) ∧
  (∀ (o : Un Reg Reg) (s : State), s.holds o.cond = true →
    exec (.spint o) s = .next (fpWord s o.side o.dst 3 .fadcr 0x1FF#11
      (toInt32 (mode s.device (half s.fadcr o.side)) (unpack single (s.reg ⟨cross o.side o.x, o.src2⟩).toNat)) [] 0))
        ∧
  (∀ (o : Un Reg Reg) (s : State), s.holds o.cond = true →
    exec (.sptrunc o) s = .next (fpWord s o.side o.dst 3 .fadcr 0x1FF#11
      (toInt32 ⟨1#2, s.device.tie, s.device.tiny, s.device.infoOnOverflow⟩ (unpack single (s.reg ⟨cross o.side o.x,
        o.src2⟩).toNat)) [] 0)) ∧
  (∀ (o : Un Reg Pair) (s : State), s.holds o.cond = true →
    exec (.intdp o) s = .next (fpPair s o.side o.dst 3 .fadcr 0x1FF#11
      (fromInt double (mode s.device (half s.fadcr o.side)) (s.reg ⟨cross o.side o.x, o.src2⟩).toInt) [] 0)) ∧
  (∀ (o : Un Reg Pair) (s : State), s.holds o.cond = true →
    exec (.intdpu o) s = .next (fpPair s o.side o.dst 3 .fadcr 0x1FF#11
      (fromInt double (mode s.device (half s.fadcr o.side)) (s.reg ⟨cross o.side o.x, o.src2⟩).toNat) [] 0)) ∧
  (∀ (o : Un Reg Reg) (s : State), s.holds o.cond = true →
    exec (.intsp o) s = .next (fpWord s o.side o.dst 3 .fadcr 0x1FF#11
      (fromInt single (mode s.device (half s.fadcr o.side)) (s.reg ⟨cross o.side o.x, o.src2⟩).toInt) [] 0)) ∧
  (∀ (o : Un Reg Reg) (s : State), s.holds o.cond = true →
    exec (.intspu o) s = .next (fpWord s o.side o.dst 3 .fadcr 0x1FF#11
      (fromInt single (mode s.device (half s.fadcr o.side)) (s.reg ⟨cross o.side o.x, o.src2⟩).toNat) [] 0)) ∧
  (∀ (o : UnN Pair Reg) (s : State), s.holds o.cond = true →
    exec (.dpsp o) s = .next (fpWord s o.side o.dst 3 .fadcr 0x1FF#11
      (convertFp single (mode s.device (half s.fadcr o.side)) (unpack double (pairBits s o.side o.src2))) [] 0)) ∧
  (∀ (o : Un Reg Pair) (s : State), s.holds o.cond = true →
    exec (.spdp o) s = .next (fpPair s o.side o.dst 0 .faucr 0x1FF#11
      (convertFp double ⟨0#2, s.device.tie, s.device.tiny, s.device.infoOnOverflow⟩ (unpack single (s.reg ⟨cross
        o.side o.x, o.src2⟩).toNat)) [] 0))

/-- An instruction whose condition is false changes nothing; its unit and its other resources count whatever the
condition. Rules: R133. -/
def Obligations.ConditionFalse : Prop :=
  (∀ (i : Instr) (s : State), s.holds i.condition = false → exec i s = .next s) ∧
  (∀ (s : State) (p : List Instr), Fetches s → s.packet = .ok p →
    (∀ r, packetRefusal s.history (p.map issueOf) = some r → step s = .refused r) ∧
    (∀ t, step s = .next t → t.history = (p.map issueOf :: s.history).take 9))

/-- Bits 31-28 hold the condition of every instruction but NOP and IDLE, and a condition tests all 32 bits of its
register. Rules: R130, R131, R132. -/
def Obligations.ConditionField : Prop :=
  (∀ (w : Word) (i : Instr), decode w = .ok i → Conditional i → w.toNat / 2 ^ 28 = conditionField i.condition) ∧
  (∀ (w : Word) (i : Instr), decode w = .ok i → Conditional i → w.toNat / 2 ^ 28 ∉ [1, 12, 13, 14, 15]) ∧
  (∀ (s : State) (c : Cond), s.holds c = true ↔ ConditionTrue s c)

/-- No instruction changes a register, a control register or the program counter in its meaning; only stores change
memory. Rules: R171, R176, R32. -/
def Obligations.MeaningsOnlyQueue : Prop :=
  ∀ (i : Instr) (s t : State), exec i s = .next t →
    t = { s with
      writes := t.writes, sats := t.sats, warns := t.warns, branches := t.branches, controls := t.controls,
      nopLeft := t.nopLeft, idle := t.idle, mem := t.mem, stored := t.stored, codeStores := t.codeStores,
      free := t.free } ∧
    s.writes <+: t.writes ∧ s.sats <+: t.sats ∧ s.warns <+: t.warns ∧ s.branches <+: t.branches ∧
    s.controls <+: t.controls ∧ s.nopLeft ≤ t.nopLeft ∧ s.free ≤ t.free ∧
    ((issueOf i).timing ≠ .store → t.mem = s.mem ∧ t.stored = s.stored ∧ t.codeStores = s.codeStores)

/-- When the word at pc decodes to an instruction and ends its packet, step is exec of it followed by the end of the
cycle. Rules: R124, R148, R170, R176. -/
def Obligations.StepRunsDecodedInstruction : Prop :=
  ∀ (s : State) (i : Instr), Fetches s →
    decode (s.fetchWord s.pc) = .ok i → i.available s.device.variant = true → pBit (s.fetchWord s.pc) = false →
    packetRefusal s.history [issueOf i] = none →
    (∀ t, exec i s = .next t → step s = .next (t.endCycle [issueOf i] (s.pc + 4#32))) ∧
    (∀ f, exec i s = .fault f → step s = .fault f) ∧
    (∀ r, exec i s = .refused r → step s = .refused r)

/-- A cycle that fetches runs the whole execute packet, loads before stores, and then ends. Rules: R108, R124, R176,
R190. -/
def Obligations.StepRunsPacket : Prop :=
  ∀ (s : State) (p : List Instr), Fetches s → s.packet = .ok p →
    (∀ r, packetRefusal s.history (p.map issueOf) = some r → step s = .refused r) ∧
    (packetRefusal s.history (p.map issueOf) = none →
      ∀ u t, runAll (p.filter fun i => (issueOf i).timing != .store) s = .next u →
        runAll (p.filter fun i => (issueOf i).timing == .store) u = .next t →
        step s = .next (t.endCycle (p.map issueOf) (s.pc + BitVec.ofNat 32 (4 * p.length))))

/-- An execute packet runs from pc to the first word with p = 0, at most eight, within a fetch packet on a C67x; no
other word issues. The refusals are the model's form for what the spec leaves without any effect (log entries 20, 41).
Rules: R122, R124, R125, R127, R131, R142, R150, R152, R153. -/
def Obligations.ExecutePackets : Prop :=
  (∀ (s : State) (l : List Instr), l ≠ [] → l.length ≤ 8 →
    (∀ j (h : j < l.length), s.fetchInstr (s.pc + BitVec.ofNat 32 (4 * j)) = .ok (l[j], decide (j + 1 < l.length))) →
    (s.device.variant = .c67xPlus ∨ ∀ j, j + 1 < l.length → (s.pc.toNat / 4 + j) % 8 ≠ 7) → s.packet = .ok l) ∧
  (∀ s : State, s.device.variant = .c67xPlus →
    (∀ j < 8, ∃ i, s.fetchInstr (s.pc + BitVec.ofNat 32 (4 * j)) = .ok (i, true)) →
    s.packet = .error .packetTooLong) ∧
  (∀ (s : State) (n : Nat), s.device.variant = .c67x → n < 8 → (s.pc.toNat / 4 + n) % 8 = 7 →
    (∀ j ≤ n, ∃ i, s.fetchInstr (s.pc + BitVec.ofNat 32 (4 * j)) = .ok (i, true)) →
    s.packet = .error .packetCrossesFetchPacket) ∧
  (∀ (s : State) (n : Nat) (e : Reject), n < 8 →
    (s.device.variant = .c67xPlus ∨ ∀ j < n, (s.pc.toNat / 4 + j) % 8 ≠ 7) →
    (∀ j < n, ∃ i, s.fetchInstr (s.pc + BitVec.ofNat 32 (4 * j)) = .ok (i, true)) →
    decode (s.fetchWord (s.pc + BitVec.ofNat 32 (4 * n))) = .error e →
    s.packet = .error (match e with
      | .unassigned | .oddPair => .unassignedEncoding
      | .reservedCondition => .reservedCondition
      | .reservedMode => .reservedAddressingMode)) ∧
  (∀ (s : State) (n : Nat) (i : Instr), n < 8 →
    (s.device.variant = .c67xPlus ∨ ∀ j < n, (s.pc.toNat / 4 + j) % 8 ≠ 7) →
    (∀ j < n, ∃ i, s.fetchInstr (s.pc + BitVec.ofNat 32 (4 * j)) = .ok (i, true)) →
    decode (s.fetchWord (s.pc + BitVec.ofNat 32 (4 * n))) = .ok i → i.available s.device.variant = false →
    s.packet = .error .notOnThisVariant) ∧
  (∀ (s : State) (r : Refusal), Fetches s → s.packet = .error r → step s = .refused r)

/-- Reserved addressing modes and odd registers in any pair field decode to no instruction; a C67x lacks registers 16
to 31 and the C67x+ instructions. That such a word is no instruction, rather than one of unknown effect, is read from
the spec by inference (log entry 41); the operand forms of the .S-unit instructions are the model's (log entry 31).
Rules: R142, R150, R152, R153. -/
def Obligations.RefusedEncodings : Prop :=
  (∀ (w : Word) (i : Instr), w.toNat / 4 % 4 = 1 → w.toNat / 2 ^ 9 % 16 ∈ [2, 3, 6, 7] → decode w ≠ .ok i) ∧
  (∀ (w : Word) (i : Instr), w.toNat / 4 % 1024 ∈
    [0x0C6, 0x0CE, 0x0EE, 0x288, 0x298, 0x2A8, 0x1C0] →
    w.getLsbD 13 = true → decode w ≠ .ok i) ∧
  (∀ (w : Word) (i : Instr), w.toNat / 4 % 1024 ∈
    [0x1C6, 0x10E, 0x106, 0x14E, 0x0C6, 0x28E, 0x286, 0x22E, 0x226, 0x26E, 0x266, 0x2AE, 0x2A6, 0x2EE, 0x2E6, 0x046,
      0x04E, 0x00E, 0x306, 0x18E, 0x186, 0x206, 0x166, 0x126, 0x0CE, 0x0EE, 0x2C8, 0x288, 0x298, 0x2A8, 0x2D8, 0x2E8,
      0x318, 0x308, 0x358, 0x348, 0x258, 0x248, 0x1C0, 0x16C] →
    w.getLsbD 18 = true → decode w ≠ .ok i) ∧
  (∀ (w : Word) (i : Instr), w.toNat / 4 % 1024 ∈
    [0x1C6, 0x11E, 0x10E, 0x106, 0x15E, 0x14E, 0x0C6, 0x1CE, 0x1DE, 0x18E, 0x186, 0x166, 0x13E, 0x1BE, 0x126, 0x17E,
      0x1FE, 0x0CE, 0x0EE, 0x2C8, 0x2D8, 0x2E8, 0x318, 0x138, 0x308, 0x128, 0x358, 0x348, 0x258, 0x248, 0x028, 0x1C0,
      0x100, 0x180, 0x16C, 0x17C] →
    w.getLsbD 23 = true → decode w ≠ .ok i) ∧
  (∀ (w : Word) (i : Instr), w.toNat / 4 % 4 = 1 → w.getLsbD 8 = true → w.getLsbD 23 = true → decode w ≠ .ok i) ∧
  (∀ (a : Bin Reg Reg Reg) (b : Bin Pair Pair Pair) (c : Bin Reg Pair Pair) (d : Bin Reg Reg Pair) (r : Bool),
    ∀ i ∈ [Instr.addspS a, .adddpS b, .subspS ⟨a, r⟩, .subdpS ⟨b, r⟩, .mpyspdp c, .mpysp2dp d], i.available .c67x =
      false) ∧
  (∀ o : Un Reg Reg, ∀ i ∈ [Instr.abs o, .intsp o, .intspu o, .norm o, .spint o, .sptrunc o, .abssp o, .rcpsp o,
    .rsqrsp o], i.available .c67x = true ↔
    o.src2.toNat < 16 ∧ o.dst.toNat < 16) ∧
  (∀ o : UnN Pair Pair, ∀ i ∈ [Instr.absLong o, .absdp o, .rcpdp o, .rsqrdp o], i.available .c67x = true ↔
    o.src2.toNat < 8 ∧ o.dst.toNat < 8) ∧
  (∀ o : Bin Reg Reg Reg, ∀ i ∈ [Instr.addL o, .addspL o, .andL o, .cmpeq o, .cmpgt o, .cmpgtu o, .cmplt o, .cmpltu
    o, .lmbd o, .orL o, .sadd o, .ssub o, .ssubX o, .subL o, .subLX o, .subc o, .subspL o, .subspLX o, .xorL o, .addS
    o, .add2 o, .andS o, .clrReg o, .cmpeqsp o, .cmpgtsp o, .cmpltsp o, .extReg o, .extuReg o, .orS o, .setReg o,
    .shl o, .shr o, .shru o, .sshl o, .subS o, .sub2 o, .xorS o, .mpy o, .mpyu o, .mpyus o, .mpysu o, .mpyh o, .mpyhu
    o, .mpyhus o, .mpyhsu o, .mpyhl o, .mpyhlu o, .mpyhuls o, .mpyhslu o, .mpylh o, .mpylhu o, .mpyluhs o, .mpylshu
    o, .smpy o, .smpyhl o, .smpylh o, .smpyh o, .mpysp o, .mpyi o], i.available .c67x = true ↔
    o.src1.toNat < 16 ∧ o.src2.toNat < 16 ∧ o.dst.toNat < 16) ∧
  (∀ o : Bin Reg Reg Pair, ∀ i ∈ [Instr.addLWide o, .adduWide o, .subLWide o, .subLWideX o, .subuWide o, .subuWideX
    o, .shlWide o, .mpyid o], i.available .c67x = true ↔
    o.src1.toNat < 16 ∧ o.src2.toNat < 16 ∧ o.dst.toNat < 8) ∧
  (∀ o : Bin Reg Pair Pair, ∀ i ∈ [Instr.addLLong o, .adduLong o, .saddLong o], i.available .c67x = true ↔
    o.src1.toNat < 16 ∧ o.src2.toNat < 8 ∧ o.dst.toNat < 8) ∧
  (∀ o : Bin Cst5 Reg Reg, ∀ i ∈ [Instr.addLC o, .andLC o, .cmpeqC o, .cmpgtC o, .cmpltC o, .lmbdC o, .orLC o, .saddC
    o, .ssubC o, .subLC o, .xorLC o, .addSC o, .andSC o, .orSC o, .shlC o, .shrC o, .shruC o, .sshlC o, .subSC o,
    .xorSC o, .mpyC o, .mpysuC o, .mpyiC o], i.available .c67x = true ↔
    o.src2.toNat < 16 ∧ o.dst.toNat < 16) ∧
  (∀ o : BinN Cst5 Pair Pair, ∀ i ∈ [Instr.addLLongC o, .saddLongC o, .ssubLongC o, .subLLongC o, .shlLongC o,
    .shrLongC o, .shruLongC o], i.available .c67x = true ↔
    o.src2.toNat < 8 ∧ o.dst.toNat < 8) ∧
  (∀ o : Bin Pair Pair Pair, ∀ i ∈ [Instr.adddpL o, .subdpL o, .subdpLX o, .mpydp o], i.available .c67x = true ↔
    o.src1.toNat < 8 ∧ o.src2.toNat < 8 ∧ o.dst.toNat < 8) ∧
  (∀ o : Bin Reg Pair Reg, ∀ i ∈ [Instr.cmpeqLong o, .cmpgtLong o, .cmpgtuLong o, .cmpltLong o, .cmpltuLong o],
    i.available .c67x = true ↔
    o.src1.toNat < 16 ∧ o.src2.toNat < 8 ∧ o.dst.toNat < 16) ∧
  (∀ o : BinN Cst5 Pair Reg, ∀ i ∈ [Instr.cmpeqLongC o, .cmpgtLongC o, .cmpltLongC o], i.available .c67x = true ↔
    o.src2.toNat < 8 ∧ o.dst.toNat < 16) ∧
  (∀ o : Bin Ucst4 Reg Reg, ∀ i ∈ [Instr.cmpgtuC o, .cmpltuC o], i.available .c67x = true ↔
    o.src2.toNat < 16 ∧ o.dst.toNat < 16) ∧
  (∀ o : BinN Ucst4 Pair Reg, ∀ i ∈ [Instr.cmpgtuLongC o, .cmpltuLongC o], i.available .c67x = true ↔
    o.src2.toNat < 8 ∧ o.dst.toNat < 16) ∧
  (∀ o : UnN Pair Reg, ∀ i ∈ [Instr.dpint o, .dpsp o, .dptrunc o, .normLong o, .sat o], i.available .c67x = true ↔
    o.src2.toNat < 8 ∧ o.dst.toNat < 16) ∧
  (∀ o : Un Reg Pair, ∀ i ∈ [Instr.intdp o, .intdpu o, .spdp o], i.available .c67x = true ↔
    o.src2.toNat < 16 ∧ o.dst.toNat < 8) ∧
  (∀ o : Bin Pair Pair Reg, ∀ i ∈ [Instr.cmpeqdp o, .cmpgtdp o, .cmpltdp o], i.available .c67x = true ↔
    o.src1.toNat < 8 ∧ o.src2.toNat < 8 ∧ o.dst.toNat < 16) ∧
  (∀ o : BinN Reg Pair Pair, ∀ i ∈ [Instr.shlLong o, .shrLong o, .shruLong o], i.available .c67x = true ↔
    o.src1.toNat < 16 ∧ o.src2.toNat < 8 ∧ o.dst.toNat < 8) ∧
  (∀ o : Bin Cst5 Reg Pair, ∀ i ∈ [Instr.shlWideC o, .mpyidC o], i.available .c67x = true ↔
    o.src2.toNat < 16 ∧ o.dst.toNat < 8) ∧
  (∀ o : BinN Reg Reg Reg, ∀ i ∈ [Instr.addD o, .subD o, .addab o, .addah o, .addaw o, .addad o, .subab o, .subah o,
    .subaw o], i.available .c67x = true ↔
    o.src1.toNat < 16 ∧ o.src2.toNat < 16 ∧ o.dst.toNat < 16) ∧
  (∀ o : BinN Cst5 Reg Reg, ∀ i ∈ [Instr.addDC o, .subDC o, .addabC o, .addahC o, .addawC o, .addadC o, .subabC o,
    .subahC o, .subawC o], i.available .c67x = true ↔
    o.src2.toNat < 16 ∧ o.dst.toNat < 16) ∧
  (∀ o : BranchReg, ∀ i ∈ [Instr.bReg o], i.available .c67x = true ↔
    o.src2.toNat < 16) ∧
  (∀ o : MvcRead, ∀ i ∈ [Instr.mvcRead o], i.available .c67x = true ↔
    o.dst.toNat < 16) ∧
  (∀ o : MvcWrite, ∀ i ∈ [Instr.mvcWrite o], i.available .c67x = true ↔
    o.src2.toNat < 16) ∧
  (∀ o : FieldOp, ∀ i ∈ [Instr.extuConst o, .extConst o, .setConst o, .clrConst o], i.available .c67x = true ↔
    o.src2.toNat < 16 ∧ o.dst.toNat < 16) ∧
  (∀ o : Const16, ∀ i ∈ [Instr.addk o, .mvk o, .mvkh o], i.available .c67x = true ↔
    o.dst.toNat < 16) ∧
  (∀ o : Mem Reg, ∀ i ∈ [Instr.ldhu o, .ldbu o, .ldb o, .stb o, .ldh o, .sth o, .ldw o, .stw o], i.available .c67x =
    true ↔
    o.base.toNat < 16 ∧ (∀ r, o.offset = .reg r → r.toNat < 16) ∧ o.data.toNat < 16) ∧
  (∀ o : MemK, ∀ i ∈ [Instr.ldhuK o, .ldbuK o, .ldbK o, .stbK o, .ldhK o, .sthK o, .ldwK o, .stwK o], i.available
    .c67x = true ↔
    o.data.toNat < 16) ∧
  (∀ o : Mem Pair, ∀ i ∈ [Instr.lddw o], i.available .c67x = true ↔
    o.base.toNat < 16 ∧ (∀ r, o.offset = .reg r → r.toNat < 16) ∧ o.data.toNat < 8) ∧
  (∀ o : Const32, ∀ i ∈ [Instr.mvkl o, .mvklh o], i.available .c67x = true ↔
    o.dst.toNat < 16) ∧
  (∀ o : Un Reg Reg, ∀ i ∈ [Instr.mv (.l o), .mv (.s o), .neg (.l o), .neg (.s o), .not (.l o), .not (.s o)],
    i.available .c67x = true ↔
    o.src2.toNat < 16 ∧ o.dst.toNat < 16) ∧
  (∀ o : UnN Pair Pair, ∀ i ∈ [Instr.mv (.lLong o), .neg (.lLong o)], i.available .c67x = true ↔
    o.src2.toNat < 8 ∧ o.dst.toNat < 8) ∧
  (∀ o : UnN Reg Reg, ∀ i ∈ [Instr.mv (.d o)], i.available .c67x = true ↔
    o.src2.toNat < 16 ∧ o.dst.toNat < 16) ∧
  (∀ o : Dst Reg, ∀ i ∈ [Instr.zero (.l o), .zero (.d o), .zero (.sMvk o), .zero (.sSub o)], i.available .c67x =
    true ↔
    o.dst.toNat < 16) ∧
  (∀ o : Dst Pair, ∀ i ∈ [Instr.zero (.lLong o)], i.available .c67x = true ↔
    o.dst.toNat < 8) ∧
  (∀ (d : Disp) (c : Cond) (k : BitVec 3), ∀ i ∈ [Instr.bDisp d, .bIrp c, .bNrp c, .nop k, .nop9, .idle],
    i.available .c67x = true) ∧
  (∀ i : Instr, i.available .c67xPlus = true)

/-- In one packet every load reads before every store writes, wherever the two stand in the packet. Rules: R108, R363,
R364, R368. -/
def Obligations.LoadBeforeStore : Prop :=
  ∀ (i j : Instr) (s : State) (ea fa : Word) (n m : Nat) (v : Word) (ws upd : List PendingWrite) (p : List Instr),
    IsLoad s i ea n ws → IsStore s j fa m v upd → s.holds i.condition = true → s.holds j.condition = true →
    Accessible s ea n → Accessible s fa m → Memory.wf s.mem = true → s.stored = [] → (p = [i, j] ∨ p = [j, i]) →
    ∃ t, runAll (memoryOrder p) s = .next t ∧ Stored (queue s ws) t fa m v upd

/-- A byte that two stores of a cycle, or a store and another bus master, write becomes free; other bus masters change
no other byte. The spec leaves these values open (decisions D11, D13); the free bytes and the landing at the end of
the cycle are the model's choice (log entries 18, 36). Rules: R109, R112. -/
def Obligations.ContestedBytes : Prop :=
  (∀ (i : Instr) (s : State) (ea : Word) (n : Nat) (v : Word) (upd : List PendingWrite), IsStore s i ea n v upd →
    s.holds i.condition = true → Proper s ea n → Memory.wf s.mem = true → ∃ t, exec i s = .next t ∧
      (∀ k < n, byteAddress s ea n k ∈ s.stored ∨ Contested s (byteAddress s ea n k) →
        Drawn s t (readByte t.mem (byteAddress s ea n k))) ∧
      (∀ k < n, byteAddress s ea n k ∉ s.stored → ¬ Contested s (byteAddress s ea n k) →
        readByte t.mem (byteAddress s ea n k) = BitVec.ofNat 8 (v.toNat / 256 ^ k)) ∧
      ∀ a, (∀ k < n, a ≠ ea.toNat + k) → readByte t.mem a = readByte s.mem a) ∧
  (∀ (s : State) (issues : List Issue) (seq : Word), s.device.externalWriters = false →
    (s.endCycle issues seq).mem = s.mem ∧ (s.endCycle issues seq).codeStores = s.codeStores) ∧
  (∀ (s : State) (issues : List Issue) (seq : Word), s.device.externalWriters = true → Memory.wf s.mem = true →
    (∀ a, (∀ c ∈ s.input.external, c.1 ≠ a) →
      readByte (s.endCycle issues seq).mem a = readByte s.mem a) ∧
    (∀ a b, a < 2 ^ 32 → a ∉ s.stored → (s.input.external.filter fun c => c.1 == a).getLast? = some (a, b) →
      readByte (s.endCycle issues seq).mem a = b) ∧
    (∀ a ∈ s.stored, readByte (s.endCycle issues seq).mem a = readByte s.mem a) ∧
    ∀ c ∈ s.input.external, c.1 < 2 ^ 32 → c.1 ∈ (s.endCycle issues seq).codeStores)

/-- A fetch of a byte that a store has changed or no memory backs returns a free byte, from then on; any other fetch
reads its view. What such fetches return is open in the spec (decisions D5, D14); the free byte, and that a reset does
not end it, are the model's form (log entries 9, 19, 36). Rules: R98, R105, R114. -/
def Obligations.UnknownCode : Prop :=
  (∀ (i : Instr) (s t : State) (a : Nat), Memory.wf s.mem = true → exec i s = .next t →
    readByte t.mem a ≠ readByte s.mem a → SharedByte s a → a ∈ t.codeStores) ∧
  (∀ (i : Instr) (s t : State) (ea : Word) (n : Nat) (v : Word) (upd : List PendingWrite), IsStore s i ea n v upd →
    s.holds i.condition = true → exec i s = .next t →
    ∀ k < n, SharedByte s (containerByte ea n k) → containerByte ea n k ∈ t.codeStores) ∧
  (∀ (s t : State) (a : Nat), step s = .next t → a ∈ s.codeStores → a ∈ t.codeStores) ∧
  (∀ (s : State) (a : Nat), a < 2 ^ 32 → a ∈ s.codeStores ∨ ¬ InCode s a ∨ Contested s a →
    s.fetchByte a = Config.freeCode s.free a) ∧
  (∀ (s : State) (a : Nat), a ∉ s.codeStores → InCode s a → ¬ Contested s a →
    (SharedByte s a → s.fetchByte a = readByte s.mem a) ∧ (¬ SharedByte s a → s.fetchByte a = readByte s.pmem a))

/-- A packet with two instructions on one functional unit is refused as unitUsedTwice, whatever their conditions. R184
says that such a packet cannot be issued; stopping with a refusal is the spec's decision D16, its name and precedence
are the model's (log entry 20). Rules: R133, R184, R190. -/
def Obligations.UnitUsedTwice : Prop :=
  ∀ (s : State) (p : List Instr) (j k : Nat) (u : FUnit) (hj : j < p.length) (hk : k < p.length), j < k →
    Fetches s → s.packet = .ok p → (issueOf p[j]).unit = some u → (issueOf p[k]).unit = some u →
    step s = .refused .unitUsedTwice

/-- A packet with an instruction on a unit that a multicycle instruction still locks does not issue. The three cycles
of MPYSPDP are the choice of 90_conflicts.md C5 (log entry 20). Rules: R174, R190. -/
def Obligations.UnitLocked : Prop :=
  (∀ (s : State) (p : List Instr) (a : Nat) (c : List Issue) (h : Issue) (i : Instr) (u : FUnit), Fetches s →
    s.packet = .ok p → s.history[a]? = some c → h ∈ c → h.unit = some u → a + 1 < lockCycles h.timing → i ∈ p →
    (issueOf i).unit = some u → ∃ r, step s = .refused r) ∧
  (∀ (o : Bin Pair Pair Reg), (issueOf (.cmpeqdp o)).timing = .dpCompare ∧
    (issueOf (.cmpgtdp o)).timing = .dpCompare ∧ (issueOf (.cmpltdp o)).timing = .dpCompare) ∧
  (∀ (o : Bin Pair Pair Pair), (issueOf (.adddpL o)).timing = .adddp ∧ (issueOf (.adddpS o)).timing = .adddp ∧
    (issueOf (.subdpL o)).timing = .adddp ∧ (issueOf (.subdpLX o)).timing = .adddp ∧
    (∀ r, (issueOf (.subdpS ⟨o, r⟩)).timing = .adddp) ∧ (issueOf (.mpydp o)).timing = .mpydp) ∧
  (∀ (o : Bin Reg Reg Reg) (c : Bin Cst5 Reg Reg), (issueOf (.mpyi o)).timing = .mpyi ∧
    (issueOf (.mpyiC c)).timing = .mpyi) ∧
  (∀ (o : Bin Reg Reg Pair) (c : Bin Cst5 Reg Pair), (issueOf (.mpyid o)).timing = .mpyid ∧
    (issueOf (.mpyidC c)).timing = .mpyid ∧ (issueOf (.mpysp2dp o)).timing = .mpysp2dp) ∧
  (∀ o : Bin Reg Pair Pair, (issueOf (.mpyspdp o)).timing = .mpyspdp)

/-- A packet that shares a cross path, T path, long port, LDDW port, write port or a fifth read of a register, now or
later, does not issue. Refusing is the spec's decision D16; MPYI against 16 x 16 is 90_conflicts.md C15; that the
packet is refused ahead of the cycle with the fifth read is the model's reading of R190 (log entry 20). Rules: R185,
R186, R188, R189, R190, R191, R192, R195, R196. -/
def Obligations.ResourceRefusals : Prop :=
  (∀ (s : State) (p : List Instr) (j k : Nat) (hj : j < p.length) (hk : k < p.length), j < k → Fetches s →
    s.packet = .ok p →
    (∀ x y, (issueOf p[j]).unit = some x → (issueOf p[k]).unit = some y → x.side = y.side →
      ((issueOf p[j]).cross = true ∧ (issueOf p[k]).cross = true) ∨
      ((issueOf p[j]).longRead = true ∧ (issueOf p[k]).longRead = true) ∨
      ((issueOf p[j]).longWrite = true ∧ (issueOf p[k]).longWrite = true) → ∃ r, step s = .refused r) ∧
    (∀ side, (issueOf p[j]).tPath = some side → (issueOf p[k]).tPath = some side → ∃ r, step s = .refused r)) ∧
  (∀ (s : State) (p : List Instr) (i j : Instr) (u : FUnit), Fetches s → s.packet = .ok p → i ∈ p → j ∈ p →
    (issueOf i).unit = some u → (issueOf i).longRead = true → (issueOf j).timing = .store →
    (issueOf j).tPath = some u.side → ∃ r, step s = .refused r) ∧
  (∀ (s : State) (p : List Instr) (a : Nat) (c : List Issue) (h : Issue) (i : Instr) (u x : FUnit), Fetches s →
    s.packet = .ok p → s.history[a]? = some c → h ∈ c → i ∈ p → h.unit = some u → (issueOf i).unit = some x →
    (x.side = u.side ∧ h.cross = true ∧ (issueOf i).cross = true ∧ a + 1 < crossHeld h.timing) ∨
    (a = 3 ∧ h.doubleword = true ∧ (issueOf i).longWrite = true ∧ h.tPath = some x.side) ∨
    (x = u ∧ a + 1 ∈ cannotFollow h.timing (issueOf i).timing) → ∃ r, step s = .refused r) ∧
  (∀ (s : State) (p : List Instr) (k : Nat) (r : RegName), Fetches s → s.packet = .ok p → 4 < readsOf s p k r →
    ∃ e, step s = .refused e) ∧
  (∀ (k : Nat) (r : RegName), readsOf State.reset [] k r ≤ 4) ∧
  (∀ s t : State, (∀ k r, readsOf s [] k r ≤ 4) → step s = .next t → ∀ k r, readsOf t [] k r ≤ 4) ∧
  (∀ (o : Bin Reg Reg Reg), (issueOf (.addL o)).cross = o.x ∧ (issueOf (.addL o)).unit = some ⟨.l, o.side⟩ ∧
    (issueOf (.addL o)).reads = [[⟨o.side, o.src1⟩, ⟨cross o.side o.x, o.src2⟩]] ∧
    (issueOf (.addspL o)).timing = .fourCycle ∧ (issueOf (.mpy o)).timing = .mul16) ∧
  (∀ (o : BinN Reg Pair Pair), (issueOf (.shlLong o)).longRead = true ∧ (issueOf (.shlLong o)).longWrite = true ∧
    (issueOf (.shlLong o)).unit = some ⟨.s, o.side⟩) ∧
  (∀ (o : Mem Reg) (q : Mem Pair), (issueOf (.ldw o)).tPath = some o.side ∧ (issueOf (.stw o)).tPath = some o.side ∧
    (issueOf (.stw o)).timing = .store ∧ (issueOf (.stw o)).unit = some ⟨.d, o.unit⟩ ∧
    (issueOf (.lddw q)).doubleword = true ∧ (issueOf (.lddw q)).tPath = some q.side)

/-- At the end of a cycle each register takes the one write due then, or a free value if two are due, or keeps its
value; later writes come nearer. The free values are the model's form for what the spec leaves undefined (log entries
15, 16). Rules: R171, R76, R176, R177, R193. -/
def Obligations.RegistersLand : Prop :=
  ∀ (s : State) (issues : List Issue) (seq : Word) (n : RegName),
    ((∀ w ∈ s.writes, w.left = 0 → w.reg ≠ n) → (s.endCycle issues seq).reg n = s.reg n) ∧
    (∀ w ∈ s.writes, w.left = 0 → w.reg = n →
      (s.writes.filter fun v => v.left == 0 && v.reg == n).length = 1 → (s.endCycle issues seq).reg n = w.value) ∧
    (1 < (s.writes.filter fun v => v.left == 0 && v.reg == n).length →
      ∃ j, s.free ≤ j ∧ j < (s.endCycle issues seq).free ∧ (s.endCycle issues seq).reg n = Config.freeWord j) ∧
    (∀ w ∈ s.writes, ∀ k, w.left = k + 1 → (w.watchLeft = 0 ∨ ∀ r ∈ w.watch, ¬ Due s r) →
      { w with left := k, watchLeft := w.watchLeft - 1 } ∈ (s.endCycle issues seq).writes) ∧
    (∀ w ∈ s.writes, ∀ k, w.left = k + 1 → 0 < w.watchLeft → (∃ r ∈ w.watch, Due s r) →
      ∃ j, s.free ≤ j ∧ j < (s.endCycle issues seq).free ∧
        ⟨w.reg, Config.freeWord j, k, [], 0⟩ ∈ (s.endCycle issues seq).writes) ∧
    (∀ w ∈ (s.endCycle issues seq).writes, ∃ v ∈ s.writes, v.reg = w.reg ∧ v.left = w.left + 1)

/-- SAT is set by a saturation and cleared only by MVC, the set winning; warning bits are sticky and win against an
MVC; those not due come nearer. Sticky bits and their order against MVC are the spec's decisions D6 and D7 (log entry
27); the free bits are the model's form for what R177 leaves undefined (log entry 16). Rules: R41, R64, R68, R70, R71,
R72, R173, R177. -/
def Obligations.StatusBitsLand : Prop :=
  (∀ (s : State) (issues : List Issue) (seq : Word), (∃ p ∈ s.sats, p.left = 0 ∧ p.value = true) →
    (s.endCycle issues seq).sat = true) ∧
  (∀ (s : State) (issues : List Issue) (seq : Word), (∀ p ∈ s.sats, p.left ≠ 0) →
    (s.controls = [] → (s.endCycle issues seq).sat = s.sat) ∧
    (∀ v, s.controls = [.write 1#5 v] → v.getLsbD 9 = false → (s.endCycle issues seq).sat = false) ∧
    (∀ v, s.controls = [.write 1#5 v] → (s.endCycle issues seq).sat = true → s.sat = true)) ∧
  (∀ (s : State) (issues : List Issue) (seq : Word) (r : FpReg) (side : Side) (k : Nat), k < 11 → s.controls = [] →
    ((half (config (s.endCycle issues seq) r) side).getLsbD k = true ↔
      (half (config s r) side).getLsbD k = true ∨
      ∃ w ∈ s.warns, w.left = 0 ∧ w.reg = r ∧ w.side = side ∧ w.bits.getLsbD k = true)) ∧
  (∀ (s : State) (issues : List Issue) (seq : Word) (r : FpReg) (side : Side) (k : Nat) (v : Word), k < 11 →
    s.controls = [.write (configAddress r) v] →
    ((half (config (s.endCycle issues seq) r) side).getLsbD k = true ↔
      v.getLsbD (k + (match side with | .a => 0 | .b => 16)) = true ∨
      ∃ w ∈ s.warns, w.left = 0 ∧ w.reg = r ∧ w.side = side ∧ w.bits.getLsbD k = true)) ∧
  (∀ (s : State) (issues : List Issue) (seq : Word) (p : PendingSat),
    p ∈ (s.endCycle issues seq).sats ↔ { p with left := p.left + 1 } ∈ s.sats) ∧
  (∀ (s : State) (issues : List Issue) (seq : Word),
    (∀ w ∈ s.warns, ∀ k, w.left = k + 1 → (w.watchLeft = 0 ∨ ∀ r ∈ w.watch, ¬ Due s r) →
      { w with left := k, watchLeft := w.watchLeft - 1 } ∈ (s.endCycle issues seq).warns) ∧
    (∀ w ∈ s.warns, ∀ k, w.left = k + 1 → 0 < w.watchLeft → (∃ r ∈ w.watch, Due s r) →
      ∃ j, s.free ≤ j ∧ j < (s.endCycle issues seq).free ∧
        ⟨k, w.reg, w.side, (Config.freeWord j).extractLsb' 0 11 &&& w.mask, w.mask, [], 0⟩ ∈
          (s.endCycle issues seq).warns) ∧
    (∀ w ∈ (s.endCycle issues seq).warns, ∃ v ∈ s.warns, v.left = w.left + 1 ∧ v.reg = w.reg ∧ v.side = w.side ∧
      v.mask = w.mask ∧ (w.bits = v.bits ∨ ∃ j, s.free ≤ j ∧ j < (s.endCycle issues seq).free ∧
        w.bits = (Config.freeWord j).extractLsb' 0 11 &&& v.mask)))

/-- IFn becomes 1 by an input or last cycle's ISR write, else 0 by last cycle's ICR write; NMIF by NMI. Rules: R48,
R53, R54, R484. -/
def Obligations.InterruptFlags : Prop :=
  ∀ (s : State) (issues : List Issue) (seq : Word),
    (∀ k < 12, (s.endCycle issues seq).ifl.getLsbD k =
      if s.input.ints.getLsbD k || s.isrPend.getLsbD k then true
      else if s.icrPend.getLsbD k then false else s.ifl.getLsbD k) ∧
    (s.endCycle issues seq).nmif = (s.nmif || s.input.nmi) ∧
    (∀ v, s.controls = [.write 2#5 v] → ∀ k < 12, (s.endCycle issues seq).isrPend.getLsbD k = v.getLsbD (k + 4)) ∧
    (∀ v, s.controls = [.write 3#5 v] → ∀ k < 12, (s.endCycle issues seq).icrPend.getLsbD k = v.getLsbD (k + 4)) ∧
    ((∀ v, .write 2#5 v ∉ s.controls) → (s.endCycle issues seq).isrPend = 0#12) ∧
    ((∀ v, .write 3#5 v ∉ s.controls) → (s.endCycle issues seq).icrPend = 0#12)

/-- Reserved bits of the control registers read as 0, and what MVC writes to them has no effect. Rules: R33. -/
def Obligations.ReservedControlBits : Prop :=
  (∀ (s : State) (o : MvcRead) (v : Nat), controlValue s o.creg.toNat = some v → s.holds o.cond = true →
    BitVec.ofNat 32 v &&& reservedBits o.creg.toNat = 0#32 ∧
    exec (.mvcRead o) s = .next (queue s [lands .b o.dst 0 (BitVec.ofNat 32 v)])) ∧
  (∀ (s : State) (a : BitVec 5) (v w : Word), (v ^^^ w) &&& ~~~reservedForWrite a.toNat = 0#32 →
    s.applyControl (.write a v) = s.applyControl (.write a w))

/-- MVC to AMR, CSR, IER, ISTP, IRP, NRP or a configuration register, B IRP and B NRP change exactly their fields at
the end of the cycle; else these stay. SAT on a written 1 is the device's parameter (log entry 24), the power-down
entry decision D21 (log entry 26), the free mode after a reserved PWRD the model's form for
93_implementation_defined.md U7 (log entry 14), the order of warnings decision D7 (log entry 27). Rules: R32, R34,
R37, R41, R44, R49, R55, R56, R64, R70, R393, R394. -/
def Obligations.ControlWritesLand : Prop :=
  ∀ (s : State) (issues : List Issue) (seq : Word) (v : Word) (b : State),
    b = ({ s with controls := [] } : State).endCycle issues seq →
    (s.controls = [] → s.endCycle issues seq = b) ∧
    (b.device = s.device ∧ b.amr = s.amr ∧ b.ie = s.ie ∧ b.istb = s.istb ∧ b.irp = s.irp ∧ b.nrp = s.nrp ∧
      b.gie = s.gie ∧ b.pgie = s.pgie ∧ b.pcc = s.pcc ∧ b.dcc = s.dcc ∧ b.pmem = s.pmem) ∧
    (b.powerDown = s.powerDown ∧ b.pwrd = s.pwrd ∨ s.powerDown = some .pd1Any ∧ b.powerDown = none ∧
      b.pwrd = if s.device.pwrdClearedOnWake then 0#6 else s.pwrd) ∧
    (s.controls = [.restoreGie] → s.endCycle issues seq = { b with gie := s.pgie }) ∧
    (s.controls = [.setNmie] → s.endCycle issues seq = { b with nmie := true }) ∧
    (s.controls = [.write 0#5 v] → s.endCycle issues seq = { b with amr := BitVec.ofNat 26 v.toNat }) ∧
    (s.controls = [.write 1#5 v] → s.endCycle issues seq = csrWritten s b v (entersMode s v)) ∧
    (∀ m, entersMode s v = none → s.controls = [.write 1#5 v, .enterPower m] →
      s.endCycle issues seq = csrWritten s b v m) ∧
    (s.controls = [.write 4#5 v] → s.endCycle issues seq =
      { b with ie := BitVec.ofNat 12 (v.toNat / 2 ^ 4), nmie := s.nmie || v.getLsbD 1 }) ∧
    (s.controls = [.write 5#5 v] → s.endCycle issues seq = { b with istb := BitVec.ofNat 22 (v.toNat / 2 ^ 10) }) ∧
    (s.controls = [.write 6#5 v] → s.endCycle issues seq = { b with irp := v }) ∧
    (s.controls = [.write 7#5 v] → s.endCycle issues seq = { b with nrp := v }) ∧
    (∀ r, s.controls = [.write (configAddress r) v] → s.endCycle issues seq = setConfig b r
      ⟨BitVec.ofNat 11 v.toNat ||| dueBits s r .a, BitVec.ofNat 11 (v.toNat / 2 ^ 16) ||| dueBits s r .b⟩)

/-- NMIE: 0 after reset, set only by B NRP or a written 1, cleared only by reset and NMI, and required for every
interrupt. Rules: R50. -/
def Obligations.NmieRule : Prop :=
  (State.reset.nmie = false) ∧
  (∀ s : State, s.warmReset.nmie = false) ∧
  (∀ (s : State) (issues : List Issue) (seq : Word),
    (s.controls = [] → (s.endCycle issues seq).nmie = s.nmie) ∧
    (∀ v, s.controls = [.write 4#5 v] → (s.endCycle issues seq).nmie = (s.nmie || v.getLsbD 1)) ∧
    (∀ a v, a ≠ 4#5 → s.controls = [.write a v] → (s.endCycle issues seq).nmie = s.nmie) ∧
    (s.controls = [.setNmie] → (s.endCycle issues seq).nmie = true) ∧
    (s.controls = [.restoreGie] → (s.endCycle issues seq).nmie = s.nmie)) ∧
  (∀ (c : Cond) (s : State), s.holds c = true → ∃ t, exec (.bNrp c) s = .next t ∧
    t.controls = s.controls ++ [.setNmie]) ∧
  (∀ s : State, (s.takeInterrupt 1).nmie = false) ∧
  (∀ s : State, s.nmie = false → s.interruptToTake = none) ∧
  (∀ (s : State) (n : Nat), n ≠ 1 → (s.takeInterrupt n).nmie = s.nmie) ∧
  (∀ (s : State) (issues : List Issue) (seq v : Word) (m : Option PowerMode),
    s.controls = [.write 1#5 v, .enterPower m] → (s.endCycle issues seq).nmie = s.nmie)

/-- Interrupt n is taken exactly when it is pending, enabled, first in priority, and no branch issued in the last five
cycles. The branch condition is the spec's decision D20 (log entry 25). Rules: R485, R490, R491, R495, R525. -/
def Obligations.InterruptConditions : Prop :=
  (∀ (s : State) (n : Nat), s.interruptToTake = some n ↔
    NoBranchNear s ∧ s.powerDown ≠ some .pd2 ∧ s.powerDown ≠ some .pd3 ∧ FirstToTake s n) ∧
  (∀ (s : State) (n : Nat), s.input.reset = false → s.emptyLeft = 0 → s.interruptToTake = some n →
    step s = .next ((s.takeInterrupt n).endCycle [] s.pc))

/-- Taking an interrupt saves pc, changes the enables and the flag, and after seven empty cycles runs the service
fetch packet. The timing is the spec's decision D20 (log entry 25). Rules: R486, R497, R54, R56, R55, R44. -/
def Obligations.InterruptEntry : Prop :=
  ∀ (s : State) (n : Nat), s.emptyLeft = 0 → s.interruptToTake = some n → s.branches = [] → s.controls = [] →
    (∀ c ∈ s.inputs.take 7, c.reset = false) →
    (∃ t, step s = .next t ∧ t.nopLeft = 0 ∧ t.idle = false ∧ t.powerDown = none ∧
      (s.device.externalWriters = false → t.mem = s.mem) ∧
      (n = 1 → t.nrp = s.pc ∧ t.irp = s.irp ∧ t.nmie = false ∧ t.gie = s.gie ∧ t.pgie = s.pgie ∧
        t.nmif = s.input.nmi) ∧
      (n ≠ 1 → t.irp = s.pc ∧ t.nrp = s.nrp ∧ t.pgie = s.gie ∧ t.gie = false ∧ t.nmie = s.nmie ∧
        t.ifl.getLsbD (n - 4) = (s.input.ints.getLsbD (n - 4) || s.isrPend.getLsbD (n - 4)))) ∧
    ∃ u, s.after 7 = some u ∧ u.pc = word (s.istb.toNat * 2 ^ 10 + 32 * n : Nat) ∧ u.emptyLeft = 0 ∧ u.branches = [] ∧
      u.nopLeft = 0 ∧ u.idle = false ∧ u.powerDown = none ∧
      (s.device.externalWriters = false → u.mem = s.mem)

/-- NOP n asks for n - 1 further cycles and IDLE for the idle state; both wait without issuing until a branch ends
them. Rules: R395, R396, R390. -/
def Obligations.WaitingCycles : Prop :=
  (∀ (k : BitVec 3) (s : State), exec (.nop k) s = .next { s with nopLeft := max s.nopLeft k.toNat }) ∧
  (∀ s : State, exec .nop9 s = .next { s with nopLeft := max s.nopLeft 8 }) ∧
  (∀ s : State, exec .idle s = .next { s with idle := true }) ∧
  (∀ (s : State) (n : Nat), Waits s → s.nopLeft = n + 1 → s.controls = [] →
    ∃ t, step s = .next t ∧ (s.device.externalWriters = false → t.mem = s.mem) ∧ t.history.head? = some [] ∧
      (NoBranchLands s → t.pc = s.pc ∧ t.nopLeft = n ∧ t.idle = s.idle) ∧
      (∀ a, BranchLands s a → t.pc = a ∧ t.nopLeft = 0 ∧ t.idle = false)) ∧
  (∀ s : State, Waits s → s.nopLeft = 0 → s.idle = true → s.controls = [] →
    ∃ t, step s = .next t ∧ (s.device.externalWriters = false → t.mem = s.mem) ∧ t.history.head? = some [] ∧
      (NoBranchLands s → t.pc = s.pc ∧ t.nopLeft = 0 ∧ t.idle = true) ∧
      (∀ a, BranchLands s a → t.pc = a ∧ t.nopLeft = 0 ∧ t.idle = false))

/-- A branch counts down every cycle; the one that lands replaces the sequential pc, and nothing cancels a pending
one. The free pc is the model's form for 93_implementation_defined.md U10 and U17 (log entry 17). Rules: R390, R176,
R27. -/
def Obligations.BranchLanding : Prop :=
  ∀ (s : State) (issues : List Issue) (seq : Word),
    (∀ b ∈ s.branches, ∀ k, b.left = k + 1 → ⟨b.target, k⟩ ∈ (s.endCycle issues seq).branches) ∧
    (∀ b ∈ (s.endCycle issues seq).branches, ⟨b.target, b.left + 1⟩ ∈ s.branches) ∧
    (∀ a, BranchLands s a → (s.endCycle issues seq).pc = a) ∧
    (NoBranchLands s → (s.endCycle issues seq).pc = seq) ∧
    (¬ NoBranchLands s → (s.endCycle issues seq).pc.toNat % 4 = 0)

/-- Every step keeps the record of branches: each one in flight issued in the last five cycles, or belongs to an
interrupt entry. Rules: R390, R495, R497. -/
def Obligations.StepKeepsBranchesRecorded : Prop :=
  ∀ s t : State, BranchesRecorded s → step s = .next t → BranchesRecorded t

/-- No interrupt is taken while a branch is pending. Rules: R390, R495. -/
def Obligations.NoInterruptWhileBranchPending : Prop :=
  (BranchesRecorded State.reset) ∧
  (∀ (s : State) (n : Nat), BranchesRecorded s → s.emptyLeft = 0 → s.interruptToTake = some n → s.branches = [])

/-- A legal nonzero PWRD enters power-down where supported; it ends by the wake-up its value names. Decision D21 of
the spec; that the MVC's own cycle does not wake is the model's choice (log entry 26). Rules: R40, R525, R498. -/
def Obligations.PowerDown : Prop :=
  (∀ (s : State) (issues : List Issue) (seq v : Word) (n : Nat) (m : PowerMode), s.controls = [.write 1#5 v] →
    v.toNat / 2 ^ 10 % 64 = n → (n, m) ∈ [(9, .pd1Enabled), (17, .pd1Any), (26, .pd2), (28, .pd3)] →
    (s.device.pwrdSupported = true → (s.endCycle issues seq).powerDown = some m) ∧
    (s.device.pwrdSupported = false → s.powerDown = none → (s.endCycle issues seq).powerDown = none)) ∧
  (∀ (s : State) (m : PowerMode), s.powerDown = some m → s.input.reset = false → s.emptyLeft = 0 → s.controls = [] →
    s.interruptToTake = none → ∃ t, step s = .next t ∧ (s.device.externalWriters = false →
      t.mem = s.mem) ∧ t.history.head? = some [] ∧
      (NoBranchLands s → t.pc = s.pc) ∧ (m ≠ .pd1Any → t.powerDown = some m) ∧
      (t.powerDown = some m → t.pwrd = s.pwrd) ∧
      (t.powerDown = none → t.pwrd = if s.device.pwrdClearedOnWake then 0#6 else s.pwrd) ∧
      (m = .pd1Any → (t.powerDown = none ↔
        (∃ k < 12, t.ifl.getLsbD k = true ∧ s.ifl.getLsbD k = false) ∨ (t.nmif = true ∧ s.nmif = false)))) ∧
  (∀ s : State, s.powerDown = some .pd2 ∨ s.powerDown = some .pd3 → s.interruptToTake = none) ∧
  (∀ (s : State) (n : Nat), (s.takeInterrupt n).powerDown = none ∧ (s.takeInterrupt n).pwrd =
    if s.powerDown.isSome ∧ s.device.pwrdClearedOnWake = true then 0#6 else s.pwrd)

/-- After reset: pc and ISTP 0, interrupts disabled and clear, linear addressing, nothing in flight. That nothing is
in flight after reset is the spec's decision D15 (R543: D0 does not say this). Rules: R541, R542, R543, R544, R545. -/
def Obligations.ResetValues : Prop :=
  State.reset.pc = 0#32 ∧
  (∀ a ∈ [0, 2, 5, 18, 19, 20], controlValue State.reset a = some 0) ∧ controlValue State.reset 4 = some 1 ∧
  controlValue State.reset 1 = some (State.reset.device.variant.cpuId.toNat * 2 ^ 24 +
    State.reset.device.revisionId.toNat * 2 ^ 16 + State.reset.device.endian.enBit.toNat * 2 ^ 8) ∧
  State.reset.writes = [] ∧ State.reset.sats = [] ∧ State.reset.warns = [] ∧ State.reset.branches = [] ∧
  State.reset.controls = [] ∧ State.reset.isrPend = 0#12 ∧ State.reset.icrPend = 0#12 ∧ State.reset.history = [] ∧
  State.reset.nopLeft = 0 ∧ State.reset.idle = false ∧ State.reset.powerDown = none ∧ State.reset.emptyLeft = 0 ∧
  State.reset.interruptToTake = none

/-- A reset input brings every state to the reset state, except registers, IRP, NRP, memory, the device and the inputs
to come. The free register values are the model's (log entry 22); that the hidden state is empty is decision D15.
Rules: R498, R541, R543, R544. -/
def Obligations.ResetInput : Prop :=
  ∀ s : State, s.input.reset = true → ∃ t, step s = .next t ∧
    t = { State.reset with
      device := s.device, mem := t.mem, pmem := s.pmem, codeStores := t.codeStores, inputs := s.inputs.tail,
      fileA := t.fileA, fileB := t.fileB, irp := t.irp, nrp := t.nrp, free := t.free } ∧
    (s.device.externalWriters = false → t.mem = s.mem ∧ t.codeStores = s.codeStores)

/-- The reset state meets the invariant of Safety.lean. Rules: R27, R78. -/
def Obligations.ResetInvariant : Prop :=
  State.reset.Inv

/-- Every step keeps the invariant: canonical memories, aligned pc, and every countdown within its bound. Rules: R27,
R32, R76, R173, R390, R395, R497. -/
def Obligations.StepKeepsInvariant : Prop :=
  ∀ s t : State, s.Inv → step s = .next t → t.Inv

/-- Decoding an encoded instruction gives it back, for every instruction that has an encoding and every operand.
Rules: R130, R135, R136, R137, R138, R139, R140, R141, R144, R148, R149, R165. -/
def Obligations.DecodeEncode : Prop :=
  (∀ (p : Bool) (i : Instr) (w : Word), encode p i = some w → decode w = .ok i.expand ∧ pBit w = p) ∧
  (∀ (p : Bool) (i : Instr), (encode p i).isSome = true ∨
    ∃ o q r, i = .addspS o ∨ i = .adddpS q ∨ i = .subspS ⟨o, r⟩ ∨ i = .subdpS ⟨q, r⟩)

/-- Words written out in the spec decode to the instructions the spec gives for them. Rules: R135, R136, R138, R140,
R141, R146, R147. -/
def Obligations.DecodeWords : Prop :=
  decode 0x02840358#32 = .ok (.abs ⟨.always, .a, false, 1#5, 5#5⟩) ∧
  decode 0x01882218#32 = .ok (.addspL ⟨.always, .a, false, 1#5, 2#5, 3#5⟩) ∧
  decode 0x01000B20#32 = .ok (.absdp ⟨.always, .a, 0#4, 1#4⟩) ∧
  decode 0x01882C80#32 = .ok (.mpy ⟨.always, .a, false, 1#5, 2#5, 3#5⟩) ∧
  decode 0x00913264#32 = .ok (.ldw ⟨.always, .a, .a, .preInc, 4#5, .cst 9#5, 1#5⟩) ∧
  decode 0x0080416E#32 = .ok (.ldwK ⟨.always, .b, false, 65#15, 1#5⟩) ∧
  decode 0x00A80234#32 = .ok (.stb ⟨.always, .a, .a, .posOffset, 10#5, .cst 0#5, 1#5⟩) ∧
  decode 0x000C0362#32 = .ok (.bReg ⟨.always, false, 3#5⟩) ∧
  decode 0x001800E2#32 = .ok (.bIrp .always) ∧
  decode 0x001C00E2#32 = .ok (.bNrp .always) ∧
  decode 0x01883E60#32 = .ok (.cmpgtsp ⟨.always, .a, true, 1#5, 2#5, 3#5⟩) ∧
  decode 0x00008000#32 = .ok (.nop 4#3) ∧
  decode 0x0001E000#32 = .ok .idle

/-- Sums and products of NaNs, infinities, zeros and denormals, and exact sums and products of normal numbers before
rounding. That an infinity with a denormal raises DENn without INEX is the reading of log entry 27. Rules: R180, R404,
R408, R409, R412, R416, R430. -/
def Obligations.FloatOperandClasses : Prop :=
  ∀ f ∈ [single, double], ∀ m : FpMode,
    (∀ a b : Fp, IsNan a ∨ IsNan b → addFp f m a b = ⟨nanOut f false, nanBits a b⟩ ∧
      mulFp f m a b = ⟨nanOut f (a.neg ^^ b.neg), nanBits a b⟩) ∧
    (∀ x : Bool, addFp f m (.inf x) (.inf !x) = ⟨nanOut f false, inval⟩ ∧
      addFp f m (.inf x) (.inf x) = ⟨infinity f x, info⟩ ∧ addFp f m (.zero x) (.zero x) = ⟨pattern f x 0 0, 0#11⟩ ∧
      addFp f m (.zero x) (.zero !x) = ⟨pattern f (m.rm == 3#2) 0 0, 0#11⟩) ∧
    (∀ (x : Bool) (b : Fp), Finite b →
      addFp f m (.inf x) b = ⟨infinity f x, info ||| (denBits (.inf x) b &&& den2)⟩ ∧
      addFp f m b (.inf x) = ⟨infinity f x, info ||| (denBits b (.inf x) &&& den1)⟩) ∧
    (∀ a b : Fp, Finite a → Finite b → addFp f m a b =
      ⟨(addFp f m (flushed a) (flushed b)).bits, (addFp f m (flushed a) (flushed b)).warn ||| denBits a b⟩) ∧
    (∀ (x y : Bool) (k : Nat) (e : Int), 0 < k →
      addFp f m (.zero x) (.normal y k e) = roundPack f m y k e ∧
      addFp f m (.normal y k e) (.zero x) = roundPack f m y k e) ∧
    (∀ x y : Bool, mulFp f m (.inf x) (.zero y) = ⟨nanOut f (x ^^ y), inval⟩ ∧
      mulFp f m (.zero x) (.inf y) = ⟨nanOut f (x ^^ y), inval⟩ ∧
      mulFp f m (.inf x) (.denormal y) = ⟨nanOut f (x ^^ y), inval ||| den2⟩ ∧
      mulFp f m (.denormal x) (.inf y) = ⟨nanOut f (x ^^ y), inval ||| den1⟩ ∧
      mulFp f m (.inf x) (.inf y) = ⟨infinity f (x ^^ y), info⟩) ∧
    (∀ (x y : Bool) (k : Nat) (e : Int), mulFp f m (.inf x) (.normal y k e) = ⟨infinity f (x ^^ y), info⟩ ∧
      mulFp f m (.normal x k e) (.inf y) = ⟨infinity f (x ^^ y), info⟩) ∧
    (∀ (x : Bool) (a b : Fp), Finite a → Finite b → (flushed a = .zero x ∨ flushed b = .zero x) →
      mulFp f m a b = ⟨pattern f (a.neg ^^ b.neg) 0 0, denBits a b⟩) ∧
    (∀ a b : Fp, subFp f m a b = addFp f m a (inverted b) ∧
      (addFp f m (inverted a) b).bits = (subFp f m b a).bits ∧
      (addFp f m (inverted a) b).warn = exchanged (subFp f m b a).warn) ∧
    (∀ (x y : Bool) (k l : Nat) (d e : Int), 0 < k → 0 < l →
      (signed x k d + signed y l e = 0 →
        addFp f m (.normal x k d) (.normal y l e) = ⟨pattern f (m.rm == 3#2) 0 0, 0#11⟩) ∧
      (signed x k d + signed y l e ≠ 0 → ∃ man exp, 0 < man ∧
        signed (decide (signed x k d + signed y l e < 0)) man exp = signed x k d + signed y l e ∧
        addFp f m (.normal x k d) (.normal y l e) =
          roundPack f m (decide (signed x k d + signed y l e < 0)) man exp) ∧
      mulFp f m (.normal x k d) (.normal y l e) = roundPack f m (x ^^ y) (k * l) (d + e))

/-- round_pack: the exact value is rounded once by RMODE, with the overflow and underflow results and their warning
bits. The tie, tiny and INFO rules are the spec's open parameters (log entry 28). Rules: R405, R410, R411. -/
def Obligations.FloatRounding : Prop :=
  ∀ f ∈ [single, double], ∀ (m : FpMode) (neg : Bool) (man : Nat) (exp : Int), 0 < man →
    Rounded f m neg (man * pow2 exp) (roundPack f m neg man exp)

/-- No floating-point result is a denormal or another NaN, INEX never comes with INVAL, and exactly one relation holds
of two numbers. Rules: R440, R450, R470. -/
def Obligations.FloatLaws : Prop :=
  (∀ f ∈ [single, double], ∀ (m : FpMode) (a b : Fp), ∀ r ∈ [addFp f m a b, subFp f m a b, mulFp f m a b], Clean f r)
    ∧
  (∀ f ∈ [single, double], ∀ (m : FpMode) (a : Fp) (v : Int), ∀ r ∈ [convertFp f m a, fromInt f m v], Clean f r) ∧
  (∀ f ∈ [single, double], ∀ table b : Nat,
    ∀ r ∈ [absFp f (unpack f b) b, rcpFp f table (unpack f b), rsqrFp f table (unpack f b)], Clean f r) ∧
  (∀ (m : FpMode) (a b : Fp) (rel : FpRelation), ∀ w ∈ [(toInt32 m a).warn, (relateFp rel a b).2],
    ¬ (w &&& inex ≠ 0#11 ∧ w &&& inval ≠ 0#11)) ∧
  (∀ a b : Fp, ¬ IsNan a → ¬ IsNan b →
    [(relateFp .less a b).1, (relateFp .equal a b).1, (relateFp .greater a b).1].count true = 1 ∧
    ∀ rel, (relateFp rel a b).2 &&& (inval ||| unord) = 0#11) ∧
  (∀ a b : Fp, (relateFp .greater a b).1 = (relateFp .less b a).1) ∧
  (∀ (a b : Fp) (rel : FpRelation), IsNan a ∨ IsNan b →
    (relateFp rel a b).1 = false ∧ (relateFp rel a b).2 &&& unord ≠ 0#11)

/-- Conversions there and back: INTDP then DPINT, INTSP then SPTRUNC up to 2^24, SPDP then DPSP. Rules: R458, R463,
R465, R467, R461, R469, R470. -/
def Obligations.ConversionLaws : Prop :=
  (∀ (m k : FpMode) (n : Int), -2 ^ 31 ≤ n → n < 2 ^ 31 → (fromInt double m n).warn = 0#11 ∧
    toInt32 k (unpack double (fromInt double m n).bits) = ⟨(word n).toNat, 0#11⟩) ∧
  (∀ (m k : FpMode) (n : Int), -2 ^ 24 ≤ n → n ≤ 2 ^ 24 → (fromInt single m n).warn = 0#11 ∧
    toInt32 k (unpack single (fromInt single m n).bits) = ⟨(word n).toNat, 0#11⟩) ∧
  (∀ (m k : FpMode) (b : Word), (b.toNat / 2 ^ 23 % 256 ≠ 0 ∨ b.toNat % 2 ^ 23 = 0) → b.toNat / 2 ^ 23 % 256 ≠ 255 →
    (convertFp double m (unpack single b.toNat)).warn = 0#11 ∧
    convertFp single k (unpack double (convertFp double m (unpack single b.toNat)).bits) = ⟨b.toNat, 0#11⟩) ∧
  (∀ (m k : FpMode) (b : Word), b.toNat % 2 ^ 31 = 0x7F800000 →
    convertFp single k (unpack double (convertFp double m (unpack single b.toNat)).bits) = ⟨b.toNat, info⟩)

/-- Conversions by class of the source: float to integer with its limits, integer to float rounded once, and one
format to the other. The tie rule is the spec's open parameter (log entry 28). Rules: R458, R461, R463, R464, R465,
R466, R467. -/
def Obligations.ConversionValues : Prop :=
  (∀ (m : FpMode) (n q : Bool),
    toInt32 m (.nan n q) = ⟨if n then 0x80000000 else 0x7FFFFFFF, inval ||| nan2⟩ ∧
    toInt32 m (.inf n) = ⟨if n then 0x80000000 else 0x7FFFFFFF, inex ||| overBit⟩ ∧
    toInt32 m (.denormal n) = ⟨0, inex ||| den2⟩ ∧ toInt32 m (.zero n) = ⟨0, 0#11⟩) ∧
  (∀ (m : FpMode) (n : Bool) (man : Nat) (exp : Int), 0 < man → ∃ v : Int, RoundsToInt m (signed n man exp) v ∧
    toInt32 m (.normal n man exp) =
      if 2 ^ 31 - 1 < v then ⟨0x7FFFFFFF, inex ||| overBit⟩
      else if v < -2 ^ 31 then ⟨0x80000000, inex ||| overBit⟩
      else ⟨(word v).toNat, bitIf (decide ((v : ℚ) ≠ signed n man exp)) inex⟩) ∧
  (∀ f ∈ [single, double], ∀ (m : FpMode) (v : Int),
    (v = 0 → fromInt f m v = ⟨0, 0#11⟩) ∧ (v ≠ 0 → Rounded f m (decide (v < 0)) |(v : ℚ)| (fromInt f m v))) ∧
  (∀ f ∈ [single, double], ∀ (m : FpMode) (n q : Bool),
    convertFp f m (.nan n q) = ⟨nanOut f false, nanBits2 q⟩ ∧ convertFp f m (.inf n) = ⟨infinity f n, info⟩ ∧
    convertFp f m (.denormal n) = ⟨pattern f n 0 0, inex ||| den2⟩ ∧ convertFp f m (.zero n) =
      ⟨pattern f n 0 0, 0#11⟩ ∧
    ∀ (man : Nat) (exp : Int), 0 < man → Rounded f m n (man * pow2 exp) (convertFp f m (.normal n man exp))) ∧
  (∀ (m : FpMode) (n : Bool) (e frac : Nat), 1 ≤ e → e ≤ 254 → frac < 2 ^ 23 →
    convertFp double m (unpack single (pattern single n e frac)) = ⟨pattern double n (e + 896) (frac * 2 ^ 29), 0#11⟩)

/-- ABS, RCP and RSQR by class of the source; whatever the tables hold, RCP and RSQR of a normal number have eight
good bits. That ABSDP of -0 is +0 is the model's reading of R435 (log entry 43). The tables are the spec's open
parameters (log entry 29). Rules: R409, R434, R435, R436, R437, R438, R439. -/
def Obligations.SingleSourceValues : Prop :=
  (∀ f ∈ [single, double], ∀ (table b : Nat) (neg : Bool) (man : Nat) (exp : Int), unpack f b = .normal neg man exp →
    ((man : ℚ) * pow2 exp ≤ pow2 (maxExp f - 1) → (rcpFp f table (unpack f b)).warn = 0#11 ∧
      ∃ k e, unpack f (rcpFp f table (unpack f b)).bits = .normal neg k e ∧
        |(man : ℚ) * pow2 exp * ((k : ℚ) * pow2 e) - 1| < 1 / 2 ^ 8) ∧
    (pow2 (maxExp f - 1) < (man : ℚ) * pow2 exp →
      rcpFp f table (unpack f b) = ⟨pattern f neg 0 0, under ||| inex⟩) ∧
    (neg = false → (rsqrFp f table (unpack f b)).warn = 0#11 ∧
      ∃ k e, unpack f (rsqrFp f table (unpack f b)).bits = .normal false k e ∧
        (255 / 256 : ℚ) ^ 2 < ((k : ℚ) * pow2 e) ^ 2 * ((man : ℚ) * pow2 exp) ∧
        ((k : ℚ) * pow2 e) ^ 2 * ((man : ℚ) * pow2 exp) < (257 / 256 : ℚ) ^ 2)) ∧
  (∀ f ∈ [single, double], ∀ (n q : Bool) (b : Nat),
    absFp f (.nan n q) b = ⟨nanOut f false, nanBits2 q⟩ ∧ absFp f (.inf n) b = ⟨infinity f false, info⟩ ∧
    absFp f (.denormal n) b = ⟨0, inex ||| den2⟩) ∧
  (∀ f ∈ [single, double], ∀ (n : Bool) (e frac : Nat), e < 2 ^ f.expBits - 1 → frac < 2 ^ f.fracBits →
    (e = 0 → frac = 0) →
    absFp f (unpack f (pattern f n e frac)) (pattern f n e frac) = ⟨pattern f false e frac, 0#11⟩) ∧
  (∀ f ∈ [single, double], ∀ (table : Nat) (n q : Bool),
    rcpFp f table (.nan n q) = ⟨nanOut f false, nanBits2 q⟩ ∧ rsqrFp f table (.nan n q) =
      ⟨nanOut f false, nanBits2 q⟩ ∧
    rcpFp f table (.zero n) = ⟨infinity f n, div0 ||| info⟩ ∧ rsqrFp f table (.zero n) =
      ⟨infinity f n, div0 ||| info⟩ ∧
    rcpFp f table (.denormal n) = ⟨infinity f n, div0 ||| info ||| overBit ||| inex ||| den2⟩ ∧
    rsqrFp f table (.denormal n) = ⟨infinity f n, div0 ||| info ||| overBit ||| inex ||| den2⟩ ∧
    rcpFp f table (.inf n) = ⟨pattern f n 0 0, 0#11⟩ ∧ rsqrFp f table (.inf false) = ⟨pattern f false 0 0, 0#11⟩ ∧
    rsqrFp f table (.inf true) = ⟨nanOut f false, inval⟩) ∧
  (∀ f ∈ [single, double], ∀ (table man : Nat) (exp : Int),
    rsqrFp f table (.normal true man exp) = ⟨nanOut f false, inval⟩)

end
end

