-- ==== Sys2Proof/Laws/State.lean ====
section
/-! SUPPORT. What each named update of the state leaves in each field, so that no proof unfolds a record update. -/

namespace Sys2Proof.Machine

/-! `State.draw`. -/

@[simp] theorem State.draw_device (s : State) :
    s.draw.device = s.device := rfl
@[simp] theorem State.draw_fileA (s : State) :
    s.draw.fileA = s.fileA := rfl
@[simp] theorem State.draw_fileB (s : State) :
    s.draw.fileB = s.fileB := rfl
@[simp] theorem State.draw_pc (s : State) :
    s.draw.pc = s.pc := rfl
@[simp] theorem State.draw_amr (s : State) :
    s.draw.amr = s.amr := rfl
@[simp] theorem State.draw_pwrd (s : State) :
    s.draw.pwrd = s.pwrd := rfl
@[simp] theorem State.draw_sat (s : State) :
    s.draw.sat = s.sat := rfl
@[simp] theorem State.draw_pcc (s : State) :
    s.draw.pcc = s.pcc := rfl
@[simp] theorem State.draw_dcc (s : State) :
    s.draw.dcc = s.dcc := rfl
@[simp] theorem State.draw_pgie (s : State) :
    s.draw.pgie = s.pgie := rfl
@[simp] theorem State.draw_gie (s : State) :
    s.draw.gie = s.gie := rfl
@[simp] theorem State.draw_ie (s : State) :
    s.draw.ie = s.ie := rfl
@[simp] theorem State.draw_nmie (s : State) :
    s.draw.nmie = s.nmie := rfl
@[simp] theorem State.draw_ifl (s : State) :
    s.draw.ifl = s.ifl := rfl
@[simp] theorem State.draw_nmif (s : State) :
    s.draw.nmif = s.nmif := rfl
@[simp] theorem State.draw_istb (s : State) :
    s.draw.istb = s.istb := rfl
@[simp] theorem State.draw_irp (s : State) :
    s.draw.irp = s.irp := rfl
@[simp] theorem State.draw_nrp (s : State) :
    s.draw.nrp = s.nrp := rfl
@[simp] theorem State.draw_fadcr (s : State) :
    s.draw.fadcr = s.fadcr := rfl
@[simp] theorem State.draw_faucr (s : State) :
    s.draw.faucr = s.faucr := rfl
@[simp] theorem State.draw_fmcr (s : State) :
    s.draw.fmcr = s.fmcr := rfl
@[simp] theorem State.draw_writes (s : State) :
    s.draw.writes = s.writes := rfl
@[simp] theorem State.draw_sats (s : State) :
    s.draw.sats = s.sats := rfl
@[simp] theorem State.draw_warns (s : State) :
    s.draw.warns = s.warns := rfl
@[simp] theorem State.draw_branches (s : State) :
    s.draw.branches = s.branches := rfl
@[simp] theorem State.draw_controls (s : State) :
    s.draw.controls = s.controls := rfl
@[simp] theorem State.draw_isrPend (s : State) :
    s.draw.isrPend = s.isrPend := rfl
@[simp] theorem State.draw_icrPend (s : State) :
    s.draw.icrPend = s.icrPend := rfl
@[simp] theorem State.draw_history (s : State) :
    s.draw.history = s.history := rfl
@[simp] theorem State.draw_nopLeft (s : State) :
    s.draw.nopLeft = s.nopLeft := rfl
@[simp] theorem State.draw_idle (s : State) :
    s.draw.idle = s.idle := rfl
@[simp] theorem State.draw_powerDown (s : State) :
    s.draw.powerDown = s.powerDown := rfl
@[simp] theorem State.draw_emptyLeft (s : State) :
    s.draw.emptyLeft = s.emptyLeft := rfl
@[simp] theorem State.draw_inputs (s : State) :
    s.draw.inputs = s.inputs := rfl
@[simp] theorem State.draw_mem (s : State) :
    s.draw.mem = s.mem := rfl
@[simp] theorem State.draw_pmem (s : State) :
    s.draw.pmem = s.pmem := rfl
@[simp] theorem State.draw_stored (s : State) :
    s.draw.stored = s.stored := rfl
@[simp] theorem State.draw_codeStores (s : State) :
    s.draw.codeStores = s.codeStores := rfl
@[simp] theorem State.draw_free (s : State) :
    s.draw.free = s.free + 1 := rfl

/-! `State.putWord`. -/

@[simp] theorem State.putWord_device (s : State) (side : Side) (dst : Reg) (left : Nat) (v : Word) :
    (s.putWord side dst left v).device = s.device := rfl
@[simp] theorem State.putWord_fileA (s : State) (side : Side) (dst : Reg) (left : Nat) (v : Word) :
    (s.putWord side dst left v).fileA = s.fileA := rfl
@[simp] theorem State.putWord_fileB (s : State) (side : Side) (dst : Reg) (left : Nat) (v : Word) :
    (s.putWord side dst left v).fileB = s.fileB := rfl
@[simp] theorem State.putWord_pc (s : State) (side : Side) (dst : Reg) (left : Nat) (v : Word) :
    (s.putWord side dst left v).pc = s.pc := rfl
@[simp] theorem State.putWord_amr (s : State) (side : Side) (dst : Reg) (left : Nat) (v : Word) :
    (s.putWord side dst left v).amr = s.amr := rfl
@[simp] theorem State.putWord_pwrd (s : State) (side : Side) (dst : Reg) (left : Nat) (v : Word) :
    (s.putWord side dst left v).pwrd = s.pwrd := rfl
@[simp] theorem State.putWord_sat (s : State) (side : Side) (dst : Reg) (left : Nat) (v : Word) :
    (s.putWord side dst left v).sat = s.sat := rfl
@[simp] theorem State.putWord_pcc (s : State) (side : Side) (dst : Reg) (left : Nat) (v : Word) :
    (s.putWord side dst left v).pcc = s.pcc := rfl
@[simp] theorem State.putWord_dcc (s : State) (side : Side) (dst : Reg) (left : Nat) (v : Word) :
    (s.putWord side dst left v).dcc = s.dcc := rfl
@[simp] theorem State.putWord_pgie (s : State) (side : Side) (dst : Reg) (left : Nat) (v : Word) :
    (s.putWord side dst left v).pgie = s.pgie := rfl
@[simp] theorem State.putWord_gie (s : State) (side : Side) (dst : Reg) (left : Nat) (v : Word) :
    (s.putWord side dst left v).gie = s.gie := rfl
@[simp] theorem State.putWord_ie (s : State) (side : Side) (dst : Reg) (left : Nat) (v : Word) :
    (s.putWord side dst left v).ie = s.ie := rfl
@[simp] theorem State.putWord_nmie (s : State) (side : Side) (dst : Reg) (left : Nat) (v : Word) :
    (s.putWord side dst left v).nmie = s.nmie := rfl
@[simp] theorem State.putWord_ifl (s : State) (side : Side) (dst : Reg) (left : Nat) (v : Word) :
    (s.putWord side dst left v).ifl = s.ifl := rfl
@[simp] theorem State.putWord_nmif (s : State) (side : Side) (dst : Reg) (left : Nat) (v : Word) :
    (s.putWord side dst left v).nmif = s.nmif := rfl
@[simp] theorem State.putWord_istb (s : State) (side : Side) (dst : Reg) (left : Nat) (v : Word) :
    (s.putWord side dst left v).istb = s.istb := rfl
@[simp] theorem State.putWord_irp (s : State) (side : Side) (dst : Reg) (left : Nat) (v : Word) :
    (s.putWord side dst left v).irp = s.irp := rfl
@[simp] theorem State.putWord_nrp (s : State) (side : Side) (dst : Reg) (left : Nat) (v : Word) :
    (s.putWord side dst left v).nrp = s.nrp := rfl
@[simp] theorem State.putWord_fadcr (s : State) (side : Side) (dst : Reg) (left : Nat) (v : Word) :
    (s.putWord side dst left v).fadcr = s.fadcr := rfl
@[simp] theorem State.putWord_faucr (s : State) (side : Side) (dst : Reg) (left : Nat) (v : Word) :
    (s.putWord side dst left v).faucr = s.faucr := rfl
@[simp] theorem State.putWord_fmcr (s : State) (side : Side) (dst : Reg) (left : Nat) (v : Word) :
    (s.putWord side dst left v).fmcr = s.fmcr := rfl
@[simp] theorem State.putWord_writes (s : State) (side : Side) (dst : Reg) (left : Nat) (v : Word) :
    (s.putWord side dst left v).writes = s.writes ++ [⟨⟨side, dst⟩, v, left, [], 0⟩] := rfl
@[simp] theorem State.putWord_sats (s : State) (side : Side) (dst : Reg) (left : Nat) (v : Word) :
    (s.putWord side dst left v).sats = s.sats := rfl
@[simp] theorem State.putWord_warns (s : State) (side : Side) (dst : Reg) (left : Nat) (v : Word) :
    (s.putWord side dst left v).warns = s.warns := rfl
@[simp] theorem State.putWord_branches (s : State) (side : Side) (dst : Reg) (left : Nat) (v : Word) :
    (s.putWord side dst left v).branches = s.branches := rfl
@[simp] theorem State.putWord_controls (s : State) (side : Side) (dst : Reg) (left : Nat) (v : Word) :
    (s.putWord side dst left v).controls = s.controls := rfl
@[simp] theorem State.putWord_isrPend (s : State) (side : Side) (dst : Reg) (left : Nat) (v : Word) :
    (s.putWord side dst left v).isrPend = s.isrPend := rfl
@[simp] theorem State.putWord_icrPend (s : State) (side : Side) (dst : Reg) (left : Nat) (v : Word) :
    (s.putWord side dst left v).icrPend = s.icrPend := rfl
@[simp] theorem State.putWord_history (s : State) (side : Side) (dst : Reg) (left : Nat) (v : Word) :
    (s.putWord side dst left v).history = s.history := rfl
@[simp] theorem State.putWord_nopLeft (s : State) (side : Side) (dst : Reg) (left : Nat) (v : Word) :
    (s.putWord side dst left v).nopLeft = s.nopLeft := rfl
@[simp] theorem State.putWord_idle (s : State) (side : Side) (dst : Reg) (left : Nat) (v : Word) :
    (s.putWord side dst left v).idle = s.idle := rfl
@[simp] theorem State.putWord_powerDown (s : State) (side : Side) (dst : Reg) (left : Nat) (v : Word) :
    (s.putWord side dst left v).powerDown = s.powerDown := rfl
@[simp] theorem State.putWord_emptyLeft (s : State) (side : Side) (dst : Reg) (left : Nat) (v : Word) :
    (s.putWord side dst left v).emptyLeft = s.emptyLeft := rfl
@[simp] theorem State.putWord_inputs (s : State) (side : Side) (dst : Reg) (left : Nat) (v : Word) :
    (s.putWord side dst left v).inputs = s.inputs := rfl
@[simp] theorem State.putWord_mem (s : State) (side : Side) (dst : Reg) (left : Nat) (v : Word) :
    (s.putWord side dst left v).mem = s.mem := rfl
@[simp] theorem State.putWord_pmem (s : State) (side : Side) (dst : Reg) (left : Nat) (v : Word) :
    (s.putWord side dst left v).pmem = s.pmem := rfl
@[simp] theorem State.putWord_stored (s : State) (side : Side) (dst : Reg) (left : Nat) (v : Word) :
    (s.putWord side dst left v).stored = s.stored := rfl
@[simp] theorem State.putWord_codeStores (s : State) (side : Side) (dst : Reg) (left : Nat) (v : Word) :
    (s.putWord side dst left v).codeStores = s.codeStores := rfl
@[simp] theorem State.putWord_free (s : State) (side : Side) (dst : Reg) (left : Nat) (v : Word) :
    (s.putWord side dst left v).free = s.free := rfl

/-! `State.putWatched`. -/

@[simp] theorem State.putWatched_device (s : State) (r : RegName) (left : Nat) (v : Word) (watch : List RegName) (n : Nat) :
    (s.putWatched r left v watch n).device = s.device := rfl
@[simp] theorem State.putWatched_fileA (s : State) (r : RegName) (left : Nat) (v : Word) (watch : List RegName) (n : Nat) :
    (s.putWatched r left v watch n).fileA = s.fileA := rfl
@[simp] theorem State.putWatched_fileB (s : State) (r : RegName) (left : Nat) (v : Word) (watch : List RegName) (n : Nat) :
    (s.putWatched r left v watch n).fileB = s.fileB := rfl
@[simp] theorem State.putWatched_pc (s : State) (r : RegName) (left : Nat) (v : Word) (watch : List RegName) (n : Nat) :
    (s.putWatched r left v watch n).pc = s.pc := rfl
@[simp] theorem State.putWatched_amr (s : State) (r : RegName) (left : Nat) (v : Word) (watch : List RegName) (n : Nat) :
    (s.putWatched r left v watch n).amr = s.amr := rfl
@[simp] theorem State.putWatched_pwrd (s : State) (r : RegName) (left : Nat) (v : Word) (watch : List RegName) (n : Nat) :
    (s.putWatched r left v watch n).pwrd = s.pwrd := rfl
@[simp] theorem State.putWatched_sat (s : State) (r : RegName) (left : Nat) (v : Word) (watch : List RegName) (n : Nat) :
    (s.putWatched r left v watch n).sat = s.sat := rfl
@[simp] theorem State.putWatched_pcc (s : State) (r : RegName) (left : Nat) (v : Word) (watch : List RegName) (n : Nat) :
    (s.putWatched r left v watch n).pcc = s.pcc := rfl
@[simp] theorem State.putWatched_dcc (s : State) (r : RegName) (left : Nat) (v : Word) (watch : List RegName) (n : Nat) :
    (s.putWatched r left v watch n).dcc = s.dcc := rfl
@[simp] theorem State.putWatched_pgie (s : State) (r : RegName) (left : Nat) (v : Word) (watch : List RegName) (n : Nat) :
    (s.putWatched r left v watch n).pgie = s.pgie := rfl
@[simp] theorem State.putWatched_gie (s : State) (r : RegName) (left : Nat) (v : Word) (watch : List RegName) (n : Nat) :
    (s.putWatched r left v watch n).gie = s.gie := rfl
@[simp] theorem State.putWatched_ie (s : State) (r : RegName) (left : Nat) (v : Word) (watch : List RegName) (n : Nat) :
    (s.putWatched r left v watch n).ie = s.ie := rfl
@[simp] theorem State.putWatched_nmie (s : State) (r : RegName) (left : Nat) (v : Word) (watch : List RegName) (n : Nat) :
    (s.putWatched r left v watch n).nmie = s.nmie := rfl
@[simp] theorem State.putWatched_ifl (s : State) (r : RegName) (left : Nat) (v : Word) (watch : List RegName) (n : Nat) :
    (s.putWatched r left v watch n).ifl = s.ifl := rfl
@[simp] theorem State.putWatched_nmif (s : State) (r : RegName) (left : Nat) (v : Word) (watch : List RegName) (n : Nat) :
    (s.putWatched r left v watch n).nmif = s.nmif := rfl
@[simp] theorem State.putWatched_istb (s : State) (r : RegName) (left : Nat) (v : Word) (watch : List RegName) (n : Nat) :
    (s.putWatched r left v watch n).istb = s.istb := rfl
@[simp] theorem State.putWatched_irp (s : State) (r : RegName) (left : Nat) (v : Word) (watch : List RegName) (n : Nat) :
    (s.putWatched r left v watch n).irp = s.irp := rfl
@[simp] theorem State.putWatched_nrp (s : State) (r : RegName) (left : Nat) (v : Word) (watch : List RegName) (n : Nat) :
    (s.putWatched r left v watch n).nrp = s.nrp := rfl
@[simp] theorem State.putWatched_fadcr (s : State) (r : RegName) (left : Nat) (v : Word) (watch : List RegName) (n : Nat) :
    (s.putWatched r left v watch n).fadcr = s.fadcr := rfl
@[simp] theorem State.putWatched_faucr (s : State) (r : RegName) (left : Nat) (v : Word) (watch : List RegName) (n : Nat) :
    (s.putWatched r left v watch n).faucr = s.faucr := rfl
@[simp] theorem State.putWatched_fmcr (s : State) (r : RegName) (left : Nat) (v : Word) (watch : List RegName) (n : Nat) :
    (s.putWatched r left v watch n).fmcr = s.fmcr := rfl
@[simp] theorem State.putWatched_writes (s : State) (r : RegName) (left : Nat) (v : Word) (watch : List RegName) (n : Nat) :
    (s.putWatched r left v watch n).writes = s.writes ++ [⟨r, v, left, watch, n⟩] := rfl
@[simp] theorem State.putWatched_sats (s : State) (r : RegName) (left : Nat) (v : Word) (watch : List RegName) (n : Nat) :
    (s.putWatched r left v watch n).sats = s.sats := rfl
@[simp] theorem State.putWatched_warns (s : State) (r : RegName) (left : Nat) (v : Word) (watch : List RegName) (n : Nat) :
    (s.putWatched r left v watch n).warns = s.warns := rfl
@[simp] theorem State.putWatched_branches (s : State) (r : RegName) (left : Nat) (v : Word) (watch : List RegName) (n : Nat) :
    (s.putWatched r left v watch n).branches = s.branches := rfl
@[simp] theorem State.putWatched_controls (s : State) (r : RegName) (left : Nat) (v : Word) (watch : List RegName) (n : Nat) :
    (s.putWatched r left v watch n).controls = s.controls := rfl
@[simp] theorem State.putWatched_isrPend (s : State) (r : RegName) (left : Nat) (v : Word) (watch : List RegName) (n : Nat) :
    (s.putWatched r left v watch n).isrPend = s.isrPend := rfl
@[simp] theorem State.putWatched_icrPend (s : State) (r : RegName) (left : Nat) (v : Word) (watch : List RegName) (n : Nat) :
    (s.putWatched r left v watch n).icrPend = s.icrPend := rfl
@[simp] theorem State.putWatched_history (s : State) (r : RegName) (left : Nat) (v : Word) (watch : List RegName) (n : Nat) :
    (s.putWatched r left v watch n).history = s.history := rfl
@[simp] theorem State.putWatched_nopLeft (s : State) (r : RegName) (left : Nat) (v : Word) (watch : List RegName) (n : Nat) :
    (s.putWatched r left v watch n).nopLeft = s.nopLeft := rfl
@[simp] theorem State.putWatched_idle (s : State) (r : RegName) (left : Nat) (v : Word) (watch : List RegName) (n : Nat) :
    (s.putWatched r left v watch n).idle = s.idle := rfl
@[simp] theorem State.putWatched_powerDown (s : State) (r : RegName) (left : Nat) (v : Word) (watch : List RegName) (n : Nat) :
    (s.putWatched r left v watch n).powerDown = s.powerDown := rfl
@[simp] theorem State.putWatched_emptyLeft (s : State) (r : RegName) (left : Nat) (v : Word) (watch : List RegName) (n : Nat) :
    (s.putWatched r left v watch n).emptyLeft = s.emptyLeft := rfl
@[simp] theorem State.putWatched_inputs (s : State) (r : RegName) (left : Nat) (v : Word) (watch : List RegName) (n : Nat) :
    (s.putWatched r left v watch n).inputs = s.inputs := rfl
@[simp] theorem State.putWatched_mem (s : State) (r : RegName) (left : Nat) (v : Word) (watch : List RegName) (n : Nat) :
    (s.putWatched r left v watch n).mem = s.mem := rfl
@[simp] theorem State.putWatched_pmem (s : State) (r : RegName) (left : Nat) (v : Word) (watch : List RegName) (n : Nat) :
    (s.putWatched r left v watch n).pmem = s.pmem := rfl
@[simp] theorem State.putWatched_stored (s : State) (r : RegName) (left : Nat) (v : Word) (watch : List RegName) (n : Nat) :
    (s.putWatched r left v watch n).stored = s.stored := rfl
@[simp] theorem State.putWatched_codeStores (s : State) (r : RegName) (left : Nat) (v : Word) (watch : List RegName) (n : Nat) :
    (s.putWatched r left v watch n).codeStores = s.codeStores := rfl
@[simp] theorem State.putWatched_free (s : State) (r : RegName) (left : Nat) (v : Word) (watch : List RegName) (n : Nat) :
    (s.putWatched r left v watch n).free = s.free := rfl

/-! `State.putSat`. -/

@[simp] theorem State.putSat_device (s : State) (left : Nat) (v : Bool) :
    (s.putSat left v).device = s.device := rfl
@[simp] theorem State.putSat_fileA (s : State) (left : Nat) (v : Bool) :
    (s.putSat left v).fileA = s.fileA := rfl
@[simp] theorem State.putSat_fileB (s : State) (left : Nat) (v : Bool) :
    (s.putSat left v).fileB = s.fileB := rfl
@[simp] theorem State.putSat_pc (s : State) (left : Nat) (v : Bool) :
    (s.putSat left v).pc = s.pc := rfl
@[simp] theorem State.putSat_amr (s : State) (left : Nat) (v : Bool) :
    (s.putSat left v).amr = s.amr := rfl
@[simp] theorem State.putSat_pwrd (s : State) (left : Nat) (v : Bool) :
    (s.putSat left v).pwrd = s.pwrd := rfl
@[simp] theorem State.putSat_sat (s : State) (left : Nat) (v : Bool) :
    (s.putSat left v).sat = s.sat := rfl
@[simp] theorem State.putSat_pcc (s : State) (left : Nat) (v : Bool) :
    (s.putSat left v).pcc = s.pcc := rfl
@[simp] theorem State.putSat_dcc (s : State) (left : Nat) (v : Bool) :
    (s.putSat left v).dcc = s.dcc := rfl
@[simp] theorem State.putSat_pgie (s : State) (left : Nat) (v : Bool) :
    (s.putSat left v).pgie = s.pgie := rfl
@[simp] theorem State.putSat_gie (s : State) (left : Nat) (v : Bool) :
    (s.putSat left v).gie = s.gie := rfl
@[simp] theorem State.putSat_ie (s : State) (left : Nat) (v : Bool) :
    (s.putSat left v).ie = s.ie := rfl
@[simp] theorem State.putSat_nmie (s : State) (left : Nat) (v : Bool) :
    (s.putSat left v).nmie = s.nmie := rfl
@[simp] theorem State.putSat_ifl (s : State) (left : Nat) (v : Bool) :
    (s.putSat left v).ifl = s.ifl := rfl
@[simp] theorem State.putSat_nmif (s : State) (left : Nat) (v : Bool) :
    (s.putSat left v).nmif = s.nmif := rfl
@[simp] theorem State.putSat_istb (s : State) (left : Nat) (v : Bool) :
    (s.putSat left v).istb = s.istb := rfl
@[simp] theorem State.putSat_irp (s : State) (left : Nat) (v : Bool) :
    (s.putSat left v).irp = s.irp := rfl
@[simp] theorem State.putSat_nrp (s : State) (left : Nat) (v : Bool) :
    (s.putSat left v).nrp = s.nrp := rfl
@[simp] theorem State.putSat_fadcr (s : State) (left : Nat) (v : Bool) :
    (s.putSat left v).fadcr = s.fadcr := rfl
@[simp] theorem State.putSat_faucr (s : State) (left : Nat) (v : Bool) :
    (s.putSat left v).faucr = s.faucr := rfl
@[simp] theorem State.putSat_fmcr (s : State) (left : Nat) (v : Bool) :
    (s.putSat left v).fmcr = s.fmcr := rfl
@[simp] theorem State.putSat_writes (s : State) (left : Nat) (v : Bool) :
    (s.putSat left v).writes = s.writes := rfl
@[simp] theorem State.putSat_sats (s : State) (left : Nat) (v : Bool) :
    (s.putSat left v).sats = s.sats ++ [⟨left + 1, v⟩] := rfl
@[simp] theorem State.putSat_warns (s : State) (left : Nat) (v : Bool) :
    (s.putSat left v).warns = s.warns := rfl
@[simp] theorem State.putSat_branches (s : State) (left : Nat) (v : Bool) :
    (s.putSat left v).branches = s.branches := rfl
@[simp] theorem State.putSat_controls (s : State) (left : Nat) (v : Bool) :
    (s.putSat left v).controls = s.controls := rfl
@[simp] theorem State.putSat_isrPend (s : State) (left : Nat) (v : Bool) :
    (s.putSat left v).isrPend = s.isrPend := rfl
@[simp] theorem State.putSat_icrPend (s : State) (left : Nat) (v : Bool) :
    (s.putSat left v).icrPend = s.icrPend := rfl
@[simp] theorem State.putSat_history (s : State) (left : Nat) (v : Bool) :
    (s.putSat left v).history = s.history := rfl
@[simp] theorem State.putSat_nopLeft (s : State) (left : Nat) (v : Bool) :
    (s.putSat left v).nopLeft = s.nopLeft := rfl
@[simp] theorem State.putSat_idle (s : State) (left : Nat) (v : Bool) :
    (s.putSat left v).idle = s.idle := rfl
@[simp] theorem State.putSat_powerDown (s : State) (left : Nat) (v : Bool) :
    (s.putSat left v).powerDown = s.powerDown := rfl
@[simp] theorem State.putSat_emptyLeft (s : State) (left : Nat) (v : Bool) :
    (s.putSat left v).emptyLeft = s.emptyLeft := rfl
@[simp] theorem State.putSat_inputs (s : State) (left : Nat) (v : Bool) :
    (s.putSat left v).inputs = s.inputs := rfl
@[simp] theorem State.putSat_mem (s : State) (left : Nat) (v : Bool) :
    (s.putSat left v).mem = s.mem := rfl
@[simp] theorem State.putSat_pmem (s : State) (left : Nat) (v : Bool) :
    (s.putSat left v).pmem = s.pmem := rfl
@[simp] theorem State.putSat_stored (s : State) (left : Nat) (v : Bool) :
    (s.putSat left v).stored = s.stored := rfl
@[simp] theorem State.putSat_codeStores (s : State) (left : Nat) (v : Bool) :
    (s.putSat left v).codeStores = s.codeStores := rfl
@[simp] theorem State.putSat_free (s : State) (left : Nat) (v : Bool) :
    (s.putSat left v).free = s.free := rfl

/-! `State.putWarn`. -/

@[simp] theorem State.putWarn_device (s : State) (r : FpReg) (side : Side) (left : Nat) (bits mask : BitVec 11) (watch : List RegName) (n : Nat) :
    (s.putWarn r side left bits mask watch n).device = s.device := rfl
@[simp] theorem State.putWarn_fileA (s : State) (r : FpReg) (side : Side) (left : Nat) (bits mask : BitVec 11) (watch : List RegName) (n : Nat) :
    (s.putWarn r side left bits mask watch n).fileA = s.fileA := rfl
@[simp] theorem State.putWarn_fileB (s : State) (r : FpReg) (side : Side) (left : Nat) (bits mask : BitVec 11) (watch : List RegName) (n : Nat) :
    (s.putWarn r side left bits mask watch n).fileB = s.fileB := rfl
@[simp] theorem State.putWarn_pc (s : State) (r : FpReg) (side : Side) (left : Nat) (bits mask : BitVec 11) (watch : List RegName) (n : Nat) :
    (s.putWarn r side left bits mask watch n).pc = s.pc := rfl
@[simp] theorem State.putWarn_amr (s : State) (r : FpReg) (side : Side) (left : Nat) (bits mask : BitVec 11) (watch : List RegName) (n : Nat) :
    (s.putWarn r side left bits mask watch n).amr = s.amr := rfl
@[simp] theorem State.putWarn_pwrd (s : State) (r : FpReg) (side : Side) (left : Nat) (bits mask : BitVec 11) (watch : List RegName) (n : Nat) :
    (s.putWarn r side left bits mask watch n).pwrd = s.pwrd := rfl
@[simp] theorem State.putWarn_sat (s : State) (r : FpReg) (side : Side) (left : Nat) (bits mask : BitVec 11) (watch : List RegName) (n : Nat) :
    (s.putWarn r side left bits mask watch n).sat = s.sat := rfl
@[simp] theorem State.putWarn_pcc (s : State) (r : FpReg) (side : Side) (left : Nat) (bits mask : BitVec 11) (watch : List RegName) (n : Nat) :
    (s.putWarn r side left bits mask watch n).pcc = s.pcc := rfl
@[simp] theorem State.putWarn_dcc (s : State) (r : FpReg) (side : Side) (left : Nat) (bits mask : BitVec 11) (watch : List RegName) (n : Nat) :
    (s.putWarn r side left bits mask watch n).dcc = s.dcc := rfl
@[simp] theorem State.putWarn_pgie (s : State) (r : FpReg) (side : Side) (left : Nat) (bits mask : BitVec 11) (watch : List RegName) (n : Nat) :
    (s.putWarn r side left bits mask watch n).pgie = s.pgie := rfl
@[simp] theorem State.putWarn_gie (s : State) (r : FpReg) (side : Side) (left : Nat) (bits mask : BitVec 11) (watch : List RegName) (n : Nat) :
    (s.putWarn r side left bits mask watch n).gie = s.gie := rfl
@[simp] theorem State.putWarn_ie (s : State) (r : FpReg) (side : Side) (left : Nat) (bits mask : BitVec 11) (watch : List RegName) (n : Nat) :
    (s.putWarn r side left bits mask watch n).ie = s.ie := rfl
@[simp] theorem State.putWarn_nmie (s : State) (r : FpReg) (side : Side) (left : Nat) (bits mask : BitVec 11) (watch : List RegName) (n : Nat) :
    (s.putWarn r side left bits mask watch n).nmie = s.nmie := rfl
@[simp] theorem State.putWarn_ifl (s : State) (r : FpReg) (side : Side) (left : Nat) (bits mask : BitVec 11) (watch : List RegName) (n : Nat) :
    (s.putWarn r side left bits mask watch n).ifl = s.ifl := rfl
@[simp] theorem State.putWarn_nmif (s : State) (r : FpReg) (side : Side) (left : Nat) (bits mask : BitVec 11) (watch : List RegName) (n : Nat) :
    (s.putWarn r side left bits mask watch n).nmif = s.nmif := rfl
@[simp] theorem State.putWarn_istb (s : State) (r : FpReg) (side : Side) (left : Nat) (bits mask : BitVec 11) (watch : List RegName) (n : Nat) :
    (s.putWarn r side left bits mask watch n).istb = s.istb := rfl
@[simp] theorem State.putWarn_irp (s : State) (r : FpReg) (side : Side) (left : Nat) (bits mask : BitVec 11) (watch : List RegName) (n : Nat) :
    (s.putWarn r side left bits mask watch n).irp = s.irp := rfl
@[simp] theorem State.putWarn_nrp (s : State) (r : FpReg) (side : Side) (left : Nat) (bits mask : BitVec 11) (watch : List RegName) (n : Nat) :
    (s.putWarn r side left bits mask watch n).nrp = s.nrp := rfl
@[simp] theorem State.putWarn_fadcr (s : State) (r : FpReg) (side : Side) (left : Nat) (bits mask : BitVec 11) (watch : List RegName) (n : Nat) :
    (s.putWarn r side left bits mask watch n).fadcr = s.fadcr := rfl
@[simp] theorem State.putWarn_faucr (s : State) (r : FpReg) (side : Side) (left : Nat) (bits mask : BitVec 11) (watch : List RegName) (n : Nat) :
    (s.putWarn r side left bits mask watch n).faucr = s.faucr := rfl
@[simp] theorem State.putWarn_fmcr (s : State) (r : FpReg) (side : Side) (left : Nat) (bits mask : BitVec 11) (watch : List RegName) (n : Nat) :
    (s.putWarn r side left bits mask watch n).fmcr = s.fmcr := rfl
@[simp] theorem State.putWarn_writes (s : State) (r : FpReg) (side : Side) (left : Nat) (bits mask : BitVec 11) (watch : List RegName) (n : Nat) :
    (s.putWarn r side left bits mask watch n).writes = s.writes := rfl
@[simp] theorem State.putWarn_sats (s : State) (r : FpReg) (side : Side) (left : Nat) (bits mask : BitVec 11) (watch : List RegName) (n : Nat) :
    (s.putWarn r side left bits mask watch n).sats = s.sats := rfl
@[simp] theorem State.putWarn_warns (s : State) (r : FpReg) (side : Side) (left : Nat) (bits mask : BitVec 11) (watch : List RegName) (n : Nat) :
    (s.putWarn r side left bits mask watch n).warns = s.warns ++ [⟨left, r, side, bits, mask, watch, n⟩] := rfl
@[simp] theorem State.putWarn_branches (s : State) (r : FpReg) (side : Side) (left : Nat) (bits mask : BitVec 11) (watch : List RegName) (n : Nat) :
    (s.putWarn r side left bits mask watch n).branches = s.branches := rfl
@[simp] theorem State.putWarn_controls (s : State) (r : FpReg) (side : Side) (left : Nat) (bits mask : BitVec 11) (watch : List RegName) (n : Nat) :
    (s.putWarn r side left bits mask watch n).controls = s.controls := rfl
@[simp] theorem State.putWarn_isrPend (s : State) (r : FpReg) (side : Side) (left : Nat) (bits mask : BitVec 11) (watch : List RegName) (n : Nat) :
    (s.putWarn r side left bits mask watch n).isrPend = s.isrPend := rfl
@[simp] theorem State.putWarn_icrPend (s : State) (r : FpReg) (side : Side) (left : Nat) (bits mask : BitVec 11) (watch : List RegName) (n : Nat) :
    (s.putWarn r side left bits mask watch n).icrPend = s.icrPend := rfl
@[simp] theorem State.putWarn_history (s : State) (r : FpReg) (side : Side) (left : Nat) (bits mask : BitVec 11) (watch : List RegName) (n : Nat) :
    (s.putWarn r side left bits mask watch n).history = s.history := rfl
@[simp] theorem State.putWarn_nopLeft (s : State) (r : FpReg) (side : Side) (left : Nat) (bits mask : BitVec 11) (watch : List RegName) (n : Nat) :
    (s.putWarn r side left bits mask watch n).nopLeft = s.nopLeft := rfl
@[simp] theorem State.putWarn_idle (s : State) (r : FpReg) (side : Side) (left : Nat) (bits mask : BitVec 11) (watch : List RegName) (n : Nat) :
    (s.putWarn r side left bits mask watch n).idle = s.idle := rfl
@[simp] theorem State.putWarn_powerDown (s : State) (r : FpReg) (side : Side) (left : Nat) (bits mask : BitVec 11) (watch : List RegName) (n : Nat) :
    (s.putWarn r side left bits mask watch n).powerDown = s.powerDown := rfl
@[simp] theorem State.putWarn_emptyLeft (s : State) (r : FpReg) (side : Side) (left : Nat) (bits mask : BitVec 11) (watch : List RegName) (n : Nat) :
    (s.putWarn r side left bits mask watch n).emptyLeft = s.emptyLeft := rfl
@[simp] theorem State.putWarn_inputs (s : State) (r : FpReg) (side : Side) (left : Nat) (bits mask : BitVec 11) (watch : List RegName) (n : Nat) :
    (s.putWarn r side left bits mask watch n).inputs = s.inputs := rfl
@[simp] theorem State.putWarn_mem (s : State) (r : FpReg) (side : Side) (left : Nat) (bits mask : BitVec 11) (watch : List RegName) (n : Nat) :
    (s.putWarn r side left bits mask watch n).mem = s.mem := rfl
@[simp] theorem State.putWarn_pmem (s : State) (r : FpReg) (side : Side) (left : Nat) (bits mask : BitVec 11) (watch : List RegName) (n : Nat) :
    (s.putWarn r side left bits mask watch n).pmem = s.pmem := rfl
@[simp] theorem State.putWarn_stored (s : State) (r : FpReg) (side : Side) (left : Nat) (bits mask : BitVec 11) (watch : List RegName) (n : Nat) :
    (s.putWarn r side left bits mask watch n).stored = s.stored := rfl
@[simp] theorem State.putWarn_codeStores (s : State) (r : FpReg) (side : Side) (left : Nat) (bits mask : BitVec 11) (watch : List RegName) (n : Nat) :
    (s.putWarn r side left bits mask watch n).codeStores = s.codeStores := rfl
@[simp] theorem State.putWarn_free (s : State) (r : FpReg) (side : Side) (left : Nat) (bits mask : BitVec 11) (watch : List RegName) (n : Nat) :
    (s.putWarn r side left bits mask watch n).free = s.free := rfl

/-! `State.putBranch`. -/

@[simp] theorem State.putBranch_device (s : State) (target : Word) :
    (s.putBranch target).device = s.device := rfl
@[simp] theorem State.putBranch_fileA (s : State) (target : Word) :
    (s.putBranch target).fileA = s.fileA := rfl
@[simp] theorem State.putBranch_fileB (s : State) (target : Word) :
    (s.putBranch target).fileB = s.fileB := rfl
@[simp] theorem State.putBranch_pc (s : State) (target : Word) :
    (s.putBranch target).pc = s.pc := rfl
@[simp] theorem State.putBranch_amr (s : State) (target : Word) :
    (s.putBranch target).amr = s.amr := rfl
@[simp] theorem State.putBranch_pwrd (s : State) (target : Word) :
    (s.putBranch target).pwrd = s.pwrd := rfl
@[simp] theorem State.putBranch_sat (s : State) (target : Word) :
    (s.putBranch target).sat = s.sat := rfl
@[simp] theorem State.putBranch_pcc (s : State) (target : Word) :
    (s.putBranch target).pcc = s.pcc := rfl
@[simp] theorem State.putBranch_dcc (s : State) (target : Word) :
    (s.putBranch target).dcc = s.dcc := rfl
@[simp] theorem State.putBranch_pgie (s : State) (target : Word) :
    (s.putBranch target).pgie = s.pgie := rfl
@[simp] theorem State.putBranch_gie (s : State) (target : Word) :
    (s.putBranch target).gie = s.gie := rfl
@[simp] theorem State.putBranch_ie (s : State) (target : Word) :
    (s.putBranch target).ie = s.ie := rfl
@[simp] theorem State.putBranch_nmie (s : State) (target : Word) :
    (s.putBranch target).nmie = s.nmie := rfl
@[simp] theorem State.putBranch_ifl (s : State) (target : Word) :
    (s.putBranch target).ifl = s.ifl := rfl
@[simp] theorem State.putBranch_nmif (s : State) (target : Word) :
    (s.putBranch target).nmif = s.nmif := rfl
@[simp] theorem State.putBranch_istb (s : State) (target : Word) :
    (s.putBranch target).istb = s.istb := rfl
@[simp] theorem State.putBranch_irp (s : State) (target : Word) :
    (s.putBranch target).irp = s.irp := rfl
@[simp] theorem State.putBranch_nrp (s : State) (target : Word) :
    (s.putBranch target).nrp = s.nrp := rfl
@[simp] theorem State.putBranch_fadcr (s : State) (target : Word) :
    (s.putBranch target).fadcr = s.fadcr := rfl
@[simp] theorem State.putBranch_faucr (s : State) (target : Word) :
    (s.putBranch target).faucr = s.faucr := rfl
@[simp] theorem State.putBranch_fmcr (s : State) (target : Word) :
    (s.putBranch target).fmcr = s.fmcr := rfl
@[simp] theorem State.putBranch_writes (s : State) (target : Word) :
    (s.putBranch target).writes = s.writes := rfl
@[simp] theorem State.putBranch_sats (s : State) (target : Word) :
    (s.putBranch target).sats = s.sats := rfl
@[simp] theorem State.putBranch_warns (s : State) (target : Word) :
    (s.putBranch target).warns = s.warns := rfl
@[simp] theorem State.putBranch_branches (s : State) (target : Word) :
    (s.putBranch target).branches = s.branches ++ [⟨target, 5⟩] := rfl
@[simp] theorem State.putBranch_controls (s : State) (target : Word) :
    (s.putBranch target).controls = s.controls := rfl
@[simp] theorem State.putBranch_isrPend (s : State) (target : Word) :
    (s.putBranch target).isrPend = s.isrPend := rfl
@[simp] theorem State.putBranch_icrPend (s : State) (target : Word) :
    (s.putBranch target).icrPend = s.icrPend := rfl
@[simp] theorem State.putBranch_history (s : State) (target : Word) :
    (s.putBranch target).history = s.history := rfl
@[simp] theorem State.putBranch_nopLeft (s : State) (target : Word) :
    (s.putBranch target).nopLeft = s.nopLeft := rfl
@[simp] theorem State.putBranch_idle (s : State) (target : Word) :
    (s.putBranch target).idle = s.idle := rfl
@[simp] theorem State.putBranch_powerDown (s : State) (target : Word) :
    (s.putBranch target).powerDown = s.powerDown := rfl
@[simp] theorem State.putBranch_emptyLeft (s : State) (target : Word) :
    (s.putBranch target).emptyLeft = s.emptyLeft := rfl
@[simp] theorem State.putBranch_inputs (s : State) (target : Word) :
    (s.putBranch target).inputs = s.inputs := rfl
@[simp] theorem State.putBranch_mem (s : State) (target : Word) :
    (s.putBranch target).mem = s.mem := rfl
@[simp] theorem State.putBranch_pmem (s : State) (target : Word) :
    (s.putBranch target).pmem = s.pmem := rfl
@[simp] theorem State.putBranch_stored (s : State) (target : Word) :
    (s.putBranch target).stored = s.stored := rfl
@[simp] theorem State.putBranch_codeStores (s : State) (target : Word) :
    (s.putBranch target).codeStores = s.codeStores := rfl
@[simp] theorem State.putBranch_free (s : State) (target : Word) :
    (s.putBranch target).free = s.free := rfl

/-! `State.putControl`. -/

@[simp] theorem State.putControl_device (s : State) (e : ControlEffect) :
    (s.putControl e).device = s.device := rfl
@[simp] theorem State.putControl_fileA (s : State) (e : ControlEffect) :
    (s.putControl e).fileA = s.fileA := rfl
@[simp] theorem State.putControl_fileB (s : State) (e : ControlEffect) :
    (s.putControl e).fileB = s.fileB := rfl
@[simp] theorem State.putControl_pc (s : State) (e : ControlEffect) :
    (s.putControl e).pc = s.pc := rfl
@[simp] theorem State.putControl_amr (s : State) (e : ControlEffect) :
    (s.putControl e).amr = s.amr := rfl
@[simp] theorem State.putControl_pwrd (s : State) (e : ControlEffect) :
    (s.putControl e).pwrd = s.pwrd := rfl
@[simp] theorem State.putControl_sat (s : State) (e : ControlEffect) :
    (s.putControl e).sat = s.sat := rfl
@[simp] theorem State.putControl_pcc (s : State) (e : ControlEffect) :
    (s.putControl e).pcc = s.pcc := rfl
@[simp] theorem State.putControl_dcc (s : State) (e : ControlEffect) :
    (s.putControl e).dcc = s.dcc := rfl
@[simp] theorem State.putControl_pgie (s : State) (e : ControlEffect) :
    (s.putControl e).pgie = s.pgie := rfl
@[simp] theorem State.putControl_gie (s : State) (e : ControlEffect) :
    (s.putControl e).gie = s.gie := rfl
@[simp] theorem State.putControl_ie (s : State) (e : ControlEffect) :
    (s.putControl e).ie = s.ie := rfl
@[simp] theorem State.putControl_nmie (s : State) (e : ControlEffect) :
    (s.putControl e).nmie = s.nmie := rfl
@[simp] theorem State.putControl_ifl (s : State) (e : ControlEffect) :
    (s.putControl e).ifl = s.ifl := rfl
@[simp] theorem State.putControl_nmif (s : State) (e : ControlEffect) :
    (s.putControl e).nmif = s.nmif := rfl
@[simp] theorem State.putControl_istb (s : State) (e : ControlEffect) :
    (s.putControl e).istb = s.istb := rfl
@[simp] theorem State.putControl_irp (s : State) (e : ControlEffect) :
    (s.putControl e).irp = s.irp := rfl
@[simp] theorem State.putControl_nrp (s : State) (e : ControlEffect) :
    (s.putControl e).nrp = s.nrp := rfl
@[simp] theorem State.putControl_fadcr (s : State) (e : ControlEffect) :
    (s.putControl e).fadcr = s.fadcr := rfl
@[simp] theorem State.putControl_faucr (s : State) (e : ControlEffect) :
    (s.putControl e).faucr = s.faucr := rfl
@[simp] theorem State.putControl_fmcr (s : State) (e : ControlEffect) :
    (s.putControl e).fmcr = s.fmcr := rfl
@[simp] theorem State.putControl_writes (s : State) (e : ControlEffect) :
    (s.putControl e).writes = s.writes := rfl
@[simp] theorem State.putControl_sats (s : State) (e : ControlEffect) :
    (s.putControl e).sats = s.sats := rfl
@[simp] theorem State.putControl_warns (s : State) (e : ControlEffect) :
    (s.putControl e).warns = s.warns := rfl
@[simp] theorem State.putControl_branches (s : State) (e : ControlEffect) :
    (s.putControl e).branches = s.branches := rfl
@[simp] theorem State.putControl_controls (s : State) (e : ControlEffect) :
    (s.putControl e).controls = s.controls ++ [e] := rfl
@[simp] theorem State.putControl_isrPend (s : State) (e : ControlEffect) :
    (s.putControl e).isrPend = s.isrPend := rfl
@[simp] theorem State.putControl_icrPend (s : State) (e : ControlEffect) :
    (s.putControl e).icrPend = s.icrPend := rfl
@[simp] theorem State.putControl_history (s : State) (e : ControlEffect) :
    (s.putControl e).history = s.history := rfl
@[simp] theorem State.putControl_nopLeft (s : State) (e : ControlEffect) :
    (s.putControl e).nopLeft = s.nopLeft := rfl
@[simp] theorem State.putControl_idle (s : State) (e : ControlEffect) :
    (s.putControl e).idle = s.idle := rfl
@[simp] theorem State.putControl_powerDown (s : State) (e : ControlEffect) :
    (s.putControl e).powerDown = s.powerDown := rfl
@[simp] theorem State.putControl_emptyLeft (s : State) (e : ControlEffect) :
    (s.putControl e).emptyLeft = s.emptyLeft := rfl
@[simp] theorem State.putControl_inputs (s : State) (e : ControlEffect) :
    (s.putControl e).inputs = s.inputs := rfl
@[simp] theorem State.putControl_mem (s : State) (e : ControlEffect) :
    (s.putControl e).mem = s.mem := rfl
@[simp] theorem State.putControl_pmem (s : State) (e : ControlEffect) :
    (s.putControl e).pmem = s.pmem := rfl
@[simp] theorem State.putControl_stored (s : State) (e : ControlEffect) :
    (s.putControl e).stored = s.stored := rfl
@[simp] theorem State.putControl_codeStores (s : State) (e : ControlEffect) :
    (s.putControl e).codeStores = s.codeStores := rfl
@[simp] theorem State.putControl_free (s : State) (e : ControlEffect) :
    (s.putControl e).free = s.free := rfl

/-! `State.pad`. -/

@[simp] theorem State.pad_device (s : State) (n : Nat) :
    (s.pad n).device = s.device := rfl
@[simp] theorem State.pad_fileA (s : State) (n : Nat) :
    (s.pad n).fileA = s.fileA := rfl
@[simp] theorem State.pad_fileB (s : State) (n : Nat) :
    (s.pad n).fileB = s.fileB := rfl
@[simp] theorem State.pad_pc (s : State) (n : Nat) :
    (s.pad n).pc = s.pc := rfl
@[simp] theorem State.pad_amr (s : State) (n : Nat) :
    (s.pad n).amr = s.amr := rfl
@[simp] theorem State.pad_pwrd (s : State) (n : Nat) :
    (s.pad n).pwrd = s.pwrd := rfl
@[simp] theorem State.pad_sat (s : State) (n : Nat) :
    (s.pad n).sat = s.sat := rfl
@[simp] theorem State.pad_pcc (s : State) (n : Nat) :
    (s.pad n).pcc = s.pcc := rfl
@[simp] theorem State.pad_dcc (s : State) (n : Nat) :
    (s.pad n).dcc = s.dcc := rfl
@[simp] theorem State.pad_pgie (s : State) (n : Nat) :
    (s.pad n).pgie = s.pgie := rfl
@[simp] theorem State.pad_gie (s : State) (n : Nat) :
    (s.pad n).gie = s.gie := rfl
@[simp] theorem State.pad_ie (s : State) (n : Nat) :
    (s.pad n).ie = s.ie := rfl
@[simp] theorem State.pad_nmie (s : State) (n : Nat) :
    (s.pad n).nmie = s.nmie := rfl
@[simp] theorem State.pad_ifl (s : State) (n : Nat) :
    (s.pad n).ifl = s.ifl := rfl
@[simp] theorem State.pad_nmif (s : State) (n : Nat) :
    (s.pad n).nmif = s.nmif := rfl
@[simp] theorem State.pad_istb (s : State) (n : Nat) :
    (s.pad n).istb = s.istb := rfl
@[simp] theorem State.pad_irp (s : State) (n : Nat) :
    (s.pad n).irp = s.irp := rfl
@[simp] theorem State.pad_nrp (s : State) (n : Nat) :
    (s.pad n).nrp = s.nrp := rfl
@[simp] theorem State.pad_fadcr (s : State) (n : Nat) :
    (s.pad n).fadcr = s.fadcr := rfl
@[simp] theorem State.pad_faucr (s : State) (n : Nat) :
    (s.pad n).faucr = s.faucr := rfl
@[simp] theorem State.pad_fmcr (s : State) (n : Nat) :
    (s.pad n).fmcr = s.fmcr := rfl
@[simp] theorem State.pad_writes (s : State) (n : Nat) :
    (s.pad n).writes = s.writes := rfl
@[simp] theorem State.pad_sats (s : State) (n : Nat) :
    (s.pad n).sats = s.sats := rfl
@[simp] theorem State.pad_warns (s : State) (n : Nat) :
    (s.pad n).warns = s.warns := rfl
@[simp] theorem State.pad_branches (s : State) (n : Nat) :
    (s.pad n).branches = s.branches := rfl
@[simp] theorem State.pad_controls (s : State) (n : Nat) :
    (s.pad n).controls = s.controls := rfl
@[simp] theorem State.pad_isrPend (s : State) (n : Nat) :
    (s.pad n).isrPend = s.isrPend := rfl
@[simp] theorem State.pad_icrPend (s : State) (n : Nat) :
    (s.pad n).icrPend = s.icrPend := rfl
@[simp] theorem State.pad_history (s : State) (n : Nat) :
    (s.pad n).history = s.history := rfl
@[simp] theorem State.pad_nopLeft (s : State) (n : Nat) :
    (s.pad n).nopLeft = max s.nopLeft n := rfl
@[simp] theorem State.pad_idle (s : State) (n : Nat) :
    (s.pad n).idle = s.idle := rfl
@[simp] theorem State.pad_powerDown (s : State) (n : Nat) :
    (s.pad n).powerDown = s.powerDown := rfl
@[simp] theorem State.pad_emptyLeft (s : State) (n : Nat) :
    (s.pad n).emptyLeft = s.emptyLeft := rfl
@[simp] theorem State.pad_inputs (s : State) (n : Nat) :
    (s.pad n).inputs = s.inputs := rfl
@[simp] theorem State.pad_mem (s : State) (n : Nat) :
    (s.pad n).mem = s.mem := rfl
@[simp] theorem State.pad_pmem (s : State) (n : Nat) :
    (s.pad n).pmem = s.pmem := rfl
@[simp] theorem State.pad_stored (s : State) (n : Nat) :
    (s.pad n).stored = s.stored := rfl
@[simp] theorem State.pad_codeStores (s : State) (n : Nat) :
    (s.pad n).codeStores = s.codeStores := rfl
@[simp] theorem State.pad_free (s : State) (n : Nat) :
    (s.pad n).free = s.free := rfl

/-! `State.storeByte`. -/

@[simp] theorem State.storeByte_device (s : State) (a : Nat) (b : Byte) :
    (s.storeByte a b).device = s.device := rfl
@[simp] theorem State.storeByte_fileA (s : State) (a : Nat) (b : Byte) :
    (s.storeByte a b).fileA = s.fileA := rfl
@[simp] theorem State.storeByte_fileB (s : State) (a : Nat) (b : Byte) :
    (s.storeByte a b).fileB = s.fileB := rfl
@[simp] theorem State.storeByte_pc (s : State) (a : Nat) (b : Byte) :
    (s.storeByte a b).pc = s.pc := rfl
@[simp] theorem State.storeByte_amr (s : State) (a : Nat) (b : Byte) :
    (s.storeByte a b).amr = s.amr := rfl
@[simp] theorem State.storeByte_pwrd (s : State) (a : Nat) (b : Byte) :
    (s.storeByte a b).pwrd = s.pwrd := rfl
@[simp] theorem State.storeByte_sat (s : State) (a : Nat) (b : Byte) :
    (s.storeByte a b).sat = s.sat := rfl
@[simp] theorem State.storeByte_pcc (s : State) (a : Nat) (b : Byte) :
    (s.storeByte a b).pcc = s.pcc := rfl
@[simp] theorem State.storeByte_dcc (s : State) (a : Nat) (b : Byte) :
    (s.storeByte a b).dcc = s.dcc := rfl
@[simp] theorem State.storeByte_pgie (s : State) (a : Nat) (b : Byte) :
    (s.storeByte a b).pgie = s.pgie := rfl
@[simp] theorem State.storeByte_gie (s : State) (a : Nat) (b : Byte) :
    (s.storeByte a b).gie = s.gie := rfl
@[simp] theorem State.storeByte_ie (s : State) (a : Nat) (b : Byte) :
    (s.storeByte a b).ie = s.ie := rfl
@[simp] theorem State.storeByte_nmie (s : State) (a : Nat) (b : Byte) :
    (s.storeByte a b).nmie = s.nmie := rfl
@[simp] theorem State.storeByte_ifl (s : State) (a : Nat) (b : Byte) :
    (s.storeByte a b).ifl = s.ifl := rfl
@[simp] theorem State.storeByte_nmif (s : State) (a : Nat) (b : Byte) :
    (s.storeByte a b).nmif = s.nmif := rfl
@[simp] theorem State.storeByte_istb (s : State) (a : Nat) (b : Byte) :
    (s.storeByte a b).istb = s.istb := rfl
@[simp] theorem State.storeByte_irp (s : State) (a : Nat) (b : Byte) :
    (s.storeByte a b).irp = s.irp := rfl
@[simp] theorem State.storeByte_nrp (s : State) (a : Nat) (b : Byte) :
    (s.storeByte a b).nrp = s.nrp := rfl
@[simp] theorem State.storeByte_fadcr (s : State) (a : Nat) (b : Byte) :
    (s.storeByte a b).fadcr = s.fadcr := rfl
@[simp] theorem State.storeByte_faucr (s : State) (a : Nat) (b : Byte) :
    (s.storeByte a b).faucr = s.faucr := rfl
@[simp] theorem State.storeByte_fmcr (s : State) (a : Nat) (b : Byte) :
    (s.storeByte a b).fmcr = s.fmcr := rfl
@[simp] theorem State.storeByte_writes (s : State) (a : Nat) (b : Byte) :
    (s.storeByte a b).writes = s.writes := rfl
@[simp] theorem State.storeByte_sats (s : State) (a : Nat) (b : Byte) :
    (s.storeByte a b).sats = s.sats := rfl
@[simp] theorem State.storeByte_warns (s : State) (a : Nat) (b : Byte) :
    (s.storeByte a b).warns = s.warns := rfl
@[simp] theorem State.storeByte_branches (s : State) (a : Nat) (b : Byte) :
    (s.storeByte a b).branches = s.branches := rfl
@[simp] theorem State.storeByte_controls (s : State) (a : Nat) (b : Byte) :
    (s.storeByte a b).controls = s.controls := rfl
@[simp] theorem State.storeByte_isrPend (s : State) (a : Nat) (b : Byte) :
    (s.storeByte a b).isrPend = s.isrPend := rfl
@[simp] theorem State.storeByte_icrPend (s : State) (a : Nat) (b : Byte) :
    (s.storeByte a b).icrPend = s.icrPend := rfl
@[simp] theorem State.storeByte_history (s : State) (a : Nat) (b : Byte) :
    (s.storeByte a b).history = s.history := rfl
@[simp] theorem State.storeByte_nopLeft (s : State) (a : Nat) (b : Byte) :
    (s.storeByte a b).nopLeft = s.nopLeft := rfl
@[simp] theorem State.storeByte_idle (s : State) (a : Nat) (b : Byte) :
    (s.storeByte a b).idle = s.idle := rfl
@[simp] theorem State.storeByte_powerDown (s : State) (a : Nat) (b : Byte) :
    (s.storeByte a b).powerDown = s.powerDown := rfl
@[simp] theorem State.storeByte_emptyLeft (s : State) (a : Nat) (b : Byte) :
    (s.storeByte a b).emptyLeft = s.emptyLeft := rfl
@[simp] theorem State.storeByte_inputs (s : State) (a : Nat) (b : Byte) :
    (s.storeByte a b).inputs = s.inputs := rfl
@[simp] theorem State.storeByte_mem (s : State) (a : Nat) (b : Byte) :
    (s.storeByte a b).mem = writeByte s.mem a (if a ∈ s.stored ∨ s.contested a = true then freeByte s.free else b) := rfl
@[simp] theorem State.storeByte_pmem (s : State) (a : Nat) (b : Byte) :
    (s.storeByte a b).pmem = s.pmem := rfl
@[simp] theorem State.storeByte_stored (s : State) (a : Nat) (b : Byte) :
    (s.storeByte a b).stored = a :: s.stored := rfl
@[simp] theorem State.storeByte_codeStores (s : State) (a : Nat) (b : Byte) :
    (s.storeByte a b).codeStores = (if fetchShares s.device a then insertAddress a s.codeStores else s.codeStores) := rfl
@[simp] theorem State.storeByte_free (s : State) (a : Nat) (b : Byte) :
    (s.storeByte a b).free = s.free + 1 := rfl

/-! `State.closeCycle`. -/

@[simp] theorem State.closeCycle_device (s : State) (issues : List Issue) (drawn : Nat) :
    (s.closeCycle issues drawn).device = s.device := rfl
@[simp] theorem State.closeCycle_fileA (s : State) (issues : List Issue) (drawn : Nat) :
    (s.closeCycle issues drawn).fileA = s.fileA := rfl
@[simp] theorem State.closeCycle_fileB (s : State) (issues : List Issue) (drawn : Nat) :
    (s.closeCycle issues drawn).fileB = s.fileB := rfl
@[simp] theorem State.closeCycle_pc (s : State) (issues : List Issue) (drawn : Nat) :
    (s.closeCycle issues drawn).pc = s.pc := rfl
@[simp] theorem State.closeCycle_amr (s : State) (issues : List Issue) (drawn : Nat) :
    (s.closeCycle issues drawn).amr = s.amr := rfl
@[simp] theorem State.closeCycle_pwrd (s : State) (issues : List Issue) (drawn : Nat) :
    (s.closeCycle issues drawn).pwrd = s.pwrd := rfl
@[simp] theorem State.closeCycle_sat (s : State) (issues : List Issue) (drawn : Nat) :
    (s.closeCycle issues drawn).sat = s.sat := rfl
@[simp] theorem State.closeCycle_pcc (s : State) (issues : List Issue) (drawn : Nat) :
    (s.closeCycle issues drawn).pcc = s.pcc := rfl
@[simp] theorem State.closeCycle_dcc (s : State) (issues : List Issue) (drawn : Nat) :
    (s.closeCycle issues drawn).dcc = s.dcc := rfl
@[simp] theorem State.closeCycle_pgie (s : State) (issues : List Issue) (drawn : Nat) :
    (s.closeCycle issues drawn).pgie = s.pgie := rfl
@[simp] theorem State.closeCycle_gie (s : State) (issues : List Issue) (drawn : Nat) :
    (s.closeCycle issues drawn).gie = s.gie := rfl
@[simp] theorem State.closeCycle_ie (s : State) (issues : List Issue) (drawn : Nat) :
    (s.closeCycle issues drawn).ie = s.ie := rfl
@[simp] theorem State.closeCycle_nmie (s : State) (issues : List Issue) (drawn : Nat) :
    (s.closeCycle issues drawn).nmie = s.nmie := rfl
@[simp] theorem State.closeCycle_ifl (s : State) (issues : List Issue) (drawn : Nat) :
    (s.closeCycle issues drawn).ifl = s.ifl := rfl
@[simp] theorem State.closeCycle_nmif (s : State) (issues : List Issue) (drawn : Nat) :
    (s.closeCycle issues drawn).nmif = s.nmif := rfl
@[simp] theorem State.closeCycle_istb (s : State) (issues : List Issue) (drawn : Nat) :
    (s.closeCycle issues drawn).istb = s.istb := rfl
@[simp] theorem State.closeCycle_irp (s : State) (issues : List Issue) (drawn : Nat) :
    (s.closeCycle issues drawn).irp = s.irp := rfl
@[simp] theorem State.closeCycle_nrp (s : State) (issues : List Issue) (drawn : Nat) :
    (s.closeCycle issues drawn).nrp = s.nrp := rfl
@[simp] theorem State.closeCycle_fadcr (s : State) (issues : List Issue) (drawn : Nat) :
    (s.closeCycle issues drawn).fadcr = s.fadcr := rfl
@[simp] theorem State.closeCycle_faucr (s : State) (issues : List Issue) (drawn : Nat) :
    (s.closeCycle issues drawn).faucr = s.faucr := rfl
@[simp] theorem State.closeCycle_fmcr (s : State) (issues : List Issue) (drawn : Nat) :
    (s.closeCycle issues drawn).fmcr = s.fmcr := rfl
@[simp] theorem State.closeCycle_writes (s : State) (issues : List Issue) (drawn : Nat) :
    (s.closeCycle issues drawn).writes = s.writes := rfl
@[simp] theorem State.closeCycle_sats (s : State) (issues : List Issue) (drawn : Nat) :
    (s.closeCycle issues drawn).sats = s.sats := rfl
@[simp] theorem State.closeCycle_warns (s : State) (issues : List Issue) (drawn : Nat) :
    (s.closeCycle issues drawn).warns = s.warns := rfl
@[simp] theorem State.closeCycle_branches (s : State) (issues : List Issue) (drawn : Nat) :
    (s.closeCycle issues drawn).branches = s.branches := rfl
@[simp] theorem State.closeCycle_controls (s : State) (issues : List Issue) (drawn : Nat) :
    (s.closeCycle issues drawn).controls = s.controls := rfl
@[simp] theorem State.closeCycle_isrPend (s : State) (issues : List Issue) (drawn : Nat) :
    (s.closeCycle issues drawn).isrPend = s.isrPend := rfl
@[simp] theorem State.closeCycle_icrPend (s : State) (issues : List Issue) (drawn : Nat) :
    (s.closeCycle issues drawn).icrPend = s.icrPend := rfl
@[simp] theorem State.closeCycle_history (s : State) (issues : List Issue) (drawn : Nat) :
    (s.closeCycle issues drawn).history = (issues :: s.history).take 9 := rfl
@[simp] theorem State.closeCycle_nopLeft (s : State) (issues : List Issue) (drawn : Nat) :
    (s.closeCycle issues drawn).nopLeft = s.nopLeft := rfl
@[simp] theorem State.closeCycle_idle (s : State) (issues : List Issue) (drawn : Nat) :
    (s.closeCycle issues drawn).idle = s.idle := rfl
@[simp] theorem State.closeCycle_powerDown (s : State) (issues : List Issue) (drawn : Nat) :
    (s.closeCycle issues drawn).powerDown = s.powerDown := rfl
@[simp] theorem State.closeCycle_emptyLeft (s : State) (issues : List Issue) (drawn : Nat) :
    (s.closeCycle issues drawn).emptyLeft = s.emptyLeft := rfl
@[simp] theorem State.closeCycle_inputs (s : State) (issues : List Issue) (drawn : Nat) :
    (s.closeCycle issues drawn).inputs = s.inputs.tail := rfl
@[simp] theorem State.closeCycle_mem (s : State) (issues : List Issue) (drawn : Nat) :
    (s.closeCycle issues drawn).mem = s.mem := rfl
@[simp] theorem State.closeCycle_pmem (s : State) (issues : List Issue) (drawn : Nat) :
    (s.closeCycle issues drawn).pmem = s.pmem := rfl
@[simp] theorem State.closeCycle_stored (s : State) (issues : List Issue) (drawn : Nat) :
    (s.closeCycle issues drawn).stored = [] := rfl
@[simp] theorem State.closeCycle_codeStores (s : State) (issues : List Issue) (drawn : Nat) :
    (s.closeCycle issues drawn).codeStores = s.codeStores := rfl
@[simp] theorem State.closeCycle_free (s : State) (issues : List Issue) (drawn : Nat) :
    (s.closeCycle issues drawn).free = s.free + drawn := rfl

/-! `State.landExternal`. -/

@[simp] theorem State.landExternal_device (s : State) :
    s.landExternal.device = s.device := rfl
@[simp] theorem State.landExternal_fileA (s : State) :
    s.landExternal.fileA = s.fileA := rfl
@[simp] theorem State.landExternal_fileB (s : State) :
    s.landExternal.fileB = s.fileB := rfl
@[simp] theorem State.landExternal_pc (s : State) :
    s.landExternal.pc = s.pc := rfl
@[simp] theorem State.landExternal_amr (s : State) :
    s.landExternal.amr = s.amr := rfl
@[simp] theorem State.landExternal_pwrd (s : State) :
    s.landExternal.pwrd = s.pwrd := rfl
@[simp] theorem State.landExternal_sat (s : State) :
    s.landExternal.sat = s.sat := rfl
@[simp] theorem State.landExternal_pcc (s : State) :
    s.landExternal.pcc = s.pcc := rfl
@[simp] theorem State.landExternal_dcc (s : State) :
    s.landExternal.dcc = s.dcc := rfl
@[simp] theorem State.landExternal_pgie (s : State) :
    s.landExternal.pgie = s.pgie := rfl
@[simp] theorem State.landExternal_gie (s : State) :
    s.landExternal.gie = s.gie := rfl
@[simp] theorem State.landExternal_ie (s : State) :
    s.landExternal.ie = s.ie := rfl
@[simp] theorem State.landExternal_nmie (s : State) :
    s.landExternal.nmie = s.nmie := rfl
@[simp] theorem State.landExternal_ifl (s : State) :
    s.landExternal.ifl = s.ifl := rfl
@[simp] theorem State.landExternal_nmif (s : State) :
    s.landExternal.nmif = s.nmif := rfl
@[simp] theorem State.landExternal_istb (s : State) :
    s.landExternal.istb = s.istb := rfl
@[simp] theorem State.landExternal_irp (s : State) :
    s.landExternal.irp = s.irp := rfl
@[simp] theorem State.landExternal_nrp (s : State) :
    s.landExternal.nrp = s.nrp := rfl
@[simp] theorem State.landExternal_fadcr (s : State) :
    s.landExternal.fadcr = s.fadcr := rfl
@[simp] theorem State.landExternal_faucr (s : State) :
    s.landExternal.faucr = s.faucr := rfl
@[simp] theorem State.landExternal_fmcr (s : State) :
    s.landExternal.fmcr = s.fmcr := rfl
@[simp] theorem State.landExternal_writes (s : State) :
    s.landExternal.writes = s.writes := rfl
@[simp] theorem State.landExternal_sats (s : State) :
    s.landExternal.sats = s.sats := rfl
@[simp] theorem State.landExternal_warns (s : State) :
    s.landExternal.warns = s.warns := rfl
@[simp] theorem State.landExternal_branches (s : State) :
    s.landExternal.branches = s.branches := rfl
@[simp] theorem State.landExternal_controls (s : State) :
    s.landExternal.controls = s.controls := rfl
@[simp] theorem State.landExternal_isrPend (s : State) :
    s.landExternal.isrPend = s.isrPend := rfl
@[simp] theorem State.landExternal_icrPend (s : State) :
    s.landExternal.icrPend = s.icrPend := rfl
@[simp] theorem State.landExternal_history (s : State) :
    s.landExternal.history = s.history := rfl
@[simp] theorem State.landExternal_nopLeft (s : State) :
    s.landExternal.nopLeft = s.nopLeft := rfl
@[simp] theorem State.landExternal_idle (s : State) :
    s.landExternal.idle = s.idle := rfl
@[simp] theorem State.landExternal_powerDown (s : State) :
    s.landExternal.powerDown = s.powerDown := rfl
@[simp] theorem State.landExternal_emptyLeft (s : State) :
    s.landExternal.emptyLeft = s.emptyLeft := rfl
@[simp] theorem State.landExternal_inputs (s : State) :
    s.landExternal.inputs = s.inputs := rfl
@[simp] theorem State.landExternal_mem (s : State) :
    s.landExternal.mem = writeBytes s.mem (s.external.filter fun c => decide (c.1 ∉ s.stored)) := rfl
@[simp] theorem State.landExternal_pmem (s : State) :
    s.landExternal.pmem = s.pmem := rfl
@[simp] theorem State.landExternal_stored (s : State) :
    s.landExternal.stored = s.stored := rfl
@[simp] theorem State.landExternal_codeStores (s : State) :
    s.landExternal.codeStores = insertAddresses (s.external.map Prod.fst) s.codeStores := rfl
@[simp] theorem State.landExternal_free (s : State) :
    s.landExternal.free = s.free := rfl

/-! `State.landSats`. -/

@[simp] theorem State.landSats_device (s : State) :
    s.landSats.device = s.device := rfl
@[simp] theorem State.landSats_fileA (s : State) :
    s.landSats.fileA = s.fileA := rfl
@[simp] theorem State.landSats_fileB (s : State) :
    s.landSats.fileB = s.fileB := rfl
@[simp] theorem State.landSats_pc (s : State) :
    s.landSats.pc = s.pc := rfl
@[simp] theorem State.landSats_amr (s : State) :
    s.landSats.amr = s.amr := rfl
@[simp] theorem State.landSats_pwrd (s : State) :
    s.landSats.pwrd = s.pwrd := rfl
@[simp] theorem State.landSats_sat (s : State) :
    s.landSats.sat = (s.landingSats.any PendingSat.value || (s.landingSats.isEmpty && s.sat)) := rfl
@[simp] theorem State.landSats_pcc (s : State) :
    s.landSats.pcc = s.pcc := rfl
@[simp] theorem State.landSats_dcc (s : State) :
    s.landSats.dcc = s.dcc := rfl
@[simp] theorem State.landSats_pgie (s : State) :
    s.landSats.pgie = s.pgie := rfl
@[simp] theorem State.landSats_gie (s : State) :
    s.landSats.gie = s.gie := rfl
@[simp] theorem State.landSats_ie (s : State) :
    s.landSats.ie = s.ie := rfl
@[simp] theorem State.landSats_nmie (s : State) :
    s.landSats.nmie = s.nmie := rfl
@[simp] theorem State.landSats_ifl (s : State) :
    s.landSats.ifl = s.ifl := rfl
@[simp] theorem State.landSats_nmif (s : State) :
    s.landSats.nmif = s.nmif := rfl
@[simp] theorem State.landSats_istb (s : State) :
    s.landSats.istb = s.istb := rfl
@[simp] theorem State.landSats_irp (s : State) :
    s.landSats.irp = s.irp := rfl
@[simp] theorem State.landSats_nrp (s : State) :
    s.landSats.nrp = s.nrp := rfl
@[simp] theorem State.landSats_fadcr (s : State) :
    s.landSats.fadcr = s.fadcr := rfl
@[simp] theorem State.landSats_faucr (s : State) :
    s.landSats.faucr = s.faucr := rfl
@[simp] theorem State.landSats_fmcr (s : State) :
    s.landSats.fmcr = s.fmcr := rfl
@[simp] theorem State.landSats_writes (s : State) :
    s.landSats.writes = s.writes := rfl
@[simp] theorem State.landSats_sats (s : State) :
    s.landSats.sats = (s.sats.filter fun p => p.left != 0).map fun p => { p with left := p.left - 1 } := rfl
@[simp] theorem State.landSats_warns (s : State) :
    s.landSats.warns = s.warns := rfl
@[simp] theorem State.landSats_branches (s : State) :
    s.landSats.branches = s.branches := rfl
@[simp] theorem State.landSats_controls (s : State) :
    s.landSats.controls = s.controls := rfl
@[simp] theorem State.landSats_isrPend (s : State) :
    s.landSats.isrPend = s.isrPend := rfl
@[simp] theorem State.landSats_icrPend (s : State) :
    s.landSats.icrPend = s.icrPend := rfl
@[simp] theorem State.landSats_history (s : State) :
    s.landSats.history = s.history := rfl
@[simp] theorem State.landSats_nopLeft (s : State) :
    s.landSats.nopLeft = s.nopLeft := rfl
@[simp] theorem State.landSats_idle (s : State) :
    s.landSats.idle = s.idle := rfl
@[simp] theorem State.landSats_powerDown (s : State) :
    s.landSats.powerDown = s.powerDown := rfl
@[simp] theorem State.landSats_emptyLeft (s : State) :
    s.landSats.emptyLeft = s.emptyLeft := rfl
@[simp] theorem State.landSats_inputs (s : State) :
    s.landSats.inputs = s.inputs := rfl
@[simp] theorem State.landSats_mem (s : State) :
    s.landSats.mem = s.mem := rfl
@[simp] theorem State.landSats_pmem (s : State) :
    s.landSats.pmem = s.pmem := rfl
@[simp] theorem State.landSats_stored (s : State) :
    s.landSats.stored = s.stored := rfl
@[simp] theorem State.landSats_codeStores (s : State) :
    s.landSats.codeStores = s.codeStores := rfl
@[simp] theorem State.landSats_free (s : State) :
    s.landSats.free = s.free := rfl

/-! `State.landBranches`. -/

@[simp] theorem State.landBranches_device (s : State) (seq : Word) (n : Nat) :
    (s.landBranches seq n).device = s.device := rfl
@[simp] theorem State.landBranches_fileA (s : State) (seq : Word) (n : Nat) :
    (s.landBranches seq n).fileA = s.fileA := rfl
@[simp] theorem State.landBranches_fileB (s : State) (seq : Word) (n : Nat) :
    (s.landBranches seq n).fileB = s.fileB := rfl
@[simp] theorem State.landBranches_pc (s : State) (seq : Word) (n : Nat) :
    (s.landBranches seq n).pc = nextPc s.landingTargets seq (freeTarget n) := rfl
@[simp] theorem State.landBranches_amr (s : State) (seq : Word) (n : Nat) :
    (s.landBranches seq n).amr = s.amr := rfl
@[simp] theorem State.landBranches_pwrd (s : State) (seq : Word) (n : Nat) :
    (s.landBranches seq n).pwrd = s.pwrd := rfl
@[simp] theorem State.landBranches_sat (s : State) (seq : Word) (n : Nat) :
    (s.landBranches seq n).sat = s.sat := rfl
@[simp] theorem State.landBranches_pcc (s : State) (seq : Word) (n : Nat) :
    (s.landBranches seq n).pcc = s.pcc := rfl
@[simp] theorem State.landBranches_dcc (s : State) (seq : Word) (n : Nat) :
    (s.landBranches seq n).dcc = s.dcc := rfl
@[simp] theorem State.landBranches_pgie (s : State) (seq : Word) (n : Nat) :
    (s.landBranches seq n).pgie = s.pgie := rfl
@[simp] theorem State.landBranches_gie (s : State) (seq : Word) (n : Nat) :
    (s.landBranches seq n).gie = s.gie := rfl
@[simp] theorem State.landBranches_ie (s : State) (seq : Word) (n : Nat) :
    (s.landBranches seq n).ie = s.ie := rfl
@[simp] theorem State.landBranches_nmie (s : State) (seq : Word) (n : Nat) :
    (s.landBranches seq n).nmie = s.nmie := rfl
@[simp] theorem State.landBranches_ifl (s : State) (seq : Word) (n : Nat) :
    (s.landBranches seq n).ifl = s.ifl := rfl
@[simp] theorem State.landBranches_nmif (s : State) (seq : Word) (n : Nat) :
    (s.landBranches seq n).nmif = s.nmif := rfl
@[simp] theorem State.landBranches_istb (s : State) (seq : Word) (n : Nat) :
    (s.landBranches seq n).istb = s.istb := rfl
@[simp] theorem State.landBranches_irp (s : State) (seq : Word) (n : Nat) :
    (s.landBranches seq n).irp = s.irp := rfl
@[simp] theorem State.landBranches_nrp (s : State) (seq : Word) (n : Nat) :
    (s.landBranches seq n).nrp = s.nrp := rfl
@[simp] theorem State.landBranches_fadcr (s : State) (seq : Word) (n : Nat) :
    (s.landBranches seq n).fadcr = s.fadcr := rfl
@[simp] theorem State.landBranches_faucr (s : State) (seq : Word) (n : Nat) :
    (s.landBranches seq n).faucr = s.faucr := rfl
@[simp] theorem State.landBranches_fmcr (s : State) (seq : Word) (n : Nat) :
    (s.landBranches seq n).fmcr = s.fmcr := rfl
@[simp] theorem State.landBranches_writes (s : State) (seq : Word) (n : Nat) :
    (s.landBranches seq n).writes = s.writes := rfl
@[simp] theorem State.landBranches_sats (s : State) (seq : Word) (n : Nat) :
    (s.landBranches seq n).sats = s.sats := rfl
@[simp] theorem State.landBranches_warns (s : State) (seq : Word) (n : Nat) :
    (s.landBranches seq n).warns = s.warns := rfl
@[simp] theorem State.landBranches_branches (s : State) (seq : Word) (n : Nat) :
    (s.landBranches seq n).branches = (s.branches.filter fun b => b.left != 0).map fun b => { b with left := b.left - 1 } := rfl
@[simp] theorem State.landBranches_controls (s : State) (seq : Word) (n : Nat) :
    (s.landBranches seq n).controls = s.controls := rfl
@[simp] theorem State.landBranches_isrPend (s : State) (seq : Word) (n : Nat) :
    (s.landBranches seq n).isrPend = s.isrPend := rfl
@[simp] theorem State.landBranches_icrPend (s : State) (seq : Word) (n : Nat) :
    (s.landBranches seq n).icrPend = s.icrPend := rfl
@[simp] theorem State.landBranches_history (s : State) (seq : Word) (n : Nat) :
    (s.landBranches seq n).history = s.history := rfl
@[simp] theorem State.landBranches_nopLeft (s : State) (seq : Word) (n : Nat) :
    (s.landBranches seq n).nopLeft = (if s.landingTargets.isEmpty then s.nopLeft else 0) := rfl
@[simp] theorem State.landBranches_idle (s : State) (seq : Word) (n : Nat) :
    (s.landBranches seq n).idle = (s.idle && s.landingTargets.isEmpty) := rfl
@[simp] theorem State.landBranches_powerDown (s : State) (seq : Word) (n : Nat) :
    (s.landBranches seq n).powerDown = s.powerDown := rfl
@[simp] theorem State.landBranches_emptyLeft (s : State) (seq : Word) (n : Nat) :
    (s.landBranches seq n).emptyLeft = s.emptyLeft := rfl
@[simp] theorem State.landBranches_inputs (s : State) (seq : Word) (n : Nat) :
    (s.landBranches seq n).inputs = s.inputs := rfl
@[simp] theorem State.landBranches_mem (s : State) (seq : Word) (n : Nat) :
    (s.landBranches seq n).mem = s.mem := rfl
@[simp] theorem State.landBranches_pmem (s : State) (seq : Word) (n : Nat) :
    (s.landBranches seq n).pmem = s.pmem := rfl
@[simp] theorem State.landBranches_stored (s : State) (seq : Word) (n : Nat) :
    (s.landBranches seq n).stored = s.stored := rfl
@[simp] theorem State.landBranches_codeStores (s : State) (seq : Word) (n : Nat) :
    (s.landBranches seq n).codeStores = s.codeStores := rfl
@[simp] theorem State.landBranches_free (s : State) (seq : Word) (n : Nat) :
    (s.landBranches seq n).free = s.free := rfl

/-! `State.clearPowerDown`. -/

@[simp] theorem State.clearPowerDown_device (s : State) :
    s.clearPowerDown.device = s.device := rfl
@[simp] theorem State.clearPowerDown_fileA (s : State) :
    s.clearPowerDown.fileA = s.fileA := rfl
@[simp] theorem State.clearPowerDown_fileB (s : State) :
    s.clearPowerDown.fileB = s.fileB := rfl
@[simp] theorem State.clearPowerDown_pc (s : State) :
    s.clearPowerDown.pc = s.pc := rfl
@[simp] theorem State.clearPowerDown_amr (s : State) :
    s.clearPowerDown.amr = s.amr := rfl
@[simp] theorem State.clearPowerDown_pwrd (s : State) :
    s.clearPowerDown.pwrd = (if s.powerDown.isSome && s.device.pwrdClearedOnWake then 0#6 else s.pwrd) := rfl
@[simp] theorem State.clearPowerDown_sat (s : State) :
    s.clearPowerDown.sat = s.sat := rfl
@[simp] theorem State.clearPowerDown_pcc (s : State) :
    s.clearPowerDown.pcc = s.pcc := rfl
@[simp] theorem State.clearPowerDown_dcc (s : State) :
    s.clearPowerDown.dcc = s.dcc := rfl
@[simp] theorem State.clearPowerDown_pgie (s : State) :
    s.clearPowerDown.pgie = s.pgie := rfl
@[simp] theorem State.clearPowerDown_gie (s : State) :
    s.clearPowerDown.gie = s.gie := rfl
@[simp] theorem State.clearPowerDown_ie (s : State) :
    s.clearPowerDown.ie = s.ie := rfl
@[simp] theorem State.clearPowerDown_nmie (s : State) :
    s.clearPowerDown.nmie = s.nmie := rfl
@[simp] theorem State.clearPowerDown_ifl (s : State) :
    s.clearPowerDown.ifl = s.ifl := rfl
@[simp] theorem State.clearPowerDown_nmif (s : State) :
    s.clearPowerDown.nmif = s.nmif := rfl
@[simp] theorem State.clearPowerDown_istb (s : State) :
    s.clearPowerDown.istb = s.istb := rfl
@[simp] theorem State.clearPowerDown_irp (s : State) :
    s.clearPowerDown.irp = s.irp := rfl
@[simp] theorem State.clearPowerDown_nrp (s : State) :
    s.clearPowerDown.nrp = s.nrp := rfl
@[simp] theorem State.clearPowerDown_fadcr (s : State) :
    s.clearPowerDown.fadcr = s.fadcr := rfl
@[simp] theorem State.clearPowerDown_faucr (s : State) :
    s.clearPowerDown.faucr = s.faucr := rfl
@[simp] theorem State.clearPowerDown_fmcr (s : State) :
    s.clearPowerDown.fmcr = s.fmcr := rfl
@[simp] theorem State.clearPowerDown_writes (s : State) :
    s.clearPowerDown.writes = s.writes := rfl
@[simp] theorem State.clearPowerDown_sats (s : State) :
    s.clearPowerDown.sats = s.sats := rfl
@[simp] theorem State.clearPowerDown_warns (s : State) :
    s.clearPowerDown.warns = s.warns := rfl
@[simp] theorem State.clearPowerDown_branches (s : State) :
    s.clearPowerDown.branches = s.branches := rfl
@[simp] theorem State.clearPowerDown_controls (s : State) :
    s.clearPowerDown.controls = s.controls := rfl
@[simp] theorem State.clearPowerDown_isrPend (s : State) :
    s.clearPowerDown.isrPend = s.isrPend := rfl
@[simp] theorem State.clearPowerDown_icrPend (s : State) :
    s.clearPowerDown.icrPend = s.icrPend := rfl
@[simp] theorem State.clearPowerDown_history (s : State) :
    s.clearPowerDown.history = s.history := rfl
@[simp] theorem State.clearPowerDown_nopLeft (s : State) :
    s.clearPowerDown.nopLeft = s.nopLeft := rfl
@[simp] theorem State.clearPowerDown_idle (s : State) :
    s.clearPowerDown.idle = s.idle := rfl
@[simp] theorem State.clearPowerDown_powerDown (s : State) :
    s.clearPowerDown.powerDown = none := rfl
@[simp] theorem State.clearPowerDown_emptyLeft (s : State) :
    s.clearPowerDown.emptyLeft = s.emptyLeft := rfl
@[simp] theorem State.clearPowerDown_inputs (s : State) :
    s.clearPowerDown.inputs = s.inputs := rfl
@[simp] theorem State.clearPowerDown_mem (s : State) :
    s.clearPowerDown.mem = s.mem := rfl
@[simp] theorem State.clearPowerDown_pmem (s : State) :
    s.clearPowerDown.pmem = s.pmem := rfl
@[simp] theorem State.clearPowerDown_stored (s : State) :
    s.clearPowerDown.stored = s.stored := rfl
@[simp] theorem State.clearPowerDown_codeStores (s : State) :
    s.clearPowerDown.codeStores = s.codeStores := rfl
@[simp] theorem State.clearPowerDown_free (s : State) :
    s.clearPowerDown.free = s.free := rfl

/-! `State.writeCsr`. -/

@[simp] theorem State.writeCsr_device (s : State) (v : Word) :
    (s.writeCsr v).device = s.device := rfl
@[simp] theorem State.writeCsr_fileA (s : State) (v : Word) :
    (s.writeCsr v).fileA = s.fileA := rfl
@[simp] theorem State.writeCsr_fileB (s : State) (v : Word) :
    (s.writeCsr v).fileB = s.fileB := rfl
@[simp] theorem State.writeCsr_pc (s : State) (v : Word) :
    (s.writeCsr v).pc = s.pc := rfl
@[simp] theorem State.writeCsr_amr (s : State) (v : Word) :
    (s.writeCsr v).amr = s.amr := rfl
@[simp] theorem State.writeCsr_pwrd (s : State) (v : Word) :
    (s.writeCsr v).pwrd = v.extractLsb' 10 6 := rfl
@[simp] theorem State.writeCsr_sat (s : State) (v : Word) :
    (s.writeCsr v).sat = (s.sat && v.getLsbD 9 && !s.device.satWrite1Clears) := rfl
@[simp] theorem State.writeCsr_pcc (s : State) (v : Word) :
    (s.writeCsr v).pcc = v.extractLsb' 5 3 := rfl
@[simp] theorem State.writeCsr_dcc (s : State) (v : Word) :
    (s.writeCsr v).dcc = v.extractLsb' 2 3 := rfl
@[simp] theorem State.writeCsr_pgie (s : State) (v : Word) :
    (s.writeCsr v).pgie = v.getLsbD 1 := rfl
@[simp] theorem State.writeCsr_gie (s : State) (v : Word) :
    (s.writeCsr v).gie = v.getLsbD 0 := rfl
@[simp] theorem State.writeCsr_ie (s : State) (v : Word) :
    (s.writeCsr v).ie = s.ie := rfl
@[simp] theorem State.writeCsr_nmie (s : State) (v : Word) :
    (s.writeCsr v).nmie = s.nmie := rfl
@[simp] theorem State.writeCsr_ifl (s : State) (v : Word) :
    (s.writeCsr v).ifl = s.ifl := rfl
@[simp] theorem State.writeCsr_nmif (s : State) (v : Word) :
    (s.writeCsr v).nmif = s.nmif := rfl
@[simp] theorem State.writeCsr_istb (s : State) (v : Word) :
    (s.writeCsr v).istb = s.istb := rfl
@[simp] theorem State.writeCsr_irp (s : State) (v : Word) :
    (s.writeCsr v).irp = s.irp := rfl
@[simp] theorem State.writeCsr_nrp (s : State) (v : Word) :
    (s.writeCsr v).nrp = s.nrp := rfl
@[simp] theorem State.writeCsr_fadcr (s : State) (v : Word) :
    (s.writeCsr v).fadcr = s.fadcr := rfl
@[simp] theorem State.writeCsr_faucr (s : State) (v : Word) :
    (s.writeCsr v).faucr = s.faucr := rfl
@[simp] theorem State.writeCsr_fmcr (s : State) (v : Word) :
    (s.writeCsr v).fmcr = s.fmcr := rfl
@[simp] theorem State.writeCsr_writes (s : State) (v : Word) :
    (s.writeCsr v).writes = s.writes := rfl
@[simp] theorem State.writeCsr_sats (s : State) (v : Word) :
    (s.writeCsr v).sats = s.sats := rfl
@[simp] theorem State.writeCsr_warns (s : State) (v : Word) :
    (s.writeCsr v).warns = s.warns := rfl
@[simp] theorem State.writeCsr_branches (s : State) (v : Word) :
    (s.writeCsr v).branches = s.branches := rfl
@[simp] theorem State.writeCsr_controls (s : State) (v : Word) :
    (s.writeCsr v).controls = s.controls := rfl
@[simp] theorem State.writeCsr_isrPend (s : State) (v : Word) :
    (s.writeCsr v).isrPend = s.isrPend := rfl
@[simp] theorem State.writeCsr_icrPend (s : State) (v : Word) :
    (s.writeCsr v).icrPend = s.icrPend := rfl
@[simp] theorem State.writeCsr_history (s : State) (v : Word) :
    (s.writeCsr v).history = s.history := rfl
@[simp] theorem State.writeCsr_nopLeft (s : State) (v : Word) :
    (s.writeCsr v).nopLeft = s.nopLeft := rfl
@[simp] theorem State.writeCsr_idle (s : State) (v : Word) :
    (s.writeCsr v).idle = s.idle := rfl
@[simp] theorem State.writeCsr_powerDown (s : State) (v : Word) :
    (s.writeCsr v).powerDown = s.powerDown := rfl
@[simp] theorem State.writeCsr_emptyLeft (s : State) (v : Word) :
    (s.writeCsr v).emptyLeft = s.emptyLeft := rfl
@[simp] theorem State.writeCsr_inputs (s : State) (v : Word) :
    (s.writeCsr v).inputs = s.inputs := rfl
@[simp] theorem State.writeCsr_mem (s : State) (v : Word) :
    (s.writeCsr v).mem = s.mem := rfl
@[simp] theorem State.writeCsr_pmem (s : State) (v : Word) :
    (s.writeCsr v).pmem = s.pmem := rfl
@[simp] theorem State.writeCsr_stored (s : State) (v : Word) :
    (s.writeCsr v).stored = s.stored := rfl
@[simp] theorem State.writeCsr_codeStores (s : State) (v : Word) :
    (s.writeCsr v).codeStores = s.codeStores := rfl
@[simp] theorem State.writeCsr_free (s : State) (v : Word) :
    (s.writeCsr v).free = s.free := rfl

/-! `State.latchFlags`. -/

@[simp] theorem State.latchFlags_device (s : State) :
    s.latchFlags.device = s.device := by
  unfold State.latchFlags; split <;> rfl
@[simp] theorem State.latchFlags_fileA (s : State) :
    s.latchFlags.fileA = s.fileA := by
  unfold State.latchFlags; split <;> rfl
@[simp] theorem State.latchFlags_fileB (s : State) :
    s.latchFlags.fileB = s.fileB := by
  unfold State.latchFlags; split <;> rfl
@[simp] theorem State.latchFlags_pc (s : State) :
    s.latchFlags.pc = s.pc := by
  unfold State.latchFlags; split <;> rfl
@[simp] theorem State.latchFlags_amr (s : State) :
    s.latchFlags.amr = s.amr := by
  unfold State.latchFlags; split <;> rfl
@[simp] theorem State.latchFlags_sat (s : State) :
    s.latchFlags.sat = s.sat := by
  unfold State.latchFlags; split <;> rfl
@[simp] theorem State.latchFlags_pcc (s : State) :
    s.latchFlags.pcc = s.pcc := by
  unfold State.latchFlags; split <;> rfl
@[simp] theorem State.latchFlags_dcc (s : State) :
    s.latchFlags.dcc = s.dcc := by
  unfold State.latchFlags; split <;> rfl
@[simp] theorem State.latchFlags_pgie (s : State) :
    s.latchFlags.pgie = s.pgie := by
  unfold State.latchFlags; split <;> rfl
@[simp] theorem State.latchFlags_gie (s : State) :
    s.latchFlags.gie = s.gie := by
  unfold State.latchFlags; split <;> rfl
@[simp] theorem State.latchFlags_ie (s : State) :
    s.latchFlags.ie = s.ie := by
  unfold State.latchFlags; split <;> rfl
@[simp] theorem State.latchFlags_nmie (s : State) :
    s.latchFlags.nmie = s.nmie := by
  unfold State.latchFlags; split <;> rfl
@[simp] theorem State.latchFlags_ifl (s : State) :
    s.latchFlags.ifl = s.nextFlags := rfl
@[simp] theorem State.latchFlags_nmif (s : State) :
    s.latchFlags.nmif = (s.nmif || s.input.nmi) := rfl
@[simp] theorem State.latchFlags_istb (s : State) :
    s.latchFlags.istb = s.istb := by
  unfold State.latchFlags; split <;> rfl
@[simp] theorem State.latchFlags_irp (s : State) :
    s.latchFlags.irp = s.irp := by
  unfold State.latchFlags; split <;> rfl
@[simp] theorem State.latchFlags_nrp (s : State) :
    s.latchFlags.nrp = s.nrp := by
  unfold State.latchFlags; split <;> rfl
@[simp] theorem State.latchFlags_fadcr (s : State) :
    s.latchFlags.fadcr = s.fadcr := by
  unfold State.latchFlags; split <;> rfl
@[simp] theorem State.latchFlags_faucr (s : State) :
    s.latchFlags.faucr = s.faucr := by
  unfold State.latchFlags; split <;> rfl
@[simp] theorem State.latchFlags_fmcr (s : State) :
    s.latchFlags.fmcr = s.fmcr := by
  unfold State.latchFlags; split <;> rfl
@[simp] theorem State.latchFlags_writes (s : State) :
    s.latchFlags.writes = s.writes := by
  unfold State.latchFlags; split <;> rfl
@[simp] theorem State.latchFlags_sats (s : State) :
    s.latchFlags.sats = s.sats := by
  unfold State.latchFlags; split <;> rfl
@[simp] theorem State.latchFlags_warns (s : State) :
    s.latchFlags.warns = s.warns := by
  unfold State.latchFlags; split <;> rfl
@[simp] theorem State.latchFlags_branches (s : State) :
    s.latchFlags.branches = s.branches := by
  unfold State.latchFlags; split <;> rfl
@[simp] theorem State.latchFlags_controls (s : State) :
    s.latchFlags.controls = s.controls := by
  unfold State.latchFlags; split <;> rfl
@[simp] theorem State.latchFlags_isrPend (s : State) :
    s.latchFlags.isrPend = 0#12 := rfl
@[simp] theorem State.latchFlags_icrPend (s : State) :
    s.latchFlags.icrPend = 0#12 := rfl
@[simp] theorem State.latchFlags_history (s : State) :
    s.latchFlags.history = s.history := by
  unfold State.latchFlags; split <;> rfl
@[simp] theorem State.latchFlags_nopLeft (s : State) :
    s.latchFlags.nopLeft = s.nopLeft := by
  unfold State.latchFlags; split <;> rfl
@[simp] theorem State.latchFlags_idle (s : State) :
    s.latchFlags.idle = s.idle := by
  unfold State.latchFlags; split <;> rfl
@[simp] theorem State.latchFlags_emptyLeft (s : State) :
    s.latchFlags.emptyLeft = s.emptyLeft := by
  unfold State.latchFlags; split <;> rfl
@[simp] theorem State.latchFlags_inputs (s : State) :
    s.latchFlags.inputs = s.inputs := by
  unfold State.latchFlags; split <;> rfl
@[simp] theorem State.latchFlags_mem (s : State) :
    s.latchFlags.mem = s.mem := by
  unfold State.latchFlags; split <;> rfl
@[simp] theorem State.latchFlags_pmem (s : State) :
    s.latchFlags.pmem = s.pmem := by
  unfold State.latchFlags; split <;> rfl
@[simp] theorem State.latchFlags_stored (s : State) :
    s.latchFlags.stored = s.stored := by
  unfold State.latchFlags; split <;> rfl
@[simp] theorem State.latchFlags_codeStores (s : State) :
    s.latchFlags.codeStores = s.codeStores := by
  unfold State.latchFlags; split <;> rfl
@[simp] theorem State.latchFlags_free (s : State) :
    s.latchFlags.free = s.free := by
  unfold State.latchFlags; split <;> rfl

/-! `State.setReg`. -/

@[simp] theorem State.setReg_device (s : State) (n : RegName) (v : Word) : (s.setReg n v).device = s.device := by
  unfold State.setReg; repeat (first | rfl | split)
@[simp] theorem State.setReg_pc (s : State) (n : RegName) (v : Word) : (s.setReg n v).pc = s.pc := by
  unfold State.setReg; repeat (first | rfl | split)
@[simp] theorem State.setReg_amr (s : State) (n : RegName) (v : Word) : (s.setReg n v).amr = s.amr := by
  unfold State.setReg; repeat (first | rfl | split)
@[simp] theorem State.setReg_pwrd (s : State) (n : RegName) (v : Word) : (s.setReg n v).pwrd = s.pwrd := by
  unfold State.setReg; repeat (first | rfl | split)
@[simp] theorem State.setReg_sat (s : State) (n : RegName) (v : Word) : (s.setReg n v).sat = s.sat := by
  unfold State.setReg; repeat (first | rfl | split)
@[simp] theorem State.setReg_pcc (s : State) (n : RegName) (v : Word) : (s.setReg n v).pcc = s.pcc := by
  unfold State.setReg; repeat (first | rfl | split)
@[simp] theorem State.setReg_dcc (s : State) (n : RegName) (v : Word) : (s.setReg n v).dcc = s.dcc := by
  unfold State.setReg; repeat (first | rfl | split)
@[simp] theorem State.setReg_pgie (s : State) (n : RegName) (v : Word) : (s.setReg n v).pgie = s.pgie := by
  unfold State.setReg; repeat (first | rfl | split)
@[simp] theorem State.setReg_gie (s : State) (n : RegName) (v : Word) : (s.setReg n v).gie = s.gie := by
  unfold State.setReg; repeat (first | rfl | split)
@[simp] theorem State.setReg_ie (s : State) (n : RegName) (v : Word) : (s.setReg n v).ie = s.ie := by
  unfold State.setReg; repeat (first | rfl | split)
@[simp] theorem State.setReg_nmie (s : State) (n : RegName) (v : Word) : (s.setReg n v).nmie = s.nmie := by
  unfold State.setReg; repeat (first | rfl | split)
@[simp] theorem State.setReg_ifl (s : State) (n : RegName) (v : Word) : (s.setReg n v).ifl = s.ifl := by
  unfold State.setReg; repeat (first | rfl | split)
@[simp] theorem State.setReg_nmif (s : State) (n : RegName) (v : Word) : (s.setReg n v).nmif = s.nmif := by
  unfold State.setReg; repeat (first | rfl | split)
@[simp] theorem State.setReg_istb (s : State) (n : RegName) (v : Word) : (s.setReg n v).istb = s.istb := by
  unfold State.setReg; repeat (first | rfl | split)
@[simp] theorem State.setReg_irp (s : State) (n : RegName) (v : Word) : (s.setReg n v).irp = s.irp := by
  unfold State.setReg; repeat (first | rfl | split)
@[simp] theorem State.setReg_nrp (s : State) (n : RegName) (v : Word) : (s.setReg n v).nrp = s.nrp := by
  unfold State.setReg; repeat (first | rfl | split)
@[simp] theorem State.setReg_fadcr (s : State) (n : RegName) (v : Word) : (s.setReg n v).fadcr = s.fadcr := by
  unfold State.setReg; repeat (first | rfl | split)
@[simp] theorem State.setReg_faucr (s : State) (n : RegName) (v : Word) : (s.setReg n v).faucr = s.faucr := by
  unfold State.setReg; repeat (first | rfl | split)
@[simp] theorem State.setReg_fmcr (s : State) (n : RegName) (v : Word) : (s.setReg n v).fmcr = s.fmcr := by
  unfold State.setReg; repeat (first | rfl | split)
@[simp] theorem State.setReg_writes (s : State) (n : RegName) (v : Word) : (s.setReg n v).writes = s.writes := by
  unfold State.setReg; repeat (first | rfl | split)
@[simp] theorem State.setReg_sats (s : State) (n : RegName) (v : Word) : (s.setReg n v).sats = s.sats := by
  unfold State.setReg; repeat (first | rfl | split)
@[simp] theorem State.setReg_warns (s : State) (n : RegName) (v : Word) : (s.setReg n v).warns = s.warns := by
  unfold State.setReg; repeat (first | rfl | split)
@[simp] theorem State.setReg_branches (s : State) (n : RegName) (v : Word) : (s.setReg n v).branches = s.branches := by
  unfold State.setReg; repeat (first | rfl | split)
@[simp] theorem State.setReg_controls (s : State) (n : RegName) (v : Word) : (s.setReg n v).controls = s.controls := by
  unfold State.setReg; repeat (first | rfl | split)
@[simp] theorem State.setReg_isrPend (s : State) (n : RegName) (v : Word) : (s.setReg n v).isrPend = s.isrPend := by
  unfold State.setReg; repeat (first | rfl | split)
@[simp] theorem State.setReg_icrPend (s : State) (n : RegName) (v : Word) : (s.setReg n v).icrPend = s.icrPend := by
  unfold State.setReg; repeat (first | rfl | split)
@[simp] theorem State.setReg_history (s : State) (n : RegName) (v : Word) : (s.setReg n v).history = s.history := by
  unfold State.setReg; repeat (first | rfl | split)
@[simp] theorem State.setReg_nopLeft (s : State) (n : RegName) (v : Word) : (s.setReg n v).nopLeft = s.nopLeft := by
  unfold State.setReg; repeat (first | rfl | split)
@[simp] theorem State.setReg_idle (s : State) (n : RegName) (v : Word) : (s.setReg n v).idle = s.idle := by
  unfold State.setReg; repeat (first | rfl | split)
@[simp] theorem State.setReg_powerDown (s : State) (n : RegName) (v : Word) : (s.setReg n v).powerDown = s.powerDown := by
  unfold State.setReg; repeat (first | rfl | split)
@[simp] theorem State.setReg_emptyLeft (s : State) (n : RegName) (v : Word) : (s.setReg n v).emptyLeft = s.emptyLeft := by
  unfold State.setReg; repeat (first | rfl | split)
@[simp] theorem State.setReg_inputs (s : State) (n : RegName) (v : Word) : (s.setReg n v).inputs = s.inputs := by
  unfold State.setReg; repeat (first | rfl | split)
@[simp] theorem State.setReg_mem (s : State) (n : RegName) (v : Word) : (s.setReg n v).mem = s.mem := by
  unfold State.setReg; repeat (first | rfl | split)
@[simp] theorem State.setReg_pmem (s : State) (n : RegName) (v : Word) : (s.setReg n v).pmem = s.pmem := by
  unfold State.setReg; repeat (first | rfl | split)
@[simp] theorem State.setReg_stored (s : State) (n : RegName) (v : Word) : (s.setReg n v).stored = s.stored := by
  unfold State.setReg; repeat (first | rfl | split)
@[simp] theorem State.setReg_codeStores (s : State) (n : RegName) (v : Word) : (s.setReg n v).codeStores = s.codeStores := by
  unfold State.setReg; repeat (first | rfl | split)
@[simp] theorem State.setReg_free (s : State) (n : RegName) (v : Word) : (s.setReg n v).free = s.free := by
  unfold State.setReg; repeat (first | rfl | split)

/-! `State.noteOverflow`. -/

@[simp] theorem State.noteOverflow_device (s : State) (left : Nat) (c : Bool) : (s.noteOverflow left c).device = s.device := by
  unfold State.noteOverflow; repeat (first | rfl | split)
@[simp] theorem State.noteOverflow_fileA (s : State) (left : Nat) (c : Bool) : (s.noteOverflow left c).fileA = s.fileA := by
  unfold State.noteOverflow; repeat (first | rfl | split)
@[simp] theorem State.noteOverflow_fileB (s : State) (left : Nat) (c : Bool) : (s.noteOverflow left c).fileB = s.fileB := by
  unfold State.noteOverflow; repeat (first | rfl | split)
@[simp] theorem State.noteOverflow_pc (s : State) (left : Nat) (c : Bool) : (s.noteOverflow left c).pc = s.pc := by
  unfold State.noteOverflow; repeat (first | rfl | split)
@[simp] theorem State.noteOverflow_amr (s : State) (left : Nat) (c : Bool) : (s.noteOverflow left c).amr = s.amr := by
  unfold State.noteOverflow; repeat (first | rfl | split)
@[simp] theorem State.noteOverflow_pwrd (s : State) (left : Nat) (c : Bool) : (s.noteOverflow left c).pwrd = s.pwrd := by
  unfold State.noteOverflow; repeat (first | rfl | split)
@[simp] theorem State.noteOverflow_sat (s : State) (left : Nat) (c : Bool) : (s.noteOverflow left c).sat = s.sat := by
  unfold State.noteOverflow; repeat (first | rfl | split)
@[simp] theorem State.noteOverflow_pcc (s : State) (left : Nat) (c : Bool) : (s.noteOverflow left c).pcc = s.pcc := by
  unfold State.noteOverflow; repeat (first | rfl | split)
@[simp] theorem State.noteOverflow_dcc (s : State) (left : Nat) (c : Bool) : (s.noteOverflow left c).dcc = s.dcc := by
  unfold State.noteOverflow; repeat (first | rfl | split)
@[simp] theorem State.noteOverflow_pgie (s : State) (left : Nat) (c : Bool) : (s.noteOverflow left c).pgie = s.pgie := by
  unfold State.noteOverflow; repeat (first | rfl | split)
@[simp] theorem State.noteOverflow_gie (s : State) (left : Nat) (c : Bool) : (s.noteOverflow left c).gie = s.gie := by
  unfold State.noteOverflow; repeat (first | rfl | split)
@[simp] theorem State.noteOverflow_ie (s : State) (left : Nat) (c : Bool) : (s.noteOverflow left c).ie = s.ie := by
  unfold State.noteOverflow; repeat (first | rfl | split)
@[simp] theorem State.noteOverflow_nmie (s : State) (left : Nat) (c : Bool) : (s.noteOverflow left c).nmie = s.nmie := by
  unfold State.noteOverflow; repeat (first | rfl | split)
@[simp] theorem State.noteOverflow_ifl (s : State) (left : Nat) (c : Bool) : (s.noteOverflow left c).ifl = s.ifl := by
  unfold State.noteOverflow; repeat (first | rfl | split)
@[simp] theorem State.noteOverflow_nmif (s : State) (left : Nat) (c : Bool) : (s.noteOverflow left c).nmif = s.nmif := by
  unfold State.noteOverflow; repeat (first | rfl | split)
@[simp] theorem State.noteOverflow_istb (s : State) (left : Nat) (c : Bool) : (s.noteOverflow left c).istb = s.istb := by
  unfold State.noteOverflow; repeat (first | rfl | split)
@[simp] theorem State.noteOverflow_irp (s : State) (left : Nat) (c : Bool) : (s.noteOverflow left c).irp = s.irp := by
  unfold State.noteOverflow; repeat (first | rfl | split)
@[simp] theorem State.noteOverflow_nrp (s : State) (left : Nat) (c : Bool) : (s.noteOverflow left c).nrp = s.nrp := by
  unfold State.noteOverflow; repeat (first | rfl | split)
@[simp] theorem State.noteOverflow_fadcr (s : State) (left : Nat) (c : Bool) : (s.noteOverflow left c).fadcr = s.fadcr := by
  unfold State.noteOverflow; repeat (first | rfl | split)
@[simp] theorem State.noteOverflow_faucr (s : State) (left : Nat) (c : Bool) : (s.noteOverflow left c).faucr = s.faucr := by
  unfold State.noteOverflow; repeat (first | rfl | split)
@[simp] theorem State.noteOverflow_fmcr (s : State) (left : Nat) (c : Bool) : (s.noteOverflow left c).fmcr = s.fmcr := by
  unfold State.noteOverflow; repeat (first | rfl | split)
@[simp] theorem State.noteOverflow_writes (s : State) (left : Nat) (c : Bool) : (s.noteOverflow left c).writes = s.writes := by
  unfold State.noteOverflow; repeat (first | rfl | split)
@[simp] theorem State.noteOverflow_warns (s : State) (left : Nat) (c : Bool) : (s.noteOverflow left c).warns = s.warns := by
  unfold State.noteOverflow; repeat (first | rfl | split)
@[simp] theorem State.noteOverflow_branches (s : State) (left : Nat) (c : Bool) : (s.noteOverflow left c).branches = s.branches := by
  unfold State.noteOverflow; repeat (first | rfl | split)
@[simp] theorem State.noteOverflow_controls (s : State) (left : Nat) (c : Bool) : (s.noteOverflow left c).controls = s.controls := by
  unfold State.noteOverflow; repeat (first | rfl | split)
@[simp] theorem State.noteOverflow_isrPend (s : State) (left : Nat) (c : Bool) : (s.noteOverflow left c).isrPend = s.isrPend := by
  unfold State.noteOverflow; repeat (first | rfl | split)
@[simp] theorem State.noteOverflow_icrPend (s : State) (left : Nat) (c : Bool) : (s.noteOverflow left c).icrPend = s.icrPend := by
  unfold State.noteOverflow; repeat (first | rfl | split)
@[simp] theorem State.noteOverflow_history (s : State) (left : Nat) (c : Bool) : (s.noteOverflow left c).history = s.history := by
  unfold State.noteOverflow; repeat (first | rfl | split)
@[simp] theorem State.noteOverflow_nopLeft (s : State) (left : Nat) (c : Bool) : (s.noteOverflow left c).nopLeft = s.nopLeft := by
  unfold State.noteOverflow; repeat (first | rfl | split)
@[simp] theorem State.noteOverflow_idle (s : State) (left : Nat) (c : Bool) : (s.noteOverflow left c).idle = s.idle := by
  unfold State.noteOverflow; repeat (first | rfl | split)
@[simp] theorem State.noteOverflow_powerDown (s : State) (left : Nat) (c : Bool) : (s.noteOverflow left c).powerDown = s.powerDown := by
  unfold State.noteOverflow; repeat (first | rfl | split)
@[simp] theorem State.noteOverflow_emptyLeft (s : State) (left : Nat) (c : Bool) : (s.noteOverflow left c).emptyLeft = s.emptyLeft := by
  unfold State.noteOverflow; repeat (first | rfl | split)
@[simp] theorem State.noteOverflow_inputs (s : State) (left : Nat) (c : Bool) : (s.noteOverflow left c).inputs = s.inputs := by
  unfold State.noteOverflow; repeat (first | rfl | split)
@[simp] theorem State.noteOverflow_mem (s : State) (left : Nat) (c : Bool) : (s.noteOverflow left c).mem = s.mem := by
  unfold State.noteOverflow; repeat (first | rfl | split)
@[simp] theorem State.noteOverflow_pmem (s : State) (left : Nat) (c : Bool) : (s.noteOverflow left c).pmem = s.pmem := by
  unfold State.noteOverflow; repeat (first | rfl | split)
@[simp] theorem State.noteOverflow_stored (s : State) (left : Nat) (c : Bool) : (s.noteOverflow left c).stored = s.stored := by
  unfold State.noteOverflow; repeat (first | rfl | split)
@[simp] theorem State.noteOverflow_codeStores (s : State) (left : Nat) (c : Bool) : (s.noteOverflow left c).codeStores = s.codeStores := by
  unfold State.noteOverflow; repeat (first | rfl | split)
@[simp] theorem State.noteOverflow_free (s : State) (left : Nat) (c : Bool) : (s.noteOverflow left c).free = s.free := by
  unfold State.noteOverflow; repeat (first | rfl | split)

/-! `State.drawFor`. -/

@[simp] theorem State.drawFor_device (s : State) (v : Option Word) : (s.drawFor v).device = s.device := by
  unfold State.drawFor; repeat (first | rfl | split)
@[simp] theorem State.drawFor_fileA (s : State) (v : Option Word) : (s.drawFor v).fileA = s.fileA := by
  unfold State.drawFor; repeat (first | rfl | split)
@[simp] theorem State.drawFor_fileB (s : State) (v : Option Word) : (s.drawFor v).fileB = s.fileB := by
  unfold State.drawFor; repeat (first | rfl | split)
@[simp] theorem State.drawFor_pc (s : State) (v : Option Word) : (s.drawFor v).pc = s.pc := by
  unfold State.drawFor; repeat (first | rfl | split)
@[simp] theorem State.drawFor_amr (s : State) (v : Option Word) : (s.drawFor v).amr = s.amr := by
  unfold State.drawFor; repeat (first | rfl | split)
@[simp] theorem State.drawFor_pwrd (s : State) (v : Option Word) : (s.drawFor v).pwrd = s.pwrd := by
  unfold State.drawFor; repeat (first | rfl | split)
@[simp] theorem State.drawFor_sat (s : State) (v : Option Word) : (s.drawFor v).sat = s.sat := by
  unfold State.drawFor; repeat (first | rfl | split)
@[simp] theorem State.drawFor_pcc (s : State) (v : Option Word) : (s.drawFor v).pcc = s.pcc := by
  unfold State.drawFor; repeat (first | rfl | split)
@[simp] theorem State.drawFor_dcc (s : State) (v : Option Word) : (s.drawFor v).dcc = s.dcc := by
  unfold State.drawFor; repeat (first | rfl | split)
@[simp] theorem State.drawFor_pgie (s : State) (v : Option Word) : (s.drawFor v).pgie = s.pgie := by
  unfold State.drawFor; repeat (first | rfl | split)
@[simp] theorem State.drawFor_gie (s : State) (v : Option Word) : (s.drawFor v).gie = s.gie := by
  unfold State.drawFor; repeat (first | rfl | split)
@[simp] theorem State.drawFor_ie (s : State) (v : Option Word) : (s.drawFor v).ie = s.ie := by
  unfold State.drawFor; repeat (first | rfl | split)
@[simp] theorem State.drawFor_nmie (s : State) (v : Option Word) : (s.drawFor v).nmie = s.nmie := by
  unfold State.drawFor; repeat (first | rfl | split)
@[simp] theorem State.drawFor_ifl (s : State) (v : Option Word) : (s.drawFor v).ifl = s.ifl := by
  unfold State.drawFor; repeat (first | rfl | split)
@[simp] theorem State.drawFor_nmif (s : State) (v : Option Word) : (s.drawFor v).nmif = s.nmif := by
  unfold State.drawFor; repeat (first | rfl | split)
@[simp] theorem State.drawFor_istb (s : State) (v : Option Word) : (s.drawFor v).istb = s.istb := by
  unfold State.drawFor; repeat (first | rfl | split)
@[simp] theorem State.drawFor_irp (s : State) (v : Option Word) : (s.drawFor v).irp = s.irp := by
  unfold State.drawFor; repeat (first | rfl | split)
@[simp] theorem State.drawFor_nrp (s : State) (v : Option Word) : (s.drawFor v).nrp = s.nrp := by
  unfold State.drawFor; repeat (first | rfl | split)
@[simp] theorem State.drawFor_fadcr (s : State) (v : Option Word) : (s.drawFor v).fadcr = s.fadcr := by
  unfold State.drawFor; repeat (first | rfl | split)
@[simp] theorem State.drawFor_faucr (s : State) (v : Option Word) : (s.drawFor v).faucr = s.faucr := by
  unfold State.drawFor; repeat (first | rfl | split)
@[simp] theorem State.drawFor_fmcr (s : State) (v : Option Word) : (s.drawFor v).fmcr = s.fmcr := by
  unfold State.drawFor; repeat (first | rfl | split)
@[simp] theorem State.drawFor_writes (s : State) (v : Option Word) : (s.drawFor v).writes = s.writes := by
  unfold State.drawFor; repeat (first | rfl | split)
@[simp] theorem State.drawFor_sats (s : State) (v : Option Word) : (s.drawFor v).sats = s.sats := by
  unfold State.drawFor; repeat (first | rfl | split)
@[simp] theorem State.drawFor_warns (s : State) (v : Option Word) : (s.drawFor v).warns = s.warns := by
  unfold State.drawFor; repeat (first | rfl | split)
@[simp] theorem State.drawFor_branches (s : State) (v : Option Word) : (s.drawFor v).branches = s.branches := by
  unfold State.drawFor; repeat (first | rfl | split)
@[simp] theorem State.drawFor_controls (s : State) (v : Option Word) : (s.drawFor v).controls = s.controls := by
  unfold State.drawFor; repeat (first | rfl | split)
@[simp] theorem State.drawFor_isrPend (s : State) (v : Option Word) : (s.drawFor v).isrPend = s.isrPend := by
  unfold State.drawFor; repeat (first | rfl | split)
@[simp] theorem State.drawFor_icrPend (s : State) (v : Option Word) : (s.drawFor v).icrPend = s.icrPend := by
  unfold State.drawFor; repeat (first | rfl | split)
@[simp] theorem State.drawFor_history (s : State) (v : Option Word) : (s.drawFor v).history = s.history := by
  unfold State.drawFor; repeat (first | rfl | split)
@[simp] theorem State.drawFor_nopLeft (s : State) (v : Option Word) : (s.drawFor v).nopLeft = s.nopLeft := by
  unfold State.drawFor; repeat (first | rfl | split)
@[simp] theorem State.drawFor_idle (s : State) (v : Option Word) : (s.drawFor v).idle = s.idle := by
  unfold State.drawFor; repeat (first | rfl | split)
@[simp] theorem State.drawFor_powerDown (s : State) (v : Option Word) : (s.drawFor v).powerDown = s.powerDown := by
  unfold State.drawFor; repeat (first | rfl | split)
@[simp] theorem State.drawFor_emptyLeft (s : State) (v : Option Word) : (s.drawFor v).emptyLeft = s.emptyLeft := by
  unfold State.drawFor; repeat (first | rfl | split)
@[simp] theorem State.drawFor_inputs (s : State) (v : Option Word) : (s.drawFor v).inputs = s.inputs := by
  unfold State.drawFor; repeat (first | rfl | split)
@[simp] theorem State.drawFor_mem (s : State) (v : Option Word) : (s.drawFor v).mem = s.mem := by
  unfold State.drawFor; repeat (first | rfl | split)
@[simp] theorem State.drawFor_pmem (s : State) (v : Option Word) : (s.drawFor v).pmem = s.pmem := by
  unfold State.drawFor; repeat (first | rfl | split)
@[simp] theorem State.drawFor_stored (s : State) (v : Option Word) : (s.drawFor v).stored = s.stored := by
  unfold State.drawFor; repeat (first | rfl | split)
@[simp] theorem State.drawFor_codeStores (s : State) (v : Option Word) : (s.drawFor v).codeStores = s.codeStores := by
  unfold State.drawFor; repeat (first | rfl | split)

/-! `State.raise`. -/

@[simp] theorem State.raise_device (s : State) (w : PendingWarn) : (s.raise w).device = s.device := by
  unfold State.raise; repeat (first | rfl | split)
@[simp] theorem State.raise_fileA (s : State) (w : PendingWarn) : (s.raise w).fileA = s.fileA := by
  unfold State.raise; repeat (first | rfl | split)
@[simp] theorem State.raise_fileB (s : State) (w : PendingWarn) : (s.raise w).fileB = s.fileB := by
  unfold State.raise; repeat (first | rfl | split)
@[simp] theorem State.raise_pc (s : State) (w : PendingWarn) : (s.raise w).pc = s.pc := by
  unfold State.raise; repeat (first | rfl | split)
@[simp] theorem State.raise_amr (s : State) (w : PendingWarn) : (s.raise w).amr = s.amr := by
  unfold State.raise; repeat (first | rfl | split)
@[simp] theorem State.raise_pwrd (s : State) (w : PendingWarn) : (s.raise w).pwrd = s.pwrd := by
  unfold State.raise; repeat (first | rfl | split)
@[simp] theorem State.raise_sat (s : State) (w : PendingWarn) : (s.raise w).sat = s.sat := by
  unfold State.raise; repeat (first | rfl | split)
@[simp] theorem State.raise_pcc (s : State) (w : PendingWarn) : (s.raise w).pcc = s.pcc := by
  unfold State.raise; repeat (first | rfl | split)
@[simp] theorem State.raise_dcc (s : State) (w : PendingWarn) : (s.raise w).dcc = s.dcc := by
  unfold State.raise; repeat (first | rfl | split)
@[simp] theorem State.raise_pgie (s : State) (w : PendingWarn) : (s.raise w).pgie = s.pgie := by
  unfold State.raise; repeat (first | rfl | split)
@[simp] theorem State.raise_gie (s : State) (w : PendingWarn) : (s.raise w).gie = s.gie := by
  unfold State.raise; repeat (first | rfl | split)
@[simp] theorem State.raise_ie (s : State) (w : PendingWarn) : (s.raise w).ie = s.ie := by
  unfold State.raise; repeat (first | rfl | split)
@[simp] theorem State.raise_nmie (s : State) (w : PendingWarn) : (s.raise w).nmie = s.nmie := by
  unfold State.raise; repeat (first | rfl | split)
@[simp] theorem State.raise_ifl (s : State) (w : PendingWarn) : (s.raise w).ifl = s.ifl := by
  unfold State.raise; repeat (first | rfl | split)
@[simp] theorem State.raise_nmif (s : State) (w : PendingWarn) : (s.raise w).nmif = s.nmif := by
  unfold State.raise; repeat (first | rfl | split)
@[simp] theorem State.raise_istb (s : State) (w : PendingWarn) : (s.raise w).istb = s.istb := by
  unfold State.raise; repeat (first | rfl | split)
@[simp] theorem State.raise_irp (s : State) (w : PendingWarn) : (s.raise w).irp = s.irp := by
  unfold State.raise; repeat (first | rfl | split)
@[simp] theorem State.raise_nrp (s : State) (w : PendingWarn) : (s.raise w).nrp = s.nrp := by
  unfold State.raise; repeat (first | rfl | split)
@[simp] theorem State.raise_writes (s : State) (w : PendingWarn) : (s.raise w).writes = s.writes := by
  unfold State.raise; repeat (first | rfl | split)
@[simp] theorem State.raise_sats (s : State) (w : PendingWarn) : (s.raise w).sats = s.sats := by
  unfold State.raise; repeat (first | rfl | split)
@[simp] theorem State.raise_warns (s : State) (w : PendingWarn) : (s.raise w).warns = s.warns := by
  unfold State.raise; repeat (first | rfl | split)
@[simp] theorem State.raise_branches (s : State) (w : PendingWarn) : (s.raise w).branches = s.branches := by
  unfold State.raise; repeat (first | rfl | split)
@[simp] theorem State.raise_controls (s : State) (w : PendingWarn) : (s.raise w).controls = s.controls := by
  unfold State.raise; repeat (first | rfl | split)
@[simp] theorem State.raise_isrPend (s : State) (w : PendingWarn) : (s.raise w).isrPend = s.isrPend := by
  unfold State.raise; repeat (first | rfl | split)
@[simp] theorem State.raise_icrPend (s : State) (w : PendingWarn) : (s.raise w).icrPend = s.icrPend := by
  unfold State.raise; repeat (first | rfl | split)
@[simp] theorem State.raise_history (s : State) (w : PendingWarn) : (s.raise w).history = s.history := by
  unfold State.raise; repeat (first | rfl | split)
@[simp] theorem State.raise_nopLeft (s : State) (w : PendingWarn) : (s.raise w).nopLeft = s.nopLeft := by
  unfold State.raise; repeat (first | rfl | split)
@[simp] theorem State.raise_idle (s : State) (w : PendingWarn) : (s.raise w).idle = s.idle := by
  unfold State.raise; repeat (first | rfl | split)
@[simp] theorem State.raise_powerDown (s : State) (w : PendingWarn) : (s.raise w).powerDown = s.powerDown := by
  unfold State.raise; repeat (first | rfl | split)
@[simp] theorem State.raise_emptyLeft (s : State) (w : PendingWarn) : (s.raise w).emptyLeft = s.emptyLeft := by
  unfold State.raise; repeat (first | rfl | split)
@[simp] theorem State.raise_inputs (s : State) (w : PendingWarn) : (s.raise w).inputs = s.inputs := by
  unfold State.raise; repeat (first | rfl | split)
@[simp] theorem State.raise_mem (s : State) (w : PendingWarn) : (s.raise w).mem = s.mem := by
  unfold State.raise; repeat (first | rfl | split)
@[simp] theorem State.raise_pmem (s : State) (w : PendingWarn) : (s.raise w).pmem = s.pmem := by
  unfold State.raise; repeat (first | rfl | split)
@[simp] theorem State.raise_stored (s : State) (w : PendingWarn) : (s.raise w).stored = s.stored := by
  unfold State.raise; repeat (first | rfl | split)
@[simp] theorem State.raise_codeStores (s : State) (w : PendingWarn) : (s.raise w).codeStores = s.codeStores := by
  unfold State.raise; repeat (first | rfl | split)
@[simp] theorem State.raise_free (s : State) (w : PendingWarn) : (s.raise w).free = s.free := by
  unfold State.raise; repeat (first | rfl | split)

/-! `State.enterPower`. -/

@[simp] theorem State.enterPower_device (s : State) (m : Option PowerMode) : (s.enterPower m).device = s.device := by
  unfold State.enterPower; repeat (first | rfl | split)
@[simp] theorem State.enterPower_fileA (s : State) (m : Option PowerMode) : (s.enterPower m).fileA = s.fileA := by
  unfold State.enterPower; repeat (first | rfl | split)
@[simp] theorem State.enterPower_fileB (s : State) (m : Option PowerMode) : (s.enterPower m).fileB = s.fileB := by
  unfold State.enterPower; repeat (first | rfl | split)
@[simp] theorem State.enterPower_pc (s : State) (m : Option PowerMode) : (s.enterPower m).pc = s.pc := by
  unfold State.enterPower; repeat (first | rfl | split)
@[simp] theorem State.enterPower_amr (s : State) (m : Option PowerMode) : (s.enterPower m).amr = s.amr := by
  unfold State.enterPower; repeat (first | rfl | split)
@[simp] theorem State.enterPower_pwrd (s : State) (m : Option PowerMode) : (s.enterPower m).pwrd = s.pwrd := by
  unfold State.enterPower; repeat (first | rfl | split)
@[simp] theorem State.enterPower_sat (s : State) (m : Option PowerMode) : (s.enterPower m).sat = s.sat := by
  unfold State.enterPower; repeat (first | rfl | split)
@[simp] theorem State.enterPower_pcc (s : State) (m : Option PowerMode) : (s.enterPower m).pcc = s.pcc := by
  unfold State.enterPower; repeat (first | rfl | split)
@[simp] theorem State.enterPower_dcc (s : State) (m : Option PowerMode) : (s.enterPower m).dcc = s.dcc := by
  unfold State.enterPower; repeat (first | rfl | split)
@[simp] theorem State.enterPower_pgie (s : State) (m : Option PowerMode) : (s.enterPower m).pgie = s.pgie := by
  unfold State.enterPower; repeat (first | rfl | split)
@[simp] theorem State.enterPower_gie (s : State) (m : Option PowerMode) : (s.enterPower m).gie = s.gie := by
  unfold State.enterPower; repeat (first | rfl | split)
@[simp] theorem State.enterPower_ie (s : State) (m : Option PowerMode) : (s.enterPower m).ie = s.ie := by
  unfold State.enterPower; repeat (first | rfl | split)
@[simp] theorem State.enterPower_nmie (s : State) (m : Option PowerMode) : (s.enterPower m).nmie = s.nmie := by
  unfold State.enterPower; repeat (first | rfl | split)
@[simp] theorem State.enterPower_ifl (s : State) (m : Option PowerMode) : (s.enterPower m).ifl = s.ifl := by
  unfold State.enterPower; repeat (first | rfl | split)
@[simp] theorem State.enterPower_nmif (s : State) (m : Option PowerMode) : (s.enterPower m).nmif = s.nmif := by
  unfold State.enterPower; repeat (first | rfl | split)
@[simp] theorem State.enterPower_istb (s : State) (m : Option PowerMode) : (s.enterPower m).istb = s.istb := by
  unfold State.enterPower; repeat (first | rfl | split)
@[simp] theorem State.enterPower_irp (s : State) (m : Option PowerMode) : (s.enterPower m).irp = s.irp := by
  unfold State.enterPower; repeat (first | rfl | split)
@[simp] theorem State.enterPower_nrp (s : State) (m : Option PowerMode) : (s.enterPower m).nrp = s.nrp := by
  unfold State.enterPower; repeat (first | rfl | split)
@[simp] theorem State.enterPower_fadcr (s : State) (m : Option PowerMode) : (s.enterPower m).fadcr = s.fadcr := by
  unfold State.enterPower; repeat (first | rfl | split)
@[simp] theorem State.enterPower_faucr (s : State) (m : Option PowerMode) : (s.enterPower m).faucr = s.faucr := by
  unfold State.enterPower; repeat (first | rfl | split)
@[simp] theorem State.enterPower_fmcr (s : State) (m : Option PowerMode) : (s.enterPower m).fmcr = s.fmcr := by
  unfold State.enterPower; repeat (first | rfl | split)
@[simp] theorem State.enterPower_writes (s : State) (m : Option PowerMode) : (s.enterPower m).writes = s.writes := by
  unfold State.enterPower; repeat (first | rfl | split)
@[simp] theorem State.enterPower_sats (s : State) (m : Option PowerMode) : (s.enterPower m).sats = s.sats := by
  unfold State.enterPower; repeat (first | rfl | split)
@[simp] theorem State.enterPower_warns (s : State) (m : Option PowerMode) : (s.enterPower m).warns = s.warns := by
  unfold State.enterPower; repeat (first | rfl | split)
@[simp] theorem State.enterPower_branches (s : State) (m : Option PowerMode) : (s.enterPower m).branches = s.branches := by
  unfold State.enterPower; repeat (first | rfl | split)
@[simp] theorem State.enterPower_controls (s : State) (m : Option PowerMode) : (s.enterPower m).controls = s.controls := by
  unfold State.enterPower; repeat (first | rfl | split)
@[simp] theorem State.enterPower_isrPend (s : State) (m : Option PowerMode) : (s.enterPower m).isrPend = s.isrPend := by
  unfold State.enterPower; repeat (first | rfl | split)
@[simp] theorem State.enterPower_icrPend (s : State) (m : Option PowerMode) : (s.enterPower m).icrPend = s.icrPend := by
  unfold State.enterPower; repeat (first | rfl | split)
@[simp] theorem State.enterPower_history (s : State) (m : Option PowerMode) : (s.enterPower m).history = s.history := by
  unfold State.enterPower; repeat (first | rfl | split)
@[simp] theorem State.enterPower_emptyLeft (s : State) (m : Option PowerMode) : (s.enterPower m).emptyLeft = s.emptyLeft := by
  unfold State.enterPower; repeat (first | rfl | split)
@[simp] theorem State.enterPower_inputs (s : State) (m : Option PowerMode) : (s.enterPower m).inputs = s.inputs := by
  unfold State.enterPower; repeat (first | rfl | split)
@[simp] theorem State.enterPower_mem (s : State) (m : Option PowerMode) : (s.enterPower m).mem = s.mem := by
  unfold State.enterPower; repeat (first | rfl | split)
@[simp] theorem State.enterPower_pmem (s : State) (m : Option PowerMode) : (s.enterPower m).pmem = s.pmem := by
  unfold State.enterPower; repeat (first | rfl | split)
@[simp] theorem State.enterPower_stored (s : State) (m : Option PowerMode) : (s.enterPower m).stored = s.stored := by
  unfold State.enterPower; repeat (first | rfl | split)
@[simp] theorem State.enterPower_codeStores (s : State) (m : Option PowerMode) : (s.enterPower m).codeStores = s.codeStores := by
  unfold State.enterPower; repeat (first | rfl | split)
@[simp] theorem State.enterPower_free (s : State) (m : Option PowerMode) : (s.enterPower m).free = s.free := by
  unfold State.enterPower; repeat (first | rfl | split)

/-! `State.enterPowerDown`. -/

@[simp] theorem State.enterPowerDown_device (s : State) (v : Word) : (s.enterPowerDown v).device = s.device := by
  unfold State.enterPowerDown; repeat (first | rfl | split)
@[simp] theorem State.enterPowerDown_fileA (s : State) (v : Word) : (s.enterPowerDown v).fileA = s.fileA := by
  unfold State.enterPowerDown; repeat (first | rfl | split)
@[simp] theorem State.enterPowerDown_fileB (s : State) (v : Word) : (s.enterPowerDown v).fileB = s.fileB := by
  unfold State.enterPowerDown; repeat (first | rfl | split)
@[simp] theorem State.enterPowerDown_pc (s : State) (v : Word) : (s.enterPowerDown v).pc = s.pc := by
  unfold State.enterPowerDown; repeat (first | rfl | split)
@[simp] theorem State.enterPowerDown_amr (s : State) (v : Word) : (s.enterPowerDown v).amr = s.amr := by
  unfold State.enterPowerDown; repeat (first | rfl | split)
@[simp] theorem State.enterPowerDown_pwrd (s : State) (v : Word) : (s.enterPowerDown v).pwrd = s.pwrd := by
  unfold State.enterPowerDown; repeat (first | rfl | split)
@[simp] theorem State.enterPowerDown_sat (s : State) (v : Word) : (s.enterPowerDown v).sat = s.sat := by
  unfold State.enterPowerDown; repeat (first | rfl | split)
@[simp] theorem State.enterPowerDown_pcc (s : State) (v : Word) : (s.enterPowerDown v).pcc = s.pcc := by
  unfold State.enterPowerDown; repeat (first | rfl | split)
@[simp] theorem State.enterPowerDown_dcc (s : State) (v : Word) : (s.enterPowerDown v).dcc = s.dcc := by
  unfold State.enterPowerDown; repeat (first | rfl | split)
@[simp] theorem State.enterPowerDown_pgie (s : State) (v : Word) : (s.enterPowerDown v).pgie = s.pgie := by
  unfold State.enterPowerDown; repeat (first | rfl | split)
@[simp] theorem State.enterPowerDown_gie (s : State) (v : Word) : (s.enterPowerDown v).gie = s.gie := by
  unfold State.enterPowerDown; repeat (first | rfl | split)
@[simp] theorem State.enterPowerDown_ie (s : State) (v : Word) : (s.enterPowerDown v).ie = s.ie := by
  unfold State.enterPowerDown; repeat (first | rfl | split)
@[simp] theorem State.enterPowerDown_nmie (s : State) (v : Word) : (s.enterPowerDown v).nmie = s.nmie := by
  unfold State.enterPowerDown; repeat (first | rfl | split)
@[simp] theorem State.enterPowerDown_ifl (s : State) (v : Word) : (s.enterPowerDown v).ifl = s.ifl := by
  unfold State.enterPowerDown; repeat (first | rfl | split)
@[simp] theorem State.enterPowerDown_nmif (s : State) (v : Word) : (s.enterPowerDown v).nmif = s.nmif := by
  unfold State.enterPowerDown; repeat (first | rfl | split)
@[simp] theorem State.enterPowerDown_istb (s : State) (v : Word) : (s.enterPowerDown v).istb = s.istb := by
  unfold State.enterPowerDown; repeat (first | rfl | split)
@[simp] theorem State.enterPowerDown_irp (s : State) (v : Word) : (s.enterPowerDown v).irp = s.irp := by
  unfold State.enterPowerDown; repeat (first | rfl | split)
@[simp] theorem State.enterPowerDown_nrp (s : State) (v : Word) : (s.enterPowerDown v).nrp = s.nrp := by
  unfold State.enterPowerDown; repeat (first | rfl | split)
@[simp] theorem State.enterPowerDown_fadcr (s : State) (v : Word) : (s.enterPowerDown v).fadcr = s.fadcr := by
  unfold State.enterPowerDown; repeat (first | rfl | split)
@[simp] theorem State.enterPowerDown_faucr (s : State) (v : Word) : (s.enterPowerDown v).faucr = s.faucr := by
  unfold State.enterPowerDown; repeat (first | rfl | split)
@[simp] theorem State.enterPowerDown_fmcr (s : State) (v : Word) : (s.enterPowerDown v).fmcr = s.fmcr := by
  unfold State.enterPowerDown; repeat (first | rfl | split)
@[simp] theorem State.enterPowerDown_writes (s : State) (v : Word) : (s.enterPowerDown v).writes = s.writes := by
  unfold State.enterPowerDown; repeat (first | rfl | split)
@[simp] theorem State.enterPowerDown_sats (s : State) (v : Word) : (s.enterPowerDown v).sats = s.sats := by
  unfold State.enterPowerDown; repeat (first | rfl | split)
@[simp] theorem State.enterPowerDown_warns (s : State) (v : Word) : (s.enterPowerDown v).warns = s.warns := by
  unfold State.enterPowerDown; repeat (first | rfl | split)
@[simp] theorem State.enterPowerDown_branches (s : State) (v : Word) : (s.enterPowerDown v).branches = s.branches := by
  unfold State.enterPowerDown; repeat (first | rfl | split)
@[simp] theorem State.enterPowerDown_controls (s : State) (v : Word) : (s.enterPowerDown v).controls = s.controls := by
  unfold State.enterPowerDown; repeat (first | rfl | split)
@[simp] theorem State.enterPowerDown_isrPend (s : State) (v : Word) : (s.enterPowerDown v).isrPend = s.isrPend := by
  unfold State.enterPowerDown; repeat (first | rfl | split)
@[simp] theorem State.enterPowerDown_icrPend (s : State) (v : Word) : (s.enterPowerDown v).icrPend = s.icrPend := by
  unfold State.enterPowerDown; repeat (first | rfl | split)
@[simp] theorem State.enterPowerDown_history (s : State) (v : Word) : (s.enterPowerDown v).history = s.history := by
  unfold State.enterPowerDown; repeat (first | rfl | split)
@[simp] theorem State.enterPowerDown_emptyLeft (s : State) (v : Word) : (s.enterPowerDown v).emptyLeft = s.emptyLeft := by
  unfold State.enterPowerDown; repeat (first | rfl | split)
@[simp] theorem State.enterPowerDown_inputs (s : State) (v : Word) : (s.enterPowerDown v).inputs = s.inputs := by
  unfold State.enterPowerDown; repeat (first | rfl | split)
@[simp] theorem State.enterPowerDown_mem (s : State) (v : Word) : (s.enterPowerDown v).mem = s.mem := by
  unfold State.enterPowerDown; repeat (first | rfl | split)
@[simp] theorem State.enterPowerDown_pmem (s : State) (v : Word) : (s.enterPowerDown v).pmem = s.pmem := by
  unfold State.enterPowerDown; repeat (first | rfl | split)
@[simp] theorem State.enterPowerDown_stored (s : State) (v : Word) : (s.enterPowerDown v).stored = s.stored := by
  unfold State.enterPowerDown; repeat (first | rfl | split)
@[simp] theorem State.enterPowerDown_codeStores (s : State) (v : Word) : (s.enterPowerDown v).codeStores = s.codeStores := by
  unfold State.enterPowerDown; repeat (first | rfl | split)
@[simp] theorem State.enterPowerDown_free (s : State) (v : Word) : (s.enterPowerDown v).free = s.free := by
  unfold State.enterPowerDown; repeat (first | rfl | split)

end Sys2Proof.Machine
end

