-- ==== Sys2Proof/Laws/Cycle.lean ====
section
/-! SUPPORT. What the end of a cycle leaves in each field: first what its parts do not change, then, for
`State.endCycle`, what each field is afterwards. -/

namespace Sys2Proof.Machine

/-- What one step of a fold keeps, the fold keeps. -/
theorem foldl_keeps {α β : Type} (g : State → α) (f : State → β → State) (h : ∀ s b, g (f s b) = g s) (l : List β)
    (s : State) : g (l.foldl f s) = g s := by
  induction l generalizing s with
  | nil => rfl
  | cons b rest ih => rw [List.foldl_cons, ih, h]

/-! `State.applyControl` and `State.landControls`. -/

/-- What a write to a control register does, by its address. -/
theorem State.writeControl_cases (s : State) (a : BitVec 5) (v : Word) :
    (a = 0#5 ∧ s.writeControl a v = { s with amr := v.extractLsb' 0 26 }) ∨
    (a = 1#5 ∧ s.writeControl a v = (s.writeCsr v).enterPowerDown v) ∨
    (a = 2#5 ∧ s.writeControl a v = { s with isrPend := v.extractLsb' 4 12 }) ∨
    (a = 3#5 ∧ s.writeControl a v = { s with icrPend := v.extractLsb' 4 12 }) ∨
    (a = 4#5 ∧ s.writeControl a v = { s with ie := v.extractLsb' 4 12, nmie := s.nmie || v.getLsbD 1 }) ∨
    (a = 5#5 ∧ s.writeControl a v = { s with istb := v.extractLsb' 10 22 }) ∨
    (a = 6#5 ∧ s.writeControl a v = { s with irp := v }) ∨
    (a = 7#5 ∧ s.writeControl a v = { s with nrp := v }) ∨
    (a = 18#5 ∧ s.writeControl a v = { s with fadcr := FpConfig.ofBits v }) ∨
    (a = 19#5 ∧ s.writeControl a v = { s with faucr := FpConfig.ofBits v }) ∨
    (a = 20#5 ∧ s.writeControl a v = { s with fmcr := FpConfig.ofBits v }) ∨
    s.writeControl a v = s := by
  unfold State.writeControl
  by_cases h : a = 0#5
  · exact Or.inl ⟨h, if_pos h⟩
  rw [if_neg h]; clear h
  by_cases h : a = 1#5
  · exact Or.inr (Or.inl ⟨h, if_pos h⟩)
  rw [if_neg h]; clear h
  by_cases h : a = 2#5
  · exact Or.inr (Or.inr (Or.inl ⟨h, if_pos h⟩))
  rw [if_neg h]; clear h
  by_cases h : a = 3#5
  · exact Or.inr (Or.inr (Or.inr (Or.inl ⟨h, if_pos h⟩)))
  rw [if_neg h]; clear h
  by_cases h : a = 4#5
  · exact Or.inr (Or.inr (Or.inr (Or.inr (Or.inl ⟨h, if_pos h⟩))))
  rw [if_neg h]; clear h
  by_cases h : a = 5#5
  · exact Or.inr (Or.inr (Or.inr (Or.inr (Or.inr (Or.inl ⟨h, if_pos h⟩)))))
  rw [if_neg h]; clear h
  by_cases h : a = 6#5
  · exact Or.inr (Or.inr (Or.inr (Or.inr (Or.inr (Or.inr (Or.inl ⟨h, if_pos h⟩))))))
  rw [if_neg h]; clear h
  by_cases h : a = 7#5
  · exact Or.inr (Or.inr (Or.inr (Or.inr (Or.inr (Or.inr (Or.inr (Or.inl ⟨h, if_pos h⟩)))))))
  rw [if_neg h]; clear h
  by_cases h : a = 18#5
  · exact Or.inr (Or.inr (Or.inr (Or.inr (Or.inr (Or.inr (Or.inr (Or.inr (Or.inl ⟨h, if_pos h⟩))))))))
  rw [if_neg h]; clear h
  by_cases h : a = 19#5
  · exact Or.inr (Or.inr (Or.inr (Or.inr (Or.inr (Or.inr (Or.inr (Or.inr (Or.inr (Or.inl ⟨h, if_pos h⟩)))))))))
  rw [if_neg h]; clear h
  by_cases h : a = 20#5
  · exact Or.inr (Or.inr (Or.inr (Or.inr (Or.inr (Or.inr (Or.inr (Or.inr (Or.inr (Or.inr (Or.inl ⟨h, if_pos h⟩))))))))))
  rw [if_neg h]; clear h
  simp

@[simp] theorem State.writeControl_device (s : State) (a : BitVec 5) (v : Word) : (s.writeControl a v).device = s.device := by
  rcases s.writeControl_cases a v with ⟨-, h⟩ | ⟨-, h⟩ | ⟨-, h⟩ | ⟨-, h⟩ | ⟨-, h⟩ | ⟨-, h⟩ | ⟨-, h⟩ | ⟨-, h⟩ | ⟨-, h⟩ | ⟨-, h⟩ | ⟨-, h⟩ | h <;> rw [h]
  simp only [State.enterPowerDown_device, State.writeCsr_device]
@[simp] theorem State.applyControl_device (s : State) (e : ControlEffect) : (s.applyControl e).device = s.device := by
  cases e <;> simp [State.applyControl]
@[simp] theorem State.landControls_device (s : State) : s.landControls.device = s.device :=
  foldl_keeps State.device State.applyControl (fun s e => s.applyControl_device e) s.controls s

@[simp] theorem State.writeControl_fileA (s : State) (a : BitVec 5) (v : Word) : (s.writeControl a v).fileA = s.fileA := by
  rcases s.writeControl_cases a v with ⟨-, h⟩ | ⟨-, h⟩ | ⟨-, h⟩ | ⟨-, h⟩ | ⟨-, h⟩ | ⟨-, h⟩ | ⟨-, h⟩ | ⟨-, h⟩ | ⟨-, h⟩ | ⟨-, h⟩ | ⟨-, h⟩ | h <;> rw [h]
  simp only [State.enterPowerDown_fileA, State.writeCsr_fileA]
@[simp] theorem State.applyControl_fileA (s : State) (e : ControlEffect) : (s.applyControl e).fileA = s.fileA := by
  cases e <;> simp [State.applyControl]
@[simp] theorem State.landControls_fileA (s : State) : s.landControls.fileA = s.fileA :=
  foldl_keeps State.fileA State.applyControl (fun s e => s.applyControl_fileA e) s.controls s

@[simp] theorem State.writeControl_fileB (s : State) (a : BitVec 5) (v : Word) : (s.writeControl a v).fileB = s.fileB := by
  rcases s.writeControl_cases a v with ⟨-, h⟩ | ⟨-, h⟩ | ⟨-, h⟩ | ⟨-, h⟩ | ⟨-, h⟩ | ⟨-, h⟩ | ⟨-, h⟩ | ⟨-, h⟩ | ⟨-, h⟩ | ⟨-, h⟩ | ⟨-, h⟩ | h <;> rw [h]
  simp only [State.enterPowerDown_fileB, State.writeCsr_fileB]
@[simp] theorem State.applyControl_fileB (s : State) (e : ControlEffect) : (s.applyControl e).fileB = s.fileB := by
  cases e <;> simp [State.applyControl]
@[simp] theorem State.landControls_fileB (s : State) : s.landControls.fileB = s.fileB :=
  foldl_keeps State.fileB State.applyControl (fun s e => s.applyControl_fileB e) s.controls s

@[simp] theorem State.writeControl_pc (s : State) (a : BitVec 5) (v : Word) : (s.writeControl a v).pc = s.pc := by
  rcases s.writeControl_cases a v with ⟨-, h⟩ | ⟨-, h⟩ | ⟨-, h⟩ | ⟨-, h⟩ | ⟨-, h⟩ | ⟨-, h⟩ | ⟨-, h⟩ | ⟨-, h⟩ | ⟨-, h⟩ | ⟨-, h⟩ | ⟨-, h⟩ | h <;> rw [h]
  simp only [State.enterPowerDown_pc, State.writeCsr_pc]
@[simp] theorem State.applyControl_pc (s : State) (e : ControlEffect) : (s.applyControl e).pc = s.pc := by
  cases e <;> simp [State.applyControl]
@[simp] theorem State.landControls_pc (s : State) : s.landControls.pc = s.pc :=
  foldl_keeps State.pc State.applyControl (fun s e => s.applyControl_pc e) s.controls s

@[simp] theorem State.writeControl_ifl (s : State) (a : BitVec 5) (v : Word) : (s.writeControl a v).ifl = s.ifl := by
  rcases s.writeControl_cases a v with ⟨-, h⟩ | ⟨-, h⟩ | ⟨-, h⟩ | ⟨-, h⟩ | ⟨-, h⟩ | ⟨-, h⟩ | ⟨-, h⟩ | ⟨-, h⟩ | ⟨-, h⟩ | ⟨-, h⟩ | ⟨-, h⟩ | h <;> rw [h]
  simp only [State.enterPowerDown_ifl, State.writeCsr_ifl]
@[simp] theorem State.applyControl_ifl (s : State) (e : ControlEffect) : (s.applyControl e).ifl = s.ifl := by
  cases e <;> simp [State.applyControl]
@[simp] theorem State.landControls_ifl (s : State) : s.landControls.ifl = s.ifl :=
  foldl_keeps State.ifl State.applyControl (fun s e => s.applyControl_ifl e) s.controls s

@[simp] theorem State.writeControl_nmif (s : State) (a : BitVec 5) (v : Word) : (s.writeControl a v).nmif = s.nmif := by
  rcases s.writeControl_cases a v with ⟨-, h⟩ | ⟨-, h⟩ | ⟨-, h⟩ | ⟨-, h⟩ | ⟨-, h⟩ | ⟨-, h⟩ | ⟨-, h⟩ | ⟨-, h⟩ | ⟨-, h⟩ | ⟨-, h⟩ | ⟨-, h⟩ | h <;> rw [h]
  simp only [State.enterPowerDown_nmif, State.writeCsr_nmif]
@[simp] theorem State.applyControl_nmif (s : State) (e : ControlEffect) : (s.applyControl e).nmif = s.nmif := by
  cases e <;> simp [State.applyControl]
@[simp] theorem State.landControls_nmif (s : State) : s.landControls.nmif = s.nmif :=
  foldl_keeps State.nmif State.applyControl (fun s e => s.applyControl_nmif e) s.controls s

@[simp] theorem State.writeControl_writes (s : State) (a : BitVec 5) (v : Word) : (s.writeControl a v).writes = s.writes := by
  rcases s.writeControl_cases a v with ⟨-, h⟩ | ⟨-, h⟩ | ⟨-, h⟩ | ⟨-, h⟩ | ⟨-, h⟩ | ⟨-, h⟩ | ⟨-, h⟩ | ⟨-, h⟩ | ⟨-, h⟩ | ⟨-, h⟩ | ⟨-, h⟩ | h <;> rw [h]
  simp only [State.enterPowerDown_writes, State.writeCsr_writes]
@[simp] theorem State.applyControl_writes (s : State) (e : ControlEffect) : (s.applyControl e).writes = s.writes := by
  cases e <;> simp [State.applyControl]
@[simp] theorem State.landControls_writes (s : State) : s.landControls.writes = s.writes :=
  foldl_keeps State.writes State.applyControl (fun s e => s.applyControl_writes e) s.controls s

@[simp] theorem State.writeControl_sats (s : State) (a : BitVec 5) (v : Word) : (s.writeControl a v).sats = s.sats := by
  rcases s.writeControl_cases a v with ⟨-, h⟩ | ⟨-, h⟩ | ⟨-, h⟩ | ⟨-, h⟩ | ⟨-, h⟩ | ⟨-, h⟩ | ⟨-, h⟩ | ⟨-, h⟩ | ⟨-, h⟩ | ⟨-, h⟩ | ⟨-, h⟩ | h <;> rw [h]
  simp only [State.enterPowerDown_sats, State.writeCsr_sats]
@[simp] theorem State.applyControl_sats (s : State) (e : ControlEffect) : (s.applyControl e).sats = s.sats := by
  cases e <;> simp [State.applyControl]
@[simp] theorem State.landControls_sats (s : State) : s.landControls.sats = s.sats :=
  foldl_keeps State.sats State.applyControl (fun s e => s.applyControl_sats e) s.controls s

@[simp] theorem State.writeControl_warns (s : State) (a : BitVec 5) (v : Word) : (s.writeControl a v).warns = s.warns := by
  rcases s.writeControl_cases a v with ⟨-, h⟩ | ⟨-, h⟩ | ⟨-, h⟩ | ⟨-, h⟩ | ⟨-, h⟩ | ⟨-, h⟩ | ⟨-, h⟩ | ⟨-, h⟩ | ⟨-, h⟩ | ⟨-, h⟩ | ⟨-, h⟩ | h <;> rw [h]
  simp only [State.enterPowerDown_warns, State.writeCsr_warns]
@[simp] theorem State.applyControl_warns (s : State) (e : ControlEffect) : (s.applyControl e).warns = s.warns := by
  cases e <;> simp [State.applyControl]
@[simp] theorem State.landControls_warns (s : State) : s.landControls.warns = s.warns :=
  foldl_keeps State.warns State.applyControl (fun s e => s.applyControl_warns e) s.controls s

@[simp] theorem State.writeControl_branches (s : State) (a : BitVec 5) (v : Word) : (s.writeControl a v).branches = s.branches := by
  rcases s.writeControl_cases a v with ⟨-, h⟩ | ⟨-, h⟩ | ⟨-, h⟩ | ⟨-, h⟩ | ⟨-, h⟩ | ⟨-, h⟩ | ⟨-, h⟩ | ⟨-, h⟩ | ⟨-, h⟩ | ⟨-, h⟩ | ⟨-, h⟩ | h <;> rw [h]
  simp only [State.enterPowerDown_branches, State.writeCsr_branches]
@[simp] theorem State.applyControl_branches (s : State) (e : ControlEffect) : (s.applyControl e).branches = s.branches := by
  cases e <;> simp [State.applyControl]
@[simp] theorem State.landControls_branches (s : State) : s.landControls.branches = s.branches :=
  foldl_keeps State.branches State.applyControl (fun s e => s.applyControl_branches e) s.controls s

@[simp] theorem State.writeControl_controls (s : State) (a : BitVec 5) (v : Word) : (s.writeControl a v).controls = s.controls := by
  rcases s.writeControl_cases a v with ⟨-, h⟩ | ⟨-, h⟩ | ⟨-, h⟩ | ⟨-, h⟩ | ⟨-, h⟩ | ⟨-, h⟩ | ⟨-, h⟩ | ⟨-, h⟩ | ⟨-, h⟩ | ⟨-, h⟩ | ⟨-, h⟩ | h <;> rw [h]
  simp only [State.enterPowerDown_controls, State.writeCsr_controls]
@[simp] theorem State.applyControl_controls (s : State) (e : ControlEffect) : (s.applyControl e).controls = s.controls := by
  cases e <;> simp [State.applyControl]

@[simp] theorem State.writeControl_history (s : State) (a : BitVec 5) (v : Word) : (s.writeControl a v).history = s.history := by
  rcases s.writeControl_cases a v with ⟨-, h⟩ | ⟨-, h⟩ | ⟨-, h⟩ | ⟨-, h⟩ | ⟨-, h⟩ | ⟨-, h⟩ | ⟨-, h⟩ | ⟨-, h⟩ | ⟨-, h⟩ | ⟨-, h⟩ | ⟨-, h⟩ | h <;> rw [h]
  simp only [State.enterPowerDown_history, State.writeCsr_history]
@[simp] theorem State.applyControl_history (s : State) (e : ControlEffect) : (s.applyControl e).history = s.history := by
  cases e <;> simp [State.applyControl]
@[simp] theorem State.landControls_history (s : State) : s.landControls.history = s.history :=
  foldl_keeps State.history State.applyControl (fun s e => s.applyControl_history e) s.controls s

@[simp] theorem State.writeControl_emptyLeft (s : State) (a : BitVec 5) (v : Word) : (s.writeControl a v).emptyLeft = s.emptyLeft := by
  rcases s.writeControl_cases a v with ⟨-, h⟩ | ⟨-, h⟩ | ⟨-, h⟩ | ⟨-, h⟩ | ⟨-, h⟩ | ⟨-, h⟩ | ⟨-, h⟩ | ⟨-, h⟩ | ⟨-, h⟩ | ⟨-, h⟩ | ⟨-, h⟩ | h <;> rw [h]
  simp only [State.enterPowerDown_emptyLeft, State.writeCsr_emptyLeft]
@[simp] theorem State.applyControl_emptyLeft (s : State) (e : ControlEffect) : (s.applyControl e).emptyLeft = s.emptyLeft := by
  cases e <;> simp [State.applyControl]
@[simp] theorem State.landControls_emptyLeft (s : State) : s.landControls.emptyLeft = s.emptyLeft :=
  foldl_keeps State.emptyLeft State.applyControl (fun s e => s.applyControl_emptyLeft e) s.controls s

@[simp] theorem State.writeControl_inputs (s : State) (a : BitVec 5) (v : Word) : (s.writeControl a v).inputs = s.inputs := by
  rcases s.writeControl_cases a v with ⟨-, h⟩ | ⟨-, h⟩ | ⟨-, h⟩ | ⟨-, h⟩ | ⟨-, h⟩ | ⟨-, h⟩ | ⟨-, h⟩ | ⟨-, h⟩ | ⟨-, h⟩ | ⟨-, h⟩ | ⟨-, h⟩ | h <;> rw [h]
  simp only [State.enterPowerDown_inputs, State.writeCsr_inputs]
@[simp] theorem State.applyControl_inputs (s : State) (e : ControlEffect) : (s.applyControl e).inputs = s.inputs := by
  cases e <;> simp [State.applyControl]
@[simp] theorem State.landControls_inputs (s : State) : s.landControls.inputs = s.inputs :=
  foldl_keeps State.inputs State.applyControl (fun s e => s.applyControl_inputs e) s.controls s

@[simp] theorem State.writeControl_mem (s : State) (a : BitVec 5) (v : Word) : (s.writeControl a v).mem = s.mem := by
  rcases s.writeControl_cases a v with ⟨-, h⟩ | ⟨-, h⟩ | ⟨-, h⟩ | ⟨-, h⟩ | ⟨-, h⟩ | ⟨-, h⟩ | ⟨-, h⟩ | ⟨-, h⟩ | ⟨-, h⟩ | ⟨-, h⟩ | ⟨-, h⟩ | h <;> rw [h]
  simp only [State.enterPowerDown_mem, State.writeCsr_mem]
@[simp] theorem State.applyControl_mem (s : State) (e : ControlEffect) : (s.applyControl e).mem = s.mem := by
  cases e <;> simp [State.applyControl]
@[simp] theorem State.landControls_mem (s : State) : s.landControls.mem = s.mem :=
  foldl_keeps State.mem State.applyControl (fun s e => s.applyControl_mem e) s.controls s

@[simp] theorem State.writeControl_pmem (s : State) (a : BitVec 5) (v : Word) : (s.writeControl a v).pmem = s.pmem := by
  rcases s.writeControl_cases a v with ⟨-, h⟩ | ⟨-, h⟩ | ⟨-, h⟩ | ⟨-, h⟩ | ⟨-, h⟩ | ⟨-, h⟩ | ⟨-, h⟩ | ⟨-, h⟩ | ⟨-, h⟩ | ⟨-, h⟩ | ⟨-, h⟩ | h <;> rw [h]
  simp only [State.enterPowerDown_pmem, State.writeCsr_pmem]
@[simp] theorem State.applyControl_pmem (s : State) (e : ControlEffect) : (s.applyControl e).pmem = s.pmem := by
  cases e <;> simp [State.applyControl]
@[simp] theorem State.landControls_pmem (s : State) : s.landControls.pmem = s.pmem :=
  foldl_keeps State.pmem State.applyControl (fun s e => s.applyControl_pmem e) s.controls s

@[simp] theorem State.writeControl_stored (s : State) (a : BitVec 5) (v : Word) : (s.writeControl a v).stored = s.stored := by
  rcases s.writeControl_cases a v with ⟨-, h⟩ | ⟨-, h⟩ | ⟨-, h⟩ | ⟨-, h⟩ | ⟨-, h⟩ | ⟨-, h⟩ | ⟨-, h⟩ | ⟨-, h⟩ | ⟨-, h⟩ | ⟨-, h⟩ | ⟨-, h⟩ | h <;> rw [h]
  simp only [State.enterPowerDown_stored, State.writeCsr_stored]
@[simp] theorem State.applyControl_stored (s : State) (e : ControlEffect) : (s.applyControl e).stored = s.stored := by
  cases e <;> simp [State.applyControl]
@[simp] theorem State.landControls_stored (s : State) : s.landControls.stored = s.stored :=
  foldl_keeps State.stored State.applyControl (fun s e => s.applyControl_stored e) s.controls s

@[simp] theorem State.writeControl_codeStores (s : State) (a : BitVec 5) (v : Word) : (s.writeControl a v).codeStores = s.codeStores := by
  rcases s.writeControl_cases a v with ⟨-, h⟩ | ⟨-, h⟩ | ⟨-, h⟩ | ⟨-, h⟩ | ⟨-, h⟩ | ⟨-, h⟩ | ⟨-, h⟩ | ⟨-, h⟩ | ⟨-, h⟩ | ⟨-, h⟩ | ⟨-, h⟩ | h <;> rw [h]
  simp only [State.enterPowerDown_codeStores, State.writeCsr_codeStores]
@[simp] theorem State.applyControl_codeStores (s : State) (e : ControlEffect) : (s.applyControl e).codeStores = s.codeStores := by
  cases e <;> simp [State.applyControl]
@[simp] theorem State.landControls_codeStores (s : State) : s.landControls.codeStores = s.codeStores :=
  foldl_keeps State.codeStores State.applyControl (fun s e => s.applyControl_codeStores e) s.controls s

@[simp] theorem State.writeControl_free (s : State) (a : BitVec 5) (v : Word) : (s.writeControl a v).free = s.free := by
  rcases s.writeControl_cases a v with ⟨-, h⟩ | ⟨-, h⟩ | ⟨-, h⟩ | ⟨-, h⟩ | ⟨-, h⟩ | ⟨-, h⟩ | ⟨-, h⟩ | ⟨-, h⟩ | ⟨-, h⟩ | ⟨-, h⟩ | ⟨-, h⟩ | h <;> rw [h]
  simp only [State.enterPowerDown_free, State.writeCsr_free]
@[simp] theorem State.applyControl_free (s : State) (e : ControlEffect) : (s.applyControl e).free = s.free := by
  cases e <;> simp [State.applyControl]
@[simp] theorem State.landControls_free (s : State) : s.landControls.free = s.free :=
  foldl_keeps State.free State.applyControl (fun s e => s.applyControl_free e) s.controls s

@[simp] theorem State.landControls_controls (s : State) : s.landControls.controls = [] := rfl

/-- Without a control effect nothing changes. -/
theorem State.landControls_of_nil {s : State} (h : s.controls = []) : s.landControls = s := by
  cases s; simp only at h; subst h; rfl

/-- One control effect. -/
theorem State.landControls_of_single {s : State} {e : ControlEffect} (h : s.controls = [e]) :
    s.landControls = { s.applyControl e with controls := [] } := by simp [State.landControls, h]

theorem State.enterPower_nopLeft_le (s : State) (m : Option PowerMode) : (s.enterPower m).nopLeft ≤ s.nopLeft := by
  cases m with
  | none => exact Nat.le_refl _
  | some m => exact Nat.zero_le _

theorem State.enterPowerDown_nopLeft_le (s : State) (v : Word) : (s.enterPowerDown v).nopLeft ≤ s.nopLeft := by
  unfold State.enterPowerDown; repeat' split
  all_goals first | exact Nat.le_refl _ | exact s.enterPower_nopLeft_le _

theorem State.applyControl_nopLeft_le (s : State) (e : ControlEffect) : (s.applyControl e).nopLeft ≤ s.nopLeft := by
  cases e with
  | write a v =>
    show (s.writeControl a v).nopLeft ≤ _
    rcases s.writeControl_cases a v with ⟨-, h⟩ | ⟨-, h⟩ | ⟨-, h⟩ | ⟨-, h⟩ | ⟨-, h⟩ | ⟨-, h⟩ | ⟨-, h⟩ | ⟨-, h⟩ | ⟨-, h⟩ | ⟨-, h⟩ | ⟨-, h⟩ | h <;> rw [h]
    exact Nat.le_trans (State.enterPowerDown_nopLeft_le _ v) (by simp)
  | restoreGie => exact Nat.le_refl _
  | setNmie => exact Nat.le_refl _
  | enterPower m => exact s.enterPower_nopLeft_le m

theorem State.landControls_nopLeft_le (s : State) : s.landControls.nopLeft ≤ s.nopLeft := by
  have key : ∀ (l : List ControlEffect) (t : State), (l.foldl State.applyControl t).nopLeft ≤ t.nopLeft := by
    intro l
    induction l with
    | nil => intro t; exact Nat.le_refl _
    | cons e rest ih =>
      intro t; rw [List.foldl_cons]; exact Nat.le_trans (ih _) (t.applyControl_nopLeft_le e)
  exact key s.controls s

/-! `State.landWrites`. -/

@[simp] theorem State.landWrites_device (s : State) : s.landWrites.device = s.device :=
  foldl_keeps State.device (fun t (w : PendingWrite) => t.setReg w.reg (s.landedValue w))
    (fun t w => State.setReg_device t w.reg _) s.landing s

@[simp] theorem State.landWrites_pc (s : State) : s.landWrites.pc = s.pc :=
  foldl_keeps State.pc (fun t (w : PendingWrite) => t.setReg w.reg (s.landedValue w))
    (fun t w => State.setReg_pc t w.reg _) s.landing s

@[simp] theorem State.landWrites_amr (s : State) : s.landWrites.amr = s.amr :=
  foldl_keeps State.amr (fun t (w : PendingWrite) => t.setReg w.reg (s.landedValue w))
    (fun t w => State.setReg_amr t w.reg _) s.landing s

@[simp] theorem State.landWrites_pwrd (s : State) : s.landWrites.pwrd = s.pwrd :=
  foldl_keeps State.pwrd (fun t (w : PendingWrite) => t.setReg w.reg (s.landedValue w))
    (fun t w => State.setReg_pwrd t w.reg _) s.landing s

@[simp] theorem State.landWrites_sat (s : State) : s.landWrites.sat = s.sat :=
  foldl_keeps State.sat (fun t (w : PendingWrite) => t.setReg w.reg (s.landedValue w))
    (fun t w => State.setReg_sat t w.reg _) s.landing s

@[simp] theorem State.landWrites_pcc (s : State) : s.landWrites.pcc = s.pcc :=
  foldl_keeps State.pcc (fun t (w : PendingWrite) => t.setReg w.reg (s.landedValue w))
    (fun t w => State.setReg_pcc t w.reg _) s.landing s

@[simp] theorem State.landWrites_dcc (s : State) : s.landWrites.dcc = s.dcc :=
  foldl_keeps State.dcc (fun t (w : PendingWrite) => t.setReg w.reg (s.landedValue w))
    (fun t w => State.setReg_dcc t w.reg _) s.landing s

@[simp] theorem State.landWrites_pgie (s : State) : s.landWrites.pgie = s.pgie :=
  foldl_keeps State.pgie (fun t (w : PendingWrite) => t.setReg w.reg (s.landedValue w))
    (fun t w => State.setReg_pgie t w.reg _) s.landing s

@[simp] theorem State.landWrites_gie (s : State) : s.landWrites.gie = s.gie :=
  foldl_keeps State.gie (fun t (w : PendingWrite) => t.setReg w.reg (s.landedValue w))
    (fun t w => State.setReg_gie t w.reg _) s.landing s

@[simp] theorem State.landWrites_ie (s : State) : s.landWrites.ie = s.ie :=
  foldl_keeps State.ie (fun t (w : PendingWrite) => t.setReg w.reg (s.landedValue w))
    (fun t w => State.setReg_ie t w.reg _) s.landing s

@[simp] theorem State.landWrites_nmie (s : State) : s.landWrites.nmie = s.nmie :=
  foldl_keeps State.nmie (fun t (w : PendingWrite) => t.setReg w.reg (s.landedValue w))
    (fun t w => State.setReg_nmie t w.reg _) s.landing s

@[simp] theorem State.landWrites_ifl (s : State) : s.landWrites.ifl = s.ifl :=
  foldl_keeps State.ifl (fun t (w : PendingWrite) => t.setReg w.reg (s.landedValue w))
    (fun t w => State.setReg_ifl t w.reg _) s.landing s

@[simp] theorem State.landWrites_nmif (s : State) : s.landWrites.nmif = s.nmif :=
  foldl_keeps State.nmif (fun t (w : PendingWrite) => t.setReg w.reg (s.landedValue w))
    (fun t w => State.setReg_nmif t w.reg _) s.landing s

@[simp] theorem State.landWrites_istb (s : State) : s.landWrites.istb = s.istb :=
  foldl_keeps State.istb (fun t (w : PendingWrite) => t.setReg w.reg (s.landedValue w))
    (fun t w => State.setReg_istb t w.reg _) s.landing s

@[simp] theorem State.landWrites_irp (s : State) : s.landWrites.irp = s.irp :=
  foldl_keeps State.irp (fun t (w : PendingWrite) => t.setReg w.reg (s.landedValue w))
    (fun t w => State.setReg_irp t w.reg _) s.landing s

@[simp] theorem State.landWrites_nrp (s : State) : s.landWrites.nrp = s.nrp :=
  foldl_keeps State.nrp (fun t (w : PendingWrite) => t.setReg w.reg (s.landedValue w))
    (fun t w => State.setReg_nrp t w.reg _) s.landing s

@[simp] theorem State.landWrites_fadcr (s : State) : s.landWrites.fadcr = s.fadcr :=
  foldl_keeps State.fadcr (fun t (w : PendingWrite) => t.setReg w.reg (s.landedValue w))
    (fun t w => State.setReg_fadcr t w.reg _) s.landing s

@[simp] theorem State.landWrites_faucr (s : State) : s.landWrites.faucr = s.faucr :=
  foldl_keeps State.faucr (fun t (w : PendingWrite) => t.setReg w.reg (s.landedValue w))
    (fun t w => State.setReg_faucr t w.reg _) s.landing s

@[simp] theorem State.landWrites_fmcr (s : State) : s.landWrites.fmcr = s.fmcr :=
  foldl_keeps State.fmcr (fun t (w : PendingWrite) => t.setReg w.reg (s.landedValue w))
    (fun t w => State.setReg_fmcr t w.reg _) s.landing s

@[simp] theorem State.landWrites_sats (s : State) : s.landWrites.sats = s.sats :=
  foldl_keeps State.sats (fun t (w : PendingWrite) => t.setReg w.reg (s.landedValue w))
    (fun t w => State.setReg_sats t w.reg _) s.landing s

@[simp] theorem State.landWrites_warns (s : State) : s.landWrites.warns = s.warns :=
  foldl_keeps State.warns (fun t (w : PendingWrite) => t.setReg w.reg (s.landedValue w))
    (fun t w => State.setReg_warns t w.reg _) s.landing s

@[simp] theorem State.landWrites_branches (s : State) : s.landWrites.branches = s.branches :=
  foldl_keeps State.branches (fun t (w : PendingWrite) => t.setReg w.reg (s.landedValue w))
    (fun t w => State.setReg_branches t w.reg _) s.landing s

@[simp] theorem State.landWrites_controls (s : State) : s.landWrites.controls = s.controls :=
  foldl_keeps State.controls (fun t (w : PendingWrite) => t.setReg w.reg (s.landedValue w))
    (fun t w => State.setReg_controls t w.reg _) s.landing s

@[simp] theorem State.landWrites_isrPend (s : State) : s.landWrites.isrPend = s.isrPend :=
  foldl_keeps State.isrPend (fun t (w : PendingWrite) => t.setReg w.reg (s.landedValue w))
    (fun t w => State.setReg_isrPend t w.reg _) s.landing s

@[simp] theorem State.landWrites_icrPend (s : State) : s.landWrites.icrPend = s.icrPend :=
  foldl_keeps State.icrPend (fun t (w : PendingWrite) => t.setReg w.reg (s.landedValue w))
    (fun t w => State.setReg_icrPend t w.reg _) s.landing s

@[simp] theorem State.landWrites_history (s : State) : s.landWrites.history = s.history :=
  foldl_keeps State.history (fun t (w : PendingWrite) => t.setReg w.reg (s.landedValue w))
    (fun t w => State.setReg_history t w.reg _) s.landing s

@[simp] theorem State.landWrites_nopLeft (s : State) : s.landWrites.nopLeft = s.nopLeft :=
  foldl_keeps State.nopLeft (fun t (w : PendingWrite) => t.setReg w.reg (s.landedValue w))
    (fun t w => State.setReg_nopLeft t w.reg _) s.landing s

@[simp] theorem State.landWrites_idle (s : State) : s.landWrites.idle = s.idle :=
  foldl_keeps State.idle (fun t (w : PendingWrite) => t.setReg w.reg (s.landedValue w))
    (fun t w => State.setReg_idle t w.reg _) s.landing s

@[simp] theorem State.landWrites_powerDown (s : State) : s.landWrites.powerDown = s.powerDown :=
  foldl_keeps State.powerDown (fun t (w : PendingWrite) => t.setReg w.reg (s.landedValue w))
    (fun t w => State.setReg_powerDown t w.reg _) s.landing s

@[simp] theorem State.landWrites_emptyLeft (s : State) : s.landWrites.emptyLeft = s.emptyLeft :=
  foldl_keeps State.emptyLeft (fun t (w : PendingWrite) => t.setReg w.reg (s.landedValue w))
    (fun t w => State.setReg_emptyLeft t w.reg _) s.landing s

@[simp] theorem State.landWrites_inputs (s : State) : s.landWrites.inputs = s.inputs :=
  foldl_keeps State.inputs (fun t (w : PendingWrite) => t.setReg w.reg (s.landedValue w))
    (fun t w => State.setReg_inputs t w.reg _) s.landing s

@[simp] theorem State.landWrites_mem (s : State) : s.landWrites.mem = s.mem :=
  foldl_keeps State.mem (fun t (w : PendingWrite) => t.setReg w.reg (s.landedValue w))
    (fun t w => State.setReg_mem t w.reg _) s.landing s

@[simp] theorem State.landWrites_pmem (s : State) : s.landWrites.pmem = s.pmem :=
  foldl_keeps State.pmem (fun t (w : PendingWrite) => t.setReg w.reg (s.landedValue w))
    (fun t w => State.setReg_pmem t w.reg _) s.landing s

@[simp] theorem State.landWrites_stored (s : State) : s.landWrites.stored = s.stored :=
  foldl_keeps State.stored (fun t (w : PendingWrite) => t.setReg w.reg (s.landedValue w))
    (fun t w => State.setReg_stored t w.reg _) s.landing s

@[simp] theorem State.landWrites_codeStores (s : State) : s.landWrites.codeStores = s.codeStores :=
  foldl_keeps State.codeStores (fun t (w : PendingWrite) => t.setReg w.reg (s.landedValue w))
    (fun t w => State.setReg_codeStores t w.reg _) s.landing s

@[simp] theorem State.landWrites_free (s : State) : s.landWrites.free = s.free :=
  foldl_keeps State.free (fun t (w : PendingWrite) => t.setReg w.reg (s.landedValue w))
    (fun t w => State.setReg_free t w.reg _) s.landing s

@[simp] theorem State.landWrites_writes (s : State) :
    s.landWrites.writes = ageWrites s.landingRegs s.writes (s.free + 64) := rfl

/-- The register files after the writes of a cycle depend on the files, the writes in flight and the counter alone. -/
theorem State.landWrites_files {s t : State} (ha : s.fileA = t.fileA) (hb : s.fileB = t.fileB)
    (hw : s.writes = t.writes) (hf : s.free = t.free) :
    s.landWrites.fileA = t.landWrites.fileA ∧ s.landWrites.fileB = t.landWrites.fileB := by
  have hv : ∀ w, s.landedValue w = t.landedValue w := by
    intro w; simp only [State.landedValue, State.landingRegs, State.landing, hw, hf]; rfl
  have key : ∀ (l : List PendingWrite) (x y : State), x.fileA = y.fileA → x.fileB = y.fileB →
      (l.foldl (fun t w => t.setReg w.reg (s.landedValue w)) x).fileA =
        (l.foldl (fun u w => u.setReg w.reg (t.landedValue w)) y).fileA ∧
      (l.foldl (fun t w => t.setReg w.reg (s.landedValue w)) x).fileB =
        (l.foldl (fun u w => u.setReg w.reg (t.landedValue w)) y).fileB := by
    intro l
    induction l with
    | nil => intro x y hx hy; exact ⟨hx, hy⟩
    | cons w rest ih =>
      intro x y hx hy
      refine ih _ _ ?_ ?_ <;> simp only [State.setReg, hv] <;> cases w.reg.side <;> simp [hx, hy]
  have hl : s.landing = t.landing := by simp [State.landing, hw]
  have := key s.landing s t ha hb
  simpa only [State.landWrites, hl] using this

/-! `State.landWarns`. -/

@[simp] theorem State.landWarns_device (s : State) (regs : List RegName) (n : Nat) : (s.landWarns regs n).device = s.device :=
  foldl_keeps State.device State.raise (fun t w => State.raise_device t w) (s.warns.filter fun w => w.left == 0) s

@[simp] theorem State.landWarns_fileA (s : State) (regs : List RegName) (n : Nat) : (s.landWarns regs n).fileA = s.fileA :=
  foldl_keeps State.fileA State.raise (fun t w => State.raise_fileA t w) (s.warns.filter fun w => w.left == 0) s

@[simp] theorem State.landWarns_fileB (s : State) (regs : List RegName) (n : Nat) : (s.landWarns regs n).fileB = s.fileB :=
  foldl_keeps State.fileB State.raise (fun t w => State.raise_fileB t w) (s.warns.filter fun w => w.left == 0) s

@[simp] theorem State.landWarns_pc (s : State) (regs : List RegName) (n : Nat) : (s.landWarns regs n).pc = s.pc :=
  foldl_keeps State.pc State.raise (fun t w => State.raise_pc t w) (s.warns.filter fun w => w.left == 0) s

@[simp] theorem State.landWarns_amr (s : State) (regs : List RegName) (n : Nat) : (s.landWarns regs n).amr = s.amr :=
  foldl_keeps State.amr State.raise (fun t w => State.raise_amr t w) (s.warns.filter fun w => w.left == 0) s

@[simp] theorem State.landWarns_pwrd (s : State) (regs : List RegName) (n : Nat) : (s.landWarns regs n).pwrd = s.pwrd :=
  foldl_keeps State.pwrd State.raise (fun t w => State.raise_pwrd t w) (s.warns.filter fun w => w.left == 0) s

@[simp] theorem State.landWarns_sat (s : State) (regs : List RegName) (n : Nat) : (s.landWarns regs n).sat = s.sat :=
  foldl_keeps State.sat State.raise (fun t w => State.raise_sat t w) (s.warns.filter fun w => w.left == 0) s

@[simp] theorem State.landWarns_pcc (s : State) (regs : List RegName) (n : Nat) : (s.landWarns regs n).pcc = s.pcc :=
  foldl_keeps State.pcc State.raise (fun t w => State.raise_pcc t w) (s.warns.filter fun w => w.left == 0) s

@[simp] theorem State.landWarns_dcc (s : State) (regs : List RegName) (n : Nat) : (s.landWarns regs n).dcc = s.dcc :=
  foldl_keeps State.dcc State.raise (fun t w => State.raise_dcc t w) (s.warns.filter fun w => w.left == 0) s

@[simp] theorem State.landWarns_pgie (s : State) (regs : List RegName) (n : Nat) : (s.landWarns regs n).pgie = s.pgie :=
  foldl_keeps State.pgie State.raise (fun t w => State.raise_pgie t w) (s.warns.filter fun w => w.left == 0) s

@[simp] theorem State.landWarns_gie (s : State) (regs : List RegName) (n : Nat) : (s.landWarns regs n).gie = s.gie :=
  foldl_keeps State.gie State.raise (fun t w => State.raise_gie t w) (s.warns.filter fun w => w.left == 0) s

@[simp] theorem State.landWarns_ie (s : State) (regs : List RegName) (n : Nat) : (s.landWarns regs n).ie = s.ie :=
  foldl_keeps State.ie State.raise (fun t w => State.raise_ie t w) (s.warns.filter fun w => w.left == 0) s

@[simp] theorem State.landWarns_nmie (s : State) (regs : List RegName) (n : Nat) : (s.landWarns regs n).nmie = s.nmie :=
  foldl_keeps State.nmie State.raise (fun t w => State.raise_nmie t w) (s.warns.filter fun w => w.left == 0) s

@[simp] theorem State.landWarns_ifl (s : State) (regs : List RegName) (n : Nat) : (s.landWarns regs n).ifl = s.ifl :=
  foldl_keeps State.ifl State.raise (fun t w => State.raise_ifl t w) (s.warns.filter fun w => w.left == 0) s

@[simp] theorem State.landWarns_nmif (s : State) (regs : List RegName) (n : Nat) : (s.landWarns regs n).nmif = s.nmif :=
  foldl_keeps State.nmif State.raise (fun t w => State.raise_nmif t w) (s.warns.filter fun w => w.left == 0) s

@[simp] theorem State.landWarns_istb (s : State) (regs : List RegName) (n : Nat) : (s.landWarns regs n).istb = s.istb :=
  foldl_keeps State.istb State.raise (fun t w => State.raise_istb t w) (s.warns.filter fun w => w.left == 0) s

@[simp] theorem State.landWarns_irp (s : State) (regs : List RegName) (n : Nat) : (s.landWarns regs n).irp = s.irp :=
  foldl_keeps State.irp State.raise (fun t w => State.raise_irp t w) (s.warns.filter fun w => w.left == 0) s

@[simp] theorem State.landWarns_nrp (s : State) (regs : List RegName) (n : Nat) : (s.landWarns regs n).nrp = s.nrp :=
  foldl_keeps State.nrp State.raise (fun t w => State.raise_nrp t w) (s.warns.filter fun w => w.left == 0) s

@[simp] theorem State.landWarns_writes (s : State) (regs : List RegName) (n : Nat) : (s.landWarns regs n).writes = s.writes :=
  foldl_keeps State.writes State.raise (fun t w => State.raise_writes t w) (s.warns.filter fun w => w.left == 0) s

@[simp] theorem State.landWarns_sats (s : State) (regs : List RegName) (n : Nat) : (s.landWarns regs n).sats = s.sats :=
  foldl_keeps State.sats State.raise (fun t w => State.raise_sats t w) (s.warns.filter fun w => w.left == 0) s

@[simp] theorem State.landWarns_branches (s : State) (regs : List RegName) (n : Nat) : (s.landWarns regs n).branches = s.branches :=
  foldl_keeps State.branches State.raise (fun t w => State.raise_branches t w) (s.warns.filter fun w => w.left == 0) s

@[simp] theorem State.landWarns_controls (s : State) (regs : List RegName) (n : Nat) : (s.landWarns regs n).controls = s.controls :=
  foldl_keeps State.controls State.raise (fun t w => State.raise_controls t w) (s.warns.filter fun w => w.left == 0) s

@[simp] theorem State.landWarns_isrPend (s : State) (regs : List RegName) (n : Nat) : (s.landWarns regs n).isrPend = s.isrPend :=
  foldl_keeps State.isrPend State.raise (fun t w => State.raise_isrPend t w) (s.warns.filter fun w => w.left == 0) s

@[simp] theorem State.landWarns_icrPend (s : State) (regs : List RegName) (n : Nat) : (s.landWarns regs n).icrPend = s.icrPend :=
  foldl_keeps State.icrPend State.raise (fun t w => State.raise_icrPend t w) (s.warns.filter fun w => w.left == 0) s

@[simp] theorem State.landWarns_history (s : State) (regs : List RegName) (n : Nat) : (s.landWarns regs n).history = s.history :=
  foldl_keeps State.history State.raise (fun t w => State.raise_history t w) (s.warns.filter fun w => w.left == 0) s

@[simp] theorem State.landWarns_nopLeft (s : State) (regs : List RegName) (n : Nat) : (s.landWarns regs n).nopLeft = s.nopLeft :=
  foldl_keeps State.nopLeft State.raise (fun t w => State.raise_nopLeft t w) (s.warns.filter fun w => w.left == 0) s

@[simp] theorem State.landWarns_idle (s : State) (regs : List RegName) (n : Nat) : (s.landWarns regs n).idle = s.idle :=
  foldl_keeps State.idle State.raise (fun t w => State.raise_idle t w) (s.warns.filter fun w => w.left == 0) s

@[simp] theorem State.landWarns_powerDown (s : State) (regs : List RegName) (n : Nat) : (s.landWarns regs n).powerDown = s.powerDown :=
  foldl_keeps State.powerDown State.raise (fun t w => State.raise_powerDown t w) (s.warns.filter fun w => w.left == 0) s

@[simp] theorem State.landWarns_emptyLeft (s : State) (regs : List RegName) (n : Nat) : (s.landWarns regs n).emptyLeft = s.emptyLeft :=
  foldl_keeps State.emptyLeft State.raise (fun t w => State.raise_emptyLeft t w) (s.warns.filter fun w => w.left == 0) s

@[simp] theorem State.landWarns_inputs (s : State) (regs : List RegName) (n : Nat) : (s.landWarns regs n).inputs = s.inputs :=
  foldl_keeps State.inputs State.raise (fun t w => State.raise_inputs t w) (s.warns.filter fun w => w.left == 0) s

@[simp] theorem State.landWarns_mem (s : State) (regs : List RegName) (n : Nat) : (s.landWarns regs n).mem = s.mem :=
  foldl_keeps State.mem State.raise (fun t w => State.raise_mem t w) (s.warns.filter fun w => w.left == 0) s

@[simp] theorem State.landWarns_pmem (s : State) (regs : List RegName) (n : Nat) : (s.landWarns regs n).pmem = s.pmem :=
  foldl_keeps State.pmem State.raise (fun t w => State.raise_pmem t w) (s.warns.filter fun w => w.left == 0) s

@[simp] theorem State.landWarns_stored (s : State) (regs : List RegName) (n : Nat) : (s.landWarns regs n).stored = s.stored :=
  foldl_keeps State.stored State.raise (fun t w => State.raise_stored t w) (s.warns.filter fun w => w.left == 0) s

@[simp] theorem State.landWarns_codeStores (s : State) (regs : List RegName) (n : Nat) : (s.landWarns regs n).codeStores = s.codeStores :=
  foldl_keeps State.codeStores State.raise (fun t w => State.raise_codeStores t w) (s.warns.filter fun w => w.left == 0) s

@[simp] theorem State.landWarns_free (s : State) (regs : List RegName) (n : Nat) : (s.landWarns regs n).free = s.free :=
  foldl_keeps State.free State.raise (fun t w => State.raise_free t w) (s.warns.filter fun w => w.left == 0) s

@[simp] theorem State.landWarns_warns (s : State) (regs : List RegName) (n : Nat) :
    (s.landWarns regs n).warns = ageWarns regs s.warns n := rfl

/-! `State.endCycle`. -/

@[simp] theorem State.endCycle_device (s : State) (issues : List Issue) (seq : Word) :
    (s.endCycle issues seq).device = s.device := by simp [State.endCycle]

/-- What other bus masters write depends on the device and the inputs alone. -/
theorem State.external_eq {s t : State} (hd : t.device = s.device) (hi : t.inputs = s.inputs) :
    t.external = s.external := by simp only [State.external, State.input, hd, hi]

/-- In the base model no other bus master writes. -/
theorem State.external_of_base {s : State} (h : s.device.externalWriters = false) : s.external = [] := by
  simp [State.external, h]

theorem State.external_lt (s : State) : ∀ c ∈ s.external, c.1 < 2 ^ 32 := by
  intro c hc
  unfold State.external at hc
  split at hc
  · exact of_decide_eq_true (List.mem_filter.1 hc).2
  · cases hc

/-- A cycle in which no other bus master writes leaves memory to the CPU. -/
theorem State.landExternal_of_none {s : State} (h : s.external = []) : s.landExternal = s := by
  simp [State.landExternal, h, writeBytes, insertAddresses]

/-- The state before the writes of other bus masters land. -/
theorem State.endCycle_external (s : State) (seq : Word) (regs : List RegName) (n m : Nat) :
    ((s.latchFlags.landControls.landWrites.landSats.landWarns regs n).landBranches seq m).external = s.external :=
  State.external_eq (by simp) (by simp)

@[simp] theorem State.endCycle_mem (s : State) (issues : List Issue) (seq : Word) :
    (s.endCycle issues seq).mem = s.landExternal.mem := by
  simp [State.endCycle, State.endCycle_external]
@[simp] theorem State.endCycle_pmem (s : State) (issues : List Issue) (seq : Word) :
    (s.endCycle issues seq).pmem = s.pmem := by simp [State.endCycle]
@[simp] theorem State.endCycle_codeStores (s : State) (issues : List Issue) (seq : Word) :
    (s.endCycle issues seq).codeStores = s.landExternal.codeStores := by
  simp [State.endCycle, State.endCycle_external]
@[simp] theorem State.endCycle_emptyLeft (s : State) (issues : List Issue) (seq : Word) :
    (s.endCycle issues seq).emptyLeft = s.emptyLeft := by simp [State.endCycle]
@[simp] theorem State.endCycle_ifl (s : State) (issues : List Issue) (seq : Word) :
    (s.endCycle issues seq).ifl = s.nextFlags := by simp [State.endCycle]

@[simp] theorem State.endCycle_inputs (s : State) (issues : List Issue) (seq : Word) :
    (s.endCycle issues seq).inputs = s.inputs.tail := by
  simp [State.endCycle, State.closeCycle, State.landBranches, State.landSats, State.landingRegs, State.landing,
    State.landingTargets]

@[simp] theorem State.endCycle_controls (s : State) (issues : List Issue) (seq : Word) :
    (s.endCycle issues seq).controls = [] := by
  simp [State.endCycle, State.closeCycle, State.landBranches, State.landSats, State.landingRegs, State.landing,
    State.landingTargets]

@[simp] theorem State.endCycle_stored (s : State) (issues : List Issue) (seq : Word) :
    (s.endCycle issues seq).stored = [] := by
  simp [State.endCycle, State.closeCycle, State.landBranches, State.landSats, State.landingRegs, State.landing,
    State.landingTargets]

@[simp] theorem State.endCycle_history (s : State) (issues : List Issue) (seq : Word) :
    (s.endCycle issues seq).history = (issues :: s.history).take 9 := by
  simp [State.endCycle, State.closeCycle, State.landBranches, State.landSats, State.landingRegs, State.landing,
    State.landingTargets]

@[simp] theorem State.endCycle_nmif (s : State) (issues : List Issue) (seq : Word) :
    (s.endCycle issues seq).nmif = (s.nmif || s.input.nmi) := by
  simp [State.endCycle, State.closeCycle, State.landBranches, State.landSats, State.landingRegs, State.landing,
    State.landingTargets]

@[simp] theorem State.endCycle_writes (s : State) (issues : List Issue) (seq : Word) :
    (s.endCycle issues seq).writes = ageWrites s.landingRegs s.writes (s.free + 64) := by
  simp [State.endCycle, State.closeCycle, State.landBranches, State.landSats, State.landingRegs, State.landing,
    State.landingTargets]

@[simp] theorem State.endCycle_warns (s : State) (issues : List Issue) (seq : Word) :
    (s.endCycle issues seq).warns = ageWarns s.landingRegs s.warns (s.free + 64 + s.writes.length) := by
  simp [State.endCycle, State.closeCycle, State.landBranches, State.landSats, State.landingRegs, State.landing,
    State.landingTargets]

@[simp] theorem State.endCycle_sats (s : State) (issues : List Issue) (seq : Word) :
    (s.endCycle issues seq).sats = (s.sats.filter fun p => p.left != 0).map (fun p => { p with left := p.left - 1 }) := by
  simp [State.endCycle, State.closeCycle, State.landBranches, State.landSats, State.landingRegs, State.landing,
    State.landingTargets]

@[simp] theorem State.endCycle_branches (s : State) (issues : List Issue) (seq : Word) :
    (s.endCycle issues seq).branches = (s.branches.filter fun b => b.left != 0).map (fun b => { b with left := b.left - 1 }) := by
  simp [State.endCycle, State.closeCycle, State.landBranches, State.landSats, State.landingRegs, State.landing,
    State.landingTargets]

@[simp] theorem State.endCycle_free (s : State) (issues : List Issue) (seq : Word) :
    (s.endCycle issues seq).free = s.free + (65 + s.writes.length + s.warns.length) := by
  simp [State.endCycle, State.closeCycle, State.landBranches, State.landSats, State.landingRegs, State.landing,
    State.landingTargets]

@[simp] theorem State.endCycle_pc (s : State) (issues : List Issue) (seq : Word) :
    (s.endCycle issues seq).pc = nextPc s.landingTargets seq (freeTarget (s.free + 64 + s.writes.length + s.warns.length)) := by
  simp [State.endCycle, State.closeCycle, State.landBranches, State.landSats, State.landingRegs, State.landing,
    State.landingTargets]

/-- The register files after a cycle: the writes that land, whatever else happened in it. -/
theorem State.endCycle_files (s : State) (issues : List Issue) (seq : Word) :
    (s.endCycle issues seq).fileA = s.landWrites.fileA ∧ (s.endCycle issues seq).fileB = s.landWrites.fileB := by
  simp only [State.endCycle, State.closeCycle_fileA, State.closeCycle_fileB, State.landExternal_fileA,
    State.landExternal_fileB, State.landBranches_fileA,
    State.landBranches_fileB, State.landWarns_fileA, State.landWarns_fileB, State.landSats_fileA,
    State.landSats_fileB]
  exact State.landWrites_files (by simp) (by simp) (by simp) (by simp)

@[simp] theorem State.endCycle_reg (s : State) (issues : List Issue) (seq : Word) (n : RegName) :
    (s.endCycle issues seq).reg n = s.landWrites.reg n := by
  obtain ⟨ha, hb⟩ := s.endCycle_files issues seq
  simp only [State.reg, ha, hb]

theorem State.endCycle_nopLeft_le (s : State) (issues : List Issue) (seq : Word) :
    (s.endCycle issues seq).nopLeft ≤ s.nopLeft := by
  have h : s.latchFlags.landControls.nopLeft ≤ s.nopLeft := by
    have := s.latchFlags.landControls_nopLeft_le; simpa using this
  simp only [State.endCycle, State.closeCycle_nopLeft, State.landBranches]
  split
  · simpa using h
  · exact Nat.zero_le _

/-- A register after one register is set. -/
theorem State.reg_setReg (t : State) (m n : RegName) (v : Word) :
    (t.setReg m v).reg n = if m = n then v else t.reg n := by
  obtain ⟨ms, mn⟩ := m
  obtain ⟨ns, nn⟩ := n
  cases ms <;> cases ns <;> simp [State.setReg, State.reg, Vector.getElem_set, ← BitVec.toNat_inj]

/-- A register after writes land on `t`: the last of those on it, with the value it leaves. -/
theorem State.reg_foldl_setReg (s : State) (l : List PendingWrite) (t : State) (n : RegName) :
    (l.foldl (fun t w => t.setReg w.reg (s.landedValue w)) t).reg n =
      match (l.filter fun w => w.reg == n).getLast? with
      | none => t.reg n
      | some w => s.landedValue w := by
  induction l generalizing t with
  | nil => rfl
  | cons w rest ih =>
    rw [List.foldl_cons, ih, List.filter_cons]
    by_cases h : w.reg = n
    · simp only [h, beq_self_eq_true, if_true]
      cases hr : rest.filter fun w => w.reg == n with
      | nil => simp [State.reg_setReg]
      | cons a b => simp [List.getLast?_cons]
    · have : (w.reg == n) = false := by simpa using h
      simp [this, State.reg_setReg, h]

/-- A write still in flight was queued one cycle further off. -/
theorem mem_ageWrites {regs : List RegName} {l : List PendingWrite} {n : Nat} {w : PendingWrite}
    (h : w ∈ ageWrites regs l n) : ∃ v ∈ l, v.left ≠ 0 ∧ v.reg = w.reg ∧ v.left = w.left + 1 := by
  induction l generalizing n with
  | nil => cases h
  | cons x rest ih =>
    simp only [ageWrites] at h
    split at h
    · obtain ⟨v, hv, k⟩ := ih h
      exact ⟨v, by simp [hv], k⟩
    · rename_i hx
      rcases List.mem_cons.1 h with rfl | h
      · refine ⟨x, by simp, hx, ?_⟩
        unfold PendingWrite.age
        split <;> simp <;> omega
      · obtain ⟨v, hv, k⟩ := ih h
        exact ⟨v, by simp [hv], k⟩

/-- A write whose instruction has read all its sources stays in flight with its value. -/
theorem ageWrites_of_mem {regs : List RegName} {l : List PendingWrite} {n : Nat} {w : PendingWrite} {k : Nat}
    (h : w ∈ l) (hk : w.left = k + 1) (hw : w.watchLeft = 0) :
    { w with left := k } ∈ ageWrites regs l n := by
  induction l generalizing n with
  | nil => cases h
  | cons x rest ih =>
    simp only [ageWrites]
    rcases List.mem_cons.1 h with rfl | h
    · rw [if_neg (by omega)]
      refine List.mem_cons.2 (Or.inl ?_)
      simp [PendingWrite.age, disturbed, hw, hk]
    · split
      · exact ih h
      · exact List.mem_cons_of_mem _ (ih h)

/-- A write that stays in flight is one cycle older afterwards, with its own number for a free value. -/
theorem age_mem_ageWrites {regs : List RegName} {l : List PendingWrite} {n : Nat} {w : PendingWrite}
    (h : w ∈ l) (hk : w.left ≠ 0) : ∃ j, n ≤ j ∧ j < n + l.length ∧ w.age regs j ∈ ageWrites regs l n := by
  induction l generalizing n with
  | nil => cases h
  | cons x rest ih =>
    simp only [ageWrites]
    rcases List.mem_cons.1 h with rfl | h
    · rw [if_neg hk]
      exact ⟨n, Nat.le_refl n, by simp, List.mem_cons_self⟩
    · obtain ⟨j, h1, h2, h3⟩ := ih (n := n + 1) h
      refine ⟨j, by omega, by simp only [List.length_cons]; omega, ?_⟩
      split
      · exact h3
      · exact List.mem_cons_of_mem _ h3

/-- Warning bits still in flight were queued, and grew one cycle older. -/
theorem mem_ageWarns {regs : List RegName} {l : List PendingWarn} {n : Nat} {w : PendingWarn}
    (h : w ∈ ageWarns regs l n) : ∃ v ∈ l, v.left ≠ 0 ∧ ∃ j, n ≤ j ∧ j < n + l.length ∧ w = v.age regs j := by
  induction l generalizing n with
  | nil => cases h
  | cons x rest ih =>
    have lift : w ∈ ageWarns regs rest (n + 1) →
        ∃ v ∈ x :: rest, v.left ≠ 0 ∧ ∃ j, n ≤ j ∧ j < n + (x :: rest).length ∧ w = v.age regs j := by
      intro h
      obtain ⟨v, hv, h0, j, h1, h2, h3⟩ := ih h
      exact ⟨v, List.mem_cons_of_mem _ hv, h0, j, by omega, by simp only [List.length_cons]; omega, h3⟩
    simp only [ageWarns] at h
    split at h
    · exact lift h
    · rename_i hx
      rcases List.mem_cons.1 h with rfl | h
      · exact ⟨x, List.mem_cons_self, hx, n, Nat.le_refl n, by simp, rfl⟩
      · exact lift h

/-- Warning bits that stay in flight are one cycle older afterwards, with their own number for a free value. -/
theorem age_mem_ageWarns {regs : List RegName} {l : List PendingWarn} {n : Nat} {w : PendingWarn}
    (h : w ∈ l) (hk : w.left ≠ 0) : ∃ j, n ≤ j ∧ j < n + l.length ∧ w.age regs j ∈ ageWarns regs l n := by
  induction l generalizing n with
  | nil => cases h
  | cons x rest ih =>
    simp only [ageWarns]
    rcases List.mem_cons.1 h with rfl | h
    · rw [if_neg hk]
      exact ⟨n, Nat.le_refl n, by simp, List.mem_cons_self⟩
    · obtain ⟨j, h1, h2, h3⟩ := ih (n := n + 1) h
      refine ⟨j, by omega, by simp only [List.length_cons]; omega, ?_⟩
      split
      · exact h3
      · exact List.mem_cons_of_mem _ h3

/-- A free branch target is a multiple of 4. -/
theorem freeTarget_aligned (n : Nat) : (freeTarget n).toNat % 4 = 0 := by
  unfold freeTarget
  generalize Config.freeWord n = w
  have h : (w &&& 0xFFFFFFFC#32).extractLsb' 0 2 = 0#2 := by
    apply BitVec.eq_of_getLsbD_eq
    intro i hi
    have : i = 0 ∨ i = 1 := by omega
    rcases this with rfl | rfl <;> simp
  have := congrArg BitVec.toNat h
  simpa [BitVec.extractLsb'_toNat] using this

end Sys2Proof.Machine
end

