-- ==== Sys2Proof/Laws/Memory.lean ====
section
/-! SUPPORT. The laws of memory: a byte written is read back, every other byte keeps its value, and every operation
keeps the canonical form. -/

namespace Sys2Proof.Machine

theorem Memory.wf_cons {k : Nat} {v : Byte} {rest : Memory} :
    Memory.wf ((k, v) :: rest) = true ↔
      (k < 2 ^ 32 ∧ v ≠ blankByte) ∧ (∀ c ∈ rest, k < c.1) ∧ Memory.wf rest = true := by
  simp [Memory.wf, and_assoc]

theorem readByte_of_lt (m : Memory) (a : Nat) (h : ∀ c ∈ m, a < c.1) : readByte m a = blankByte := by
  induction m with
  | nil => rfl
  | cons c rest ih =>
    obtain ⟨k, v⟩ := c
    have hk : a < k := h (k, v) (by simp)
    simp only [readByte]
    rw [if_neg (by omega), ih fun c hc => h c (by simp [hc])]

/-- A byte written is the byte read, and no other byte changes. -/
theorem readByte_writeByte (m : Memory) (a : Nat) (b : Byte) (x : Nat) (h : Memory.wf m = true) :
    readByte (writeByte m a b) x = if x = a then b else readByte m x := by
  induction m with
  | nil =>
    by_cases hb : b = blankByte
    · simp [writeByte, hb, readByte]
    · by_cases hx : x = a
      · simp [writeByte, hb, readByte, hx]
      · simp [writeByte, hb, readByte, hx, Ne.symm hx]
  | cons c rest ih =>
    obtain ⟨k, v⟩ := c
    obtain ⟨⟨_, _⟩, hk, hr⟩ := Memory.wf_cons.1 h
    simp only [writeByte]
    split
    · rename_i hlt
      have hn : readByte ((k, v) :: rest) a = blankByte :=
        readByte_of_lt _ _ fun c hc => by
          rcases List.mem_cons.1 hc with rfl | hc
          · exact hlt
          · exact hlt.trans (hk c hc)
      by_cases hb : b = blankByte
      · subst hb; rw [if_pos rfl]
        by_cases hx : x = a
        · subst hx; simp [hn]
        · simp [hx]
      · rw [if_neg hb]
        by_cases hx : x = a
        · subst hx; simp [readByte]
        · simp [readByte, hx, Ne.symm hx]
    · split
      · rename_i heq; subst heq
        by_cases hb : b = blankByte
        · subst hb; rw [if_pos rfl]
          by_cases hx : x = a
          · subst hx; simp [readByte_of_lt rest x hk]
          · simp [readByte, hx, Ne.symm hx]
        · rw [if_neg hb]
          by_cases hx : x = a
          · subst hx; simp [readByte]
          · simp [readByte, hx, Ne.symm hx]
      · rename_i hne
        simp only [readByte]
        by_cases hx : k = x
        · subst hx; rw [if_pos rfl, if_pos rfl, if_neg (Ne.symm hne)]
        · rw [if_neg hx, if_neg hx, ih hr]

theorem writeByte_keys (m : Memory) (a : Nat) (b : Byte) : ∀ c ∈ writeByte m a b, c.1 = a ∨ c ∈ m := by
  induction m with
  | nil => intro c; by_cases hb : b = blankByte <;> simp_all [writeByte]
  | cons d rest ih =>
    obtain ⟨k, v⟩ := d
    intro c
    simp only [writeByte]
    split
    · split
      · exact Or.inr
      · intro hc
        rcases List.mem_cons.1 hc with rfl | hc
        · exact Or.inl rfl
        · exact Or.inr hc
    · split
      · split
        · exact fun hc => Or.inr (List.mem_cons_of_mem _ hc)
        · intro hc
          rcases List.mem_cons.1 hc with rfl | hc
          · exact Or.inl rfl
          · exact Or.inr (List.mem_cons_of_mem _ hc)
      · intro hc
        rcases List.mem_cons.1 hc with rfl | hc
        · exact Or.inr (by simp)
        · rcases ih c hc with h | h
          · exact Or.inl h
          · exact Or.inr (List.mem_cons_of_mem _ h)

/-- Writing a byte keeps the canonical form. -/
theorem writeByte_wf (m : Memory) (a : Nat) (b : Byte) (h : Memory.wf m = true) (ha : a < 2 ^ 32) :
    Memory.wf (writeByte m a b) = true := by
  induction m with
  | nil => by_cases hb : b = blankByte <;> simp_all [writeByte, Memory.wf]
  | cons c rest ih =>
    obtain ⟨k, v⟩ := c
    obtain ⟨⟨hk, hv⟩, hlt, hr⟩ := Memory.wf_cons.1 h
    simp only [writeByte]
    split
    · rename_i hak
      split
      · exact h
      · rename_i hb
        refine Memory.wf_cons.2 ⟨⟨ha, hb⟩, ?_, h⟩
        intro c hc
        rcases List.mem_cons.1 hc with rfl | hc
        · exact hak
        · exact hak.trans (hlt c hc)
    · split
      · rename_i hak; subst hak
        split
        · exact hr
        · rename_i hb; exact Memory.wf_cons.2 ⟨⟨ha, hb⟩, hlt, hr⟩
      · refine Memory.wf_cons.2 ⟨⟨hk, hv⟩, ?_, ih hr⟩
        intro c hc
        rcases writeByte_keys rest a b c hc with h | h
        · omega
        · exact hlt c h

/-- Writing bytes keeps the canonical form. -/
theorem writeBytes_wf (cells : List (Nat × Byte)) (m : Memory) (h : Memory.wf m = true)
    (hc : ∀ c ∈ cells, c.1 < 2 ^ 32) : Memory.wf (writeBytes m cells) = true := by
  induction cells generalizing m with
  | nil => exact h
  | cons c rest ih =>
    exact ih _ (writeByte_wf m c.1 c.2 h (hc c (by simp))) fun d hd => hc d (by simp [hd])

theorem laneAddress_lt (e : Endian) (a : Word) (n k : Nat) : laneAddress e a n k < 2 ^ 32 := by
  unfold laneAddress; split <;> exact BitVec.isLt _

theorem mem_laneAddresses_lt {e : Endian} {a : Word} {n x : Nat} (h : x ∈ laneAddresses e a n) : x < 2 ^ 32 := by
  simp only [laneAddresses, List.mem_map] at h
  obtain ⟨k, -, rfl⟩ := h
  exact laneAddress_lt e a n k

theorem mem_insertAddress {a b : Nat} {l : List Nat} (h : b ∈ insertAddress a l) : b = a ∨ b ∈ l := by
  induction l with
  | nil => simp_all [insertAddress]
  | cons k rest ih =>
    simp only [insertAddress] at h
    split at h
    · simpa using h
    · split at h
      · exact Or.inr h
      · rcases List.mem_cons.1 h with rfl | h
        · exact Or.inr (by simp)
        · rcases ih h with h | h
          · exact Or.inl h
          · exact Or.inr (by simp [h])

/-- One more address keeps the addresses rising. -/
theorem insertAddress_rising (a : Nat) (l : List Nat) (h : risingAddresses l = true) (ha : a < 2 ^ 32) :
    risingAddresses (insertAddress a l) = true := by
  induction l with
  | nil => simpa [insertAddress, risingAddresses] using ha
  | cons k rest ih =>
    have hc := h
    simp only [risingAddresses, Bool.and_eq_true, decide_eq_true_eq, List.all_eq_true] at hc
    obtain ⟨⟨hk, hlt⟩, hr⟩ := hc
    simp only [insertAddress]
    split
    · rename_i hak
      simp only [risingAddresses, Bool.and_eq_true, decide_eq_true_eq, List.all_eq_true, List.mem_cons,
        forall_eq_or_imp]
      exact ⟨⟨ha, hak, fun b hb => hak.trans (hlt b hb)⟩, ⟨hk, hlt⟩, hr⟩
    · split
      · exact h
      · simp only [risingAddresses, Bool.and_eq_true, decide_eq_true_eq, List.all_eq_true]
        refine ⟨⟨hk, fun b hb => ?_⟩, ih hr⟩
        rcases mem_insertAddress hb with rfl | hb
        · omega
        · exact hlt b hb

/-- More addresses keep the addresses rising. -/
theorem insertAddresses_rising (addrs l : List Nat) (h : risingAddresses l = true) (ha : ∀ a ∈ addrs, a < 2 ^ 32) :
    risingAddresses (insertAddresses addrs l) = true := by
  induction addrs with
  | nil => exact h
  | cons a rest ih =>
    exact insertAddress_rising a _ (ih fun b hb => ha b (by simp [hb])) (ha a (by simp))

/-- Memory after reset is in canonical form. -/
theorem reset_memory_wf : Memory.wf State.reset.mem = true ∧ Memory.wf State.reset.pmem = true := ⟨rfl, rfl⟩

/-- A byte stored: the canonical form holds after it. -/
theorem State.storeByte_mem_wf (s : State) (a : Nat) (b : Byte) (h : Memory.wf s.mem = true) (ha : a < 2 ^ 32) :
    Memory.wf (s.storeByte a b).mem = true := writeByte_wf _ _ _ h ha

/-- Bytes stored: only data memory, the addresses stored to, the changed code and the counter of free values can
change, and memory and changed code keep their form. -/
theorem State.storeBytes_spec (cells : List (Nat × Byte)) (s : State) :
    ∃ mem stored codeStores free,
      s.storeBytes cells = { s with mem := mem, stored := stored, codeStores := codeStores, free := free } ∧
      s.free ≤ free ∧
      ((∀ c ∈ cells, c.1 < 2 ^ 32) → Memory.wf s.mem = true → Memory.wf mem = true) ∧
      ((∀ c ∈ cells, c.1 < 2 ^ 32) → risingAddresses s.codeStores = true → risingAddresses codeStores = true) := by
  induction cells generalizing s with
  | nil => exact ⟨s.mem, s.stored, s.codeStores, s.free, rfl, le_refl _, fun _ h => h, fun _ h => h⟩
  | cons c rest ih =>
    obtain ⟨m, st, cs, f, he, hf, hm, hcs⟩ := ih (s.storeByte c.1 c.2)
    refine ⟨m, st, cs, f, he, (Nat.le_succ _).trans hf, fun hc h => ?_, fun hc h => ?_⟩
    · exact hm (fun d hd => hc d (by simp [hd])) (State.storeByte_mem_wf s _ _ h (hc c (by simp)))
    · refine hcs (fun d hd => hc d (by simp [hd])) ?_
      simp only [State.storeByte]
      split
      · exact insertAddress_rising _ _ h (hc c (by simp))
      · exact h

/-- Bytes that no byte is stored to keep their value. -/
theorem State.storeBytes_frame (cells : List (Nat × Byte)) (s : State) (x : Nat) (h : Memory.wf s.mem = true)
    (hc : ∀ c ∈ cells, c.1 < 2 ^ 32) (hx : ∀ c ∈ cells, c.1 ≠ x) :
    readByte (s.storeBytes cells).mem x = readByte s.mem x := by
  induction cells generalizing s with
  | nil => rfl
  | cons c rest ih =>
    show readByte ((s.storeByte c.1 c.2).storeBytes rest).mem x = _
    rw [ih _ (State.storeByte_mem_wf s _ _ h (hc c (by simp))) (fun d hd => hc d (by simp [hd]))
      fun d hd => hx d (by simp [hd])]
    have hne := hx c (by simp)
    simp only [State.storeByte]
    rw [readByte_writeByte _ _ _ _ h, if_neg (Ne.symm hne)]

end Sys2Proof.Machine
end

