-- ==== Sys2Proof/Laws/Ops.lean ====
section
/-! SUPPORT. What each shared operation can do, said once: if it answers a next state, which one. And what a meaning can
change at all (`State.Grows`), and the kinds of a step. -/

namespace Sys2Proof.Machine

/-! Conditions and issuing. -/

@[simp] theorem guarded_of_true {c : Cond} {s : State} (e : Result) (h : s.holds c = true) : guarded c s e = e := by
  simp [guarded, h]

@[simp] theorem guarded_of_false {c : Cond} {s : State} (e : Result) (h : s.holds c = false) :
    guarded c s e = .next s := by
  simp [guarded, h]

/-- A conditional instruction that answers a next state changed nothing, or had its effect. -/
theorem guarded_next {c : Cond} {s t : State} {e : Result} (h : guarded c s e = .next t) :
    (s.holds c = false ∧ t = s) ∨ (s.holds c = true ∧ e = .next t) := by
  cases hc : s.holds c
  · rw [guarded_of_false e hc] at h; exact Or.inl ⟨rfl, (Host.Outcome.next.inj h).symm⟩
  · rw [guarded_of_true e hc] at h; exact Or.inr ⟨rfl, h⟩

/-- A next state of an instruction with one 32-bit result. -/
theorem issueWord_next {c : Cond} {side : Side} {dst : Reg} {left : Nat} {v : Word} {s t : State}
    (h : issueWord c side dst left v s = .next t) :
    (s.holds c = false ∧ t = s) ∨ (s.holds c = true ∧ t = s.putWord side dst left v) :=
  (guarded_next h).imp_right fun h => ⟨h.1, (Host.Outcome.next.inj h.2).symm⟩

/-- A next state of an instruction with one 40-bit result. -/
theorem issueLong_next {c : Cond} {side : Side} {dst : Pair} {v : Long} {s t : State}
    (h : issueLong c side dst v s = .next t) :
    (s.holds c = false ∧ t = s) ∨ (s.holds c = true ∧ t = s.putLong side dst v) :=
  (guarded_next h).imp_right fun h => ⟨h.1, (Host.Outcome.next.inj h.2).symm⟩

/-- A next state of an instruction with a clamped 32-bit result. -/
theorem issueSat32_next {c : Cond} {side : Side} {dst : Reg} {left : Nat} {v : Int} {s t : State}
    (h : issueSat32 c side dst left v s = .next t) :
    (s.holds c = false ∧ t = s) ∨
    (s.holds c = true ∧ t = (s.putWord side dst left (saturate 32 v)).noteOverflow left (overflows 32 v)) :=
  (guarded_next h).imp_right fun h => ⟨h.1, (Host.Outcome.next.inj h.2).symm⟩

/-- A next state of an instruction with a clamped 40-bit result. -/
theorem issueSat40_next {c : Cond} {side : Side} {dst : Pair} {v : Int} {s t : State}
    (h : issueSat40 c side dst v s = .next t) :
    (s.holds c = false ∧ t = s) ∨
    (s.holds c = true ∧ t = (s.putLong side dst (saturate 40 v)).noteOverflow 0 (overflows 40 v)) :=
  (guarded_next h).imp_right fun h => ⟨h.1, (Host.Outcome.next.inj h.2).symm⟩

/-- A next state of an instruction whose result may be open. -/
theorem issueOpen_next {c : Cond} {side : Side} {dst : Reg} {v : Option Word} {s t : State}
    (h : issueOpen c side dst v s = .next t) :
    (s.holds c = false ∧ t = s) ∨
    (s.holds c = true ∧ ∃ w, t = (s.drawFor v).putWord side dst 0 w ∧ (∀ x, v = some x → w = x)) := by
  rcases guarded_next h with h | ⟨hc, h⟩
  · exact Or.inl h
  · refine Or.inr ⟨hc, ?_⟩
    cases v with
    | none => exact ⟨s.freeWord, (Host.Outcome.next.inj h).symm, fun x hx => by cases hx⟩
    | some w => exact ⟨w, (Host.Outcome.next.inj h).symm, fun x hx => by cases hx; rfl⟩

/-- A next state of an MVC to a control register: the write is queued, and after a reserved PWRD value a free power-down
state. -/
theorem execMvcWrite_next {o : MvcWrite} {s t : State} (h : execMvcWrite o s = .next t) :
    (s.holds o.cond = false ∧ t = s) ∨
    (s.holds o.cond = true ∧ o.creg ∈ writableControl ∧
      ((t = s.putControl (.write o.creg (s.srcX .b o.x o.src2)) ∧
          ¬(o.creg = 1#5 ∧ s.reservedPower (s.srcX .b o.x o.src2) = true)) ∨
        (t = (s.draw.putControl (.write o.creg (s.srcX .b o.x o.src2))).putControl (.enterPower (freePower s.free)) ∧
          o.creg = 1#5 ∧ s.reservedPower (s.srcX .b o.x o.src2) = true))) := by
  rcases guarded_next h with h | ⟨hc, h⟩
  · exact Or.inl h
  · refine Or.inr ⟨hc, ?_⟩
    split at h
    · cases h
    · rename_i hw
      split at h
      · rename_i hr
        exact ⟨Classical.not_not.1 hw, Or.inr ⟨(Host.Outcome.next.inj h).symm, hr⟩⟩
      · rename_i hr
        exact ⟨Classical.not_not.1 hw, Or.inl ⟨(Host.Outcome.next.inj h).symm, hr⟩⟩

/-- A next state of a floating-point instruction with a 32-bit result. -/
theorem issueFp32_next {c : Cond} {side : Side} {dst : Reg} {left : Nat} {cfg : FpReg} {mask : BitVec 11}
    {r : FpResult} {watch : List RegName} {n : Nat} {s t : State}
    (h : issueFp32 c side dst left cfg mask r watch n s = .next t) :
    (s.holds c = false ∧ t = s) ∨
    (s.holds c = true ∧ t = (s.putWatched ⟨side, dst⟩ left (BitVec.ofNat 32 r.bits) watch n).putWarn cfg side left
      r.warn mask watch n) :=
  (guarded_next h).imp_right fun h => ⟨h.1, (Host.Outcome.next.inj h.2).symm⟩

/-- A next state of a floating-point instruction with a 64-bit result. -/
theorem issueFp64_next {c : Cond} {side : Side} {dst : Pair} {left : Nat} {cfg : FpReg} {mask : BitVec 11}
    {r : FpResult} {watch : List RegName} {n : Nat} {s t : State}
    (h : issueFp64 c side dst left cfg mask r watch n s = .next t) :
    (s.holds c = false ∧ t = s) ∨
    (s.holds c = true ∧ t = (s.putDouble side dst left (BitVec.ofNat 64 r.bits) watch n).putWarn cfg side (left + 1)
      r.warn mask watch n) :=
  (guarded_next h).imp_right fun h => ⟨h.1, (Host.Outcome.next.inj h.2).symm⟩

/-! What a meaning can change. -/

/-- `t` is `s` with lists grown at their ends, and nothing else changed but the NOP count, the idle state, data memory
with its records, and the counter of free values. -/
structure State.Grows (s t : State) : Prop where
  frame : t = { s with
    writes := t.writes, sats := t.sats, warns := t.warns, branches := t.branches, controls := t.controls,
    nopLeft := t.nopLeft, idle := t.idle, mem := t.mem, stored := t.stored, codeStores := t.codeStores, free := t.free }
  writes : s.writes <+: t.writes
  sats : s.sats <+: t.sats
  warns : s.warns <+: t.warns
  branches : s.branches <+: t.branches
  controls : s.controls <+: t.controls
  nop : s.nopLeft ≤ t.nopLeft
  free : s.free ≤ t.free

theorem State.Grows.refl (s : State) : s.Grows s := by constructor <;> simp

theorem State.Grows.trans {s t u : State} (h : s.Grows t) (k : t.Grows u) : s.Grows u where
  frame := by rw [k.frame, h.frame]
  writes := h.writes.trans k.writes
  sats := h.sats.trans k.sats
  warns := h.warns.trans k.warns
  branches := h.branches.trans k.branches
  controls := h.controls.trans k.controls
  nop := h.nop.trans k.nop
  free := h.free.trans k.free

theorem State.draw_grows (s : State) : s.Grows s.draw := by constructor <;> simp [State.draw]

theorem State.drawFor_grows (s : State) (v : Option Word) : s.Grows (s.drawFor v) := by
  unfold State.drawFor; split
  · exact .refl s
  · exact s.draw_grows

theorem State.putWord_grows (s : State) (side : Side) (dst : Reg) (left : Nat) (v : Word) :
    s.Grows (s.putWord side dst left v) := by constructor <;> simp [State.putWord]

theorem State.putWatched_grows (s : State) (r : RegName) (left : Nat) (v : Word) (watch : List RegName) (n : Nat) :
    s.Grows (s.putWatched r left v watch n) := by constructor <;> simp [State.putWatched]

theorem State.putLong_grows (s : State) (side : Side) (p : Pair) (v : Long) : s.Grows (s.putLong side p v) :=
  (s.putWord_grows ..).trans (State.putWord_grows ..)

theorem State.putDouble_grows (s : State) (side : Side) (p : Pair) (left : Nat) (v : Double) (watch : List RegName)
    (n : Nat) : s.Grows (s.putDouble side p left v watch n) :=
  (s.putWatched_grows ..).trans (State.putWatched_grows ..)

theorem State.putSat_grows (s : State) (left : Nat) (v : Bool) : s.Grows (s.putSat left v) := by
  constructor <;> simp [State.putSat]

theorem State.noteOverflow_grows (s : State) (left : Nat) (c : Bool) : s.Grows (s.noteOverflow left c) := by
  unfold State.noteOverflow; split
  · exact s.putSat_grows left true
  · exact .refl s

theorem State.putWarn_grows (s : State) (r : FpReg) (side : Side) (left : Nat) (bits mask : BitVec 11)
    (watch : List RegName) (n : Nat) : s.Grows (s.putWarn r side left bits mask watch n) := by
  constructor <;> simp [State.putWarn]

theorem State.putBranch_grows (s : State) (a : Word) : s.Grows (s.putBranch a) := by
  constructor <;> simp [State.putBranch]

theorem State.putControl_grows (s : State) (e : ControlEffect) : s.Grows (s.putControl e) := by
  constructor <;> simp [State.putControl]

theorem State.pad_grows (s : State) (n : Nat) : s.Grows (s.pad n) := by
  constructor <;> simp [State.pad]

theorem State.updateBase_grows {γ : Type} (s : State) (o : Mem γ) (sh : Nat) : s.Grows (s.updateBase o sh) := by
  unfold State.updateBase; split
  · exact s.drawFor_grows _
  · exact s.drawFor_grows _
  · exact (s.drawFor_grows _).trans (State.putWord_grows ..)

theorem State.storeBytes_grows (cells : List (Nat × Byte)) (s : State) : s.Grows (s.storeBytes cells) := by
  obtain ⟨m, st, cs, f, h, hf, -, -⟩ := State.storeBytes_spec cells s
  rw [h]; constructor <;> simp [hf]

/-- What a load reads: the value in memory where the access is defined and no other bus master writes there. -/
theorem State.load_eq_some {s : State} {ea : Word} {sz v : Nat} (h : s.load ea sz = some v) :
    s.defines ea sz = true ∧ (∀ a ∈ s.touched ea sz, s.contested a = false) ∧
      v = memRead s.device.endian s.mem ea sz := by
  unfold State.load at h
  split at h
  · rename_i hd
    simp only [Bool.and_eq_true, Bool.not_eq_true', List.any_eq_false, Bool.not_eq_true] at hd
    exact ⟨hd.1, hd.2, (Option.some.inj h).symm⟩
  · cases h

/-- A finished load queues one register write, due four cycles later. -/
theorem State.finishLoad_cases (s : State) (side : Side) (dst : Reg) (extend : Nat → Word) (r : Option Nat) :
    (∃ v, r = some v ∧ s.finishLoad side dst extend r = s.putWord side dst 4 (extend v)) ∨
      (r = none ∧ s.finishLoad side dst extend r = s.draw.putWord side dst 4 s.freeWord) := by
  cases r with
  | none => exact Or.inr ⟨rfl, rfl⟩
  | some v => exact Or.inl ⟨v, rfl, rfl⟩

theorem State.finishLoad_grows (s : State) (side : Side) (dst : Reg) (extend : Nat → Word) (r : Option Nat) :
    s.Grows (s.finishLoad side dst extend r) := by
  rcases s.finishLoad_cases side dst extend r with ⟨v, -, h⟩ | ⟨-, h⟩ <;> rw [h]
  · exact s.putWord_grows ..
  · exact s.draw_grows.trans (State.putWord_grows ..)

/-- A finished doubleword load queues two register writes, due four cycles later. -/
theorem State.finishLoadPair_grows (s : State) (side : Side) (dst : Pair) (r : Option Nat) :
    s.Grows (s.finishLoadPair side dst r) := by
  unfold State.finishLoadPair
  split
  · exact (State.putWord_grows ..).trans (State.putWord_grows ..)
  · exact (State.draw_grows _).trans ((State.draw_grows _).trans
      ((State.putWord_grows ..).trans (State.putWord_grows ..)))

/-- A store writes its bytes, or free ones where the spec gives it no meaning, to the bytes it touches. -/
theorem State.store_cases (s : State) (ea : Word) (sz : Nat) (v : Word) :
    (s.defines ea sz = true ∧ s.store ea sz v = s.storeBytes ((s.touched ea sz).zip (splitBytes v.toNat sz))) ∨
    (s.defines ea sz = false ∧
      s.store ea sz v = { s with free := s.free + sz }.storeBytes ((s.touched ea sz).zip (freeBytes s.free sz))) := by
  unfold State.store
  cases h : s.defines ea sz
  · exact Or.inr ⟨rfl, rfl⟩
  · exact Or.inl ⟨rfl, rfl⟩

theorem State.store_grows (s : State) (ea : Word) (sz : Nat) (v : Word) : s.Grows (s.store ea sz v) := by
  rcases s.store_cases ea sz v with ⟨-, h⟩ | ⟨-, h⟩ <;> rw [h]
  · exact State.storeBytes_grows _ s
  · exact State.Grows.trans (by constructor <;> simp) (State.storeBytes_grows _ _)

/-- A conditional load that answers a next state. -/
theorem issueLoad_next {o : Mem Reg} {sh : Nat} {extend : Nat → Word} {s t : State}
    (h : issueLoad o sh extend s = .next t) :
    (s.holds o.cond = false ∧ t = s) ∨
    (s.holds o.cond = true ∧
      t = (s.updateBase o sh).finishLoad o.side o.data extend (s.load (s.effective o sh) (2 ^ sh))) :=
  (guarded_next h).imp_right fun h => ⟨h.1, (Host.Outcome.next.inj h.2).symm⟩

/-- A conditional store that answers a next state. -/
theorem issueStore_next {o : Mem Reg} {sh : Nat} {s t : State} (h : issueStore o sh s = .next t) :
    (s.holds o.cond = false ∧ t = s) ∨
    (s.holds o.cond = true ∧ t = (s.updateBase o sh).store (s.effective o sh) (2 ^ sh) (s.src o.side o.data)) :=
  (guarded_next h).imp_right fun h => ⟨h.1, (Host.Outcome.next.inj h.2).symm⟩

theorem issueLoad_grows {o : Mem Reg} {sh : Nat} {extend : Nat → Word} {s t : State}
    (h : issueLoad o sh extend s = .next t) : s.Grows t := by
  rcases issueLoad_next h with ⟨-, rfl⟩ | ⟨-, rfl⟩
  · exact .refl _
  · exact (s.updateBase_grows o sh).trans (State.finishLoad_grows ..)

theorem issueLoadK_grows {o : MemK} {sh : Nat} {extend : Nat → Word} {s t : State}
    (h : issueLoadK o sh extend s = .next t) : s.Grows t := by
  rcases guarded_next h with ⟨-, rfl⟩ | ⟨-, h⟩
  · exact .refl _
  · cases h; exact State.finishLoad_grows ..

theorem issueStore_grows {o : Mem Reg} {sh : Nat} {s t : State} (h : issueStore o sh s = .next t) : s.Grows t := by
  rcases issueStore_next h with ⟨-, rfl⟩ | ⟨-, rfl⟩
  · exact .refl _
  · exact (s.updateBase_grows o sh).trans (State.store_grows ..)

theorem issueStoreK_grows {o : MemK} {sh : Nat} {s t : State} (h : issueStoreK o sh s = .next t) : s.Grows t := by
  rcases guarded_next h with ⟨-, rfl⟩ | ⟨-, h⟩
  · exact .refl _
  · cases h; exact State.store_grows ..

theorem issueWord_grows {c : Cond} {side : Side} {dst : Reg} {left : Nat} {v : Word} {s t : State}
    (h : issueWord c side dst left v s = .next t) : s.Grows t := by
  rcases issueWord_next h with ⟨-, rfl⟩ | ⟨-, rfl⟩
  · exact .refl _
  · exact s.putWord_grows ..

theorem issueLong_grows {c : Cond} {side : Side} {dst : Pair} {v : Long} {s t : State}
    (h : issueLong c side dst v s = .next t) : s.Grows t := by
  rcases issueLong_next h with ⟨-, rfl⟩ | ⟨-, rfl⟩
  · exact .refl _
  · exact s.putLong_grows ..

theorem issueSat32_grows {c : Cond} {side : Side} {dst : Reg} {left : Nat} {v : Int} {s t : State}
    (h : issueSat32 c side dst left v s = .next t) : s.Grows t := by
  rcases issueSat32_next h with ⟨-, rfl⟩ | ⟨-, rfl⟩
  · exact .refl _
  · exact (s.putWord_grows ..).trans (State.noteOverflow_grows ..)

theorem issueSat40_grows {c : Cond} {side : Side} {dst : Pair} {v : Int} {s t : State}
    (h : issueSat40 c side dst v s = .next t) : s.Grows t := by
  rcases issueSat40_next h with ⟨-, rfl⟩ | ⟨-, rfl⟩
  · exact .refl _
  · exact (s.putLong_grows ..).trans (State.noteOverflow_grows ..)

theorem issueOpen_grows {c : Cond} {side : Side} {dst : Reg} {v : Option Word} {s t : State}
    (h : issueOpen c side dst v s = .next t) : s.Grows t := by
  rcases issueOpen_next h with ⟨-, rfl⟩ | ⟨-, w, rfl, -⟩
  · exact .refl _
  · exact (s.drawFor_grows v).trans (State.putWord_grows ..)

theorem issueFp32_grows {c : Cond} {side : Side} {dst : Reg} {left : Nat} {cfg : FpReg} {mask : BitVec 11}
    {r : FpResult} {watch : List RegName} {n : Nat} {s t : State}
    (h : issueFp32 c side dst left cfg mask r watch n s = .next t) : s.Grows t := by
  rcases issueFp32_next h with ⟨-, rfl⟩ | ⟨-, rfl⟩
  · exact .refl _
  · exact (s.putWatched_grows ..).trans (State.putWarn_grows ..)

theorem issueFp64_grows {c : Cond} {side : Side} {dst : Pair} {left : Nat} {cfg : FpReg} {mask : BitVec 11}
    {r : FpResult} {watch : List RegName} {n : Nat} {s t : State}
    (h : issueFp64 c side dst left cfg mask r watch n s = .next t) : s.Grows t := by
  rcases issueFp64_next h with ⟨-, rfl⟩ | ⟨-, rfl⟩
  · exact .refl _
  · exact (s.putDouble_grows ..).trans (State.putWarn_grows ..)

theorem issueMpyi_grows {c : Cond} {side : Side} {dst : Reg} {a b : Int} {names : List RegName} {s t : State}
    (h : issueMpyi c side dst a b names s = .next t) : s.Grows t := by
  rcases guarded_next h with ⟨-, rfl⟩ | ⟨-, h⟩
  · exact .refl _
  · cases h; exact s.putWatched_grows ..

theorem issueMpyid_grows {c : Cond} {side : Side} {dst : Pair} {a b : Int} {names : List RegName} {s t : State}
    (h : issueMpyid c side dst a b names s = .next t) : s.Grows t := by
  rcases guarded_next h with ⟨-, rfl⟩ | ⟨-, h⟩
  · exact .refl _
  · cases h; exact s.putDouble_grows ..

/-- A guarded effect grows the state if the effect does. -/
theorem guarded_grows {c : Cond} {s t : State} {e : Result} (h : guarded c s e = .next t)
    (k : e = .next t → s.Grows t) : s.Grows t := by
  rcases guarded_next h with ⟨-, rfl⟩ | ⟨-, h⟩
  · exact .refl _
  · exact k h

/-- The writes of other bus masters keep the canonical form of memory and the addresses of changed code rising. -/
theorem State.landExternal_keeps (s : State) :
    (Memory.wf s.mem = true → Memory.wf s.landExternal.mem = true) ∧
    (risingAddresses s.codeStores = true → risingAddresses s.landExternal.codeStores = true) := by
  refine ⟨fun h => ?_, fun h => ?_⟩
  · exact writeBytes_wf _ _ h fun c hc => s.external_lt c (List.mem_filter.1 hc).1
  · refine insertAddresses_rising _ _ h fun a ha => ?_
    obtain ⟨c, hc, rfl⟩ := List.mem_map.1 ha
    exact s.external_lt c hc

/-! Taking an interrupt and returning from one. -/

/-- Taking an interrupt saves the return address and changes the enables and the flag; nothing else but the issue state
and PWRD. -/
theorem State.takeInterrupt_frame (s : State) (n : Nat) :
    ∃ pwrd, s.takeInterrupt n =
      let t : State := { s with
        pwrd := pwrd, powerDown := none, nopLeft := 0, idle := false, emptyLeft := 6,
        branches := s.branches ++ [PendingBranch.mk (s.servicePacket n) 6] }
      if n = 1 then { t with nrp := s.pc, nmie := false, nmif := false }
      else { t with irp := s.pc, pgie := s.gie, gie := false, ifl := s.ifl &&& ~~~(1#12 <<< (n - 4)) } := by
  refine ⟨s.clearPowerDown.pwrd, ?_⟩
  simp only [State.takeInterrupt, State.clearPowerDown]

theorem State.returnFromInterrupt_grows (s : State) : s.Grows s.returnFromInterrupt :=
  (s.putBranch_grows _).trans (State.putControl_grows _ _)

theorem State.returnFromNmi_grows (s : State) : s.Grows s.returnFromNmi :=
  (s.putBranch_grows _).trans (State.putControl_grows _ _)

/-! Register reads. -/

/-- No register is read more than four times in this cycle or one of the next three. -/
theorem readsLimited_iff (past : List (Nat × Issue)) (now : List Issue) :
    readsLimited past now = true ↔ ∀ k < 4, ∀ r, (readsAhead past now k).count r ≤ 4 := by
  simp only [readsLimited, List.all_eq_true, List.mem_range, decide_eq_true_eq]
  refine ⟨fun h k hk r => ?_, fun h k hk r _ => h k hk r⟩
  by_cases hr : r ∈ readsAhead past now k
  · exact h k hk r hr
  · rw [List.count_eq_zero_of_not_mem hr]; exact Nat.zero_le 4

/-- A packet that may issue keeps the read limit. -/
theorem readsLimited_of_issues {history : List (List Issue)} {now : List Issue}
    (h : packetRefusal history now = none) : readsLimited (aged history) now = true := by
  unfold packetRefusal at h
  cases hr : readsLimited (aged history) now
  · dsimp only at h
    repeat' split at h
    all_goals simp_all
  · rfl

/-- Every instruction reads its sources within four cycles, its issue cycle included (40_execution_model.md R177). -/
theorem issueOf_reads_length (i : Instr) : (issueOf i).reads.length ≤ 4 := by
  unfold issueOf
  split <;> first | exact (by decide : 0 ≤ 4) | exact (by decide : 1 ≤ 4) | exact (by decide : 2 ≤ 4) | exact (by decide : 4 ≤ 4)

/-! The step. -/

/-- The three kinds of a next state: a reset, a cycle in which nothing issues, or an execute packet. -/
theorem step_cases {s t : State} (h : step s = .next t) :
    (s.input.reset = true ∧ t = s.warmReset) ∨
    (s.input.reset = false ∧ 0 < s.emptyLeft ∧ t = { s with emptyLeft := s.emptyLeft - 1 }.quiet) ∨
    (s.input.reset = false ∧ s.emptyLeft = 0 ∧ ∃ n, s.interruptToTake = some n ∧ t = (s.takeInterrupt n).quiet) ∨
    (s.input.reset = false ∧ s.emptyLeft = 0 ∧ s.interruptToTake = none ∧
      ((s.powerDown.isSome = true ∧ t = s.quiet) ∨
      (s.powerDown = none ∧ 0 < s.nopLeft ∧ t = { s with nopLeft := s.nopLeft - 1 }.quiet) ∨
      (s.powerDown = none ∧ s.nopLeft = 0 ∧ s.idle = true ∧ t = s.quiet) ∨
      (s.powerDown = none ∧ s.nopLeft = 0 ∧ s.idle = false ∧ ∃ p u, s.packet = .ok p ∧
        packetRefusal s.history (p.map issueOf) = none ∧ runAll (memoryOrder p) s = .next u ∧
        t = u.endCycle (p.map issueOf) (sequentialPc s.pc p.length)))) := by
  unfold step nextCycle at h
  split at h
  · rename_i hr; exact Or.inl ⟨hr, (Host.Outcome.next.inj h).symm⟩
  · rename_i hr
    have hr : s.input.reset = false := by simpa using hr
    split at h
    · rename_i he; exact Or.inr (Or.inl ⟨hr, he, (Host.Outcome.next.inj h).symm⟩)
    · rename_i he
      have he : s.emptyLeft = 0 := by omega
      split at h
      · rename_i n hn
        exact Or.inr (Or.inr (Or.inl ⟨hr, he, n, hn, (Host.Outcome.next.inj h).symm⟩))
      · rename_i hn
        refine Or.inr (Or.inr (Or.inr ⟨hr, he, hn, ?_⟩))
        unfold State.runCycle at h
        split at h
        · rename_i hp; exact Or.inl ⟨hp, (Host.Outcome.next.inj h).symm⟩
        · rename_i hp
          have hp : s.powerDown = none := by simpa using hp
          split at h
          · rename_i hl; exact Or.inr (Or.inl ⟨hp, hl, (Host.Outcome.next.inj h).symm⟩)
          · rename_i hl
            have hl : s.nopLeft = 0 := by omega
            split at h
            · rename_i hi
              exact Or.inr (Or.inr (Or.inl ⟨hp, hl, hi, (Host.Outcome.next.inj h).symm⟩))
            · rename_i hi
              refine Or.inr (Or.inr (Or.inr ⟨hp, hl, by simpa using hi, ?_⟩))
              unfold State.fetchAndIssue at h
              split at h
              · cases h
              · rename_i p hpk
                unfold State.issuePacket at h
                split at h
                · cases h
                · rename_i hr2
                  split at h
                  · rename_i u hu
                    exact ⟨p, u, hpk, hr2, hu, (Host.Outcome.next.inj h).symm⟩
                  · cases h
                  · cases h

end Sys2Proof.Machine
end

