-- ==== Sys2Proof/Laws/PerInstr.lean ====
section
/-! SUPPORT. One lemma per instruction: the instruction it assembles to (`Instr.expand`, 30_encoding.md R165) exists
wherever it does, has its condition, and is no pseudo-instruction itself. Before them, what a C67x has. -/

namespace Sys2Proof

/-- The even register of a pair, as a number. -/
theorem Pair.even_toNat (p : Pair) : (Pair.even p).toNat = 2 * p.toNat := by revert p; decide

/-- The odd register of a pair, as a number. -/
theorem Pair.odd_toNat (p : Pair) : (Pair.odd p).toNat = 2 * p.toNat + 1 := by revert p; decide

/-- What a C67x has: the instructions that are not the C67x+'s alone, with registers 0 to 15. -/
theorem Instr.available_c67x_iff (i : Instr) :
    i.available .c67x = true ↔ (∀ r ∈ i.specifiers, r.toNat < 16) ∧ i.plusOnly = false := by
  show (i.specifiers.all _ && (false || !i.plusOnly)) = true ↔ _
  rw [Bool.false_or, Bool.and_eq_true, List.all_eq_true, Bool.not_eq_true']
  exact and_congr_left' ⟨fun h r hr => of_decide_eq_true (h r hr), fun h r hr => decide_eq_true (h r hr)⟩

end Sys2Proof

namespace Sys2Proof.Laws.ExpandedForm

/-- The instruction a pseudo-instruction stands for is available on every variant that has its registers, is guarded by
the same condition, and expands to itself. -/
def Statement (i : Instr) : Prop :=
  (∀ v, i.available v = true → i.expand.available v = true) ∧ i.expand.condition = i.condition ∧
    i.expand.expand = i.expand

theorem abs (o : Un Reg Reg) : Statement (.abs o) := ⟨fun _ h => h, rfl, rfl⟩
theorem absLong (o : UnN Pair Pair) : Statement (.absLong o) := ⟨fun _ h => h, rfl, rfl⟩
theorem addL (o : Bin Reg Reg Reg) : Statement (.addL o) := ⟨fun _ h => h, rfl, rfl⟩
theorem addLWide (o : Bin Reg Reg Pair) : Statement (.addLWide o) := ⟨fun _ h => h, rfl, rfl⟩
theorem addLLong (o : Bin Reg Pair Pair) : Statement (.addLLong o) := ⟨fun _ h => h, rfl, rfl⟩
theorem addLC (o : Bin Cst5 Reg Reg) : Statement (.addLC o) := ⟨fun _ h => h, rfl, rfl⟩
theorem addLLongC (o : BinN Cst5 Pair Pair) : Statement (.addLLongC o) := ⟨fun _ h => h, rfl, rfl⟩
theorem adduWide (o : Bin Reg Reg Pair) : Statement (.adduWide o) := ⟨fun _ h => h, rfl, rfl⟩
theorem adduLong (o : Bin Reg Pair Pair) : Statement (.adduLong o) := ⟨fun _ h => h, rfl, rfl⟩
theorem addspL (o : Bin Reg Reg Reg) : Statement (.addspL o) := ⟨fun _ h => h, rfl, rfl⟩
theorem adddpL (o : Bin Pair Pair Pair) : Statement (.adddpL o) := ⟨fun _ h => h, rfl, rfl⟩
theorem andL (o : Bin Reg Reg Reg) : Statement (.andL o) := ⟨fun _ h => h, rfl, rfl⟩
theorem andLC (o : Bin Cst5 Reg Reg) : Statement (.andLC o) := ⟨fun _ h => h, rfl, rfl⟩
theorem cmpeq (o : Bin Reg Reg Reg) : Statement (.cmpeq o) := ⟨fun _ h => h, rfl, rfl⟩
theorem cmpeqC (o : Bin Cst5 Reg Reg) : Statement (.cmpeqC o) := ⟨fun _ h => h, rfl, rfl⟩
theorem cmpeqLong (o : Bin Reg Pair Reg) : Statement (.cmpeqLong o) := ⟨fun _ h => h, rfl, rfl⟩
theorem cmpeqLongC (o : BinN Cst5 Pair Reg) : Statement (.cmpeqLongC o) := ⟨fun _ h => h, rfl, rfl⟩
theorem cmpgt (o : Bin Reg Reg Reg) : Statement (.cmpgt o) := ⟨fun _ h => h, rfl, rfl⟩
theorem cmpgtC (o : Bin Cst5 Reg Reg) : Statement (.cmpgtC o) := ⟨fun _ h => h, rfl, rfl⟩
theorem cmpgtLong (o : Bin Reg Pair Reg) : Statement (.cmpgtLong o) := ⟨fun _ h => h, rfl, rfl⟩
theorem cmpgtLongC (o : BinN Cst5 Pair Reg) : Statement (.cmpgtLongC o) := ⟨fun _ h => h, rfl, rfl⟩
theorem cmpgtu (o : Bin Reg Reg Reg) : Statement (.cmpgtu o) := ⟨fun _ h => h, rfl, rfl⟩
theorem cmpgtuC (o : Bin Ucst4 Reg Reg) : Statement (.cmpgtuC o) := ⟨fun _ h => h, rfl, rfl⟩
theorem cmpgtuLong (o : Bin Reg Pair Reg) : Statement (.cmpgtuLong o) := ⟨fun _ h => h, rfl, rfl⟩
theorem cmpgtuLongC (o : BinN Ucst4 Pair Reg) : Statement (.cmpgtuLongC o) := ⟨fun _ h => h, rfl, rfl⟩
theorem cmplt (o : Bin Reg Reg Reg) : Statement (.cmplt o) := ⟨fun _ h => h, rfl, rfl⟩
theorem cmpltC (o : Bin Cst5 Reg Reg) : Statement (.cmpltC o) := ⟨fun _ h => h, rfl, rfl⟩
theorem cmpltLong (o : Bin Reg Pair Reg) : Statement (.cmpltLong o) := ⟨fun _ h => h, rfl, rfl⟩
theorem cmpltLongC (o : BinN Cst5 Pair Reg) : Statement (.cmpltLongC o) := ⟨fun _ h => h, rfl, rfl⟩
theorem cmpltu (o : Bin Reg Reg Reg) : Statement (.cmpltu o) := ⟨fun _ h => h, rfl, rfl⟩
theorem cmpltuC (o : Bin Ucst4 Reg Reg) : Statement (.cmpltuC o) := ⟨fun _ h => h, rfl, rfl⟩
theorem cmpltuLong (o : Bin Reg Pair Reg) : Statement (.cmpltuLong o) := ⟨fun _ h => h, rfl, rfl⟩
theorem cmpltuLongC (o : BinN Ucst4 Pair Reg) : Statement (.cmpltuLongC o) := ⟨fun _ h => h, rfl, rfl⟩
theorem dpint (o : UnN Pair Reg) : Statement (.dpint o) := ⟨fun _ h => h, rfl, rfl⟩
theorem dpsp (o : UnN Pair Reg) : Statement (.dpsp o) := ⟨fun _ h => h, rfl, rfl⟩
theorem dptrunc (o : UnN Pair Reg) : Statement (.dptrunc o) := ⟨fun _ h => h, rfl, rfl⟩
theorem intdp (o : Un Reg Pair) : Statement (.intdp o) := ⟨fun _ h => h, rfl, rfl⟩
theorem intdpu (o : Un Reg Pair) : Statement (.intdpu o) := ⟨fun _ h => h, rfl, rfl⟩
theorem intsp (o : Un Reg Reg) : Statement (.intsp o) := ⟨fun _ h => h, rfl, rfl⟩
theorem intspu (o : Un Reg Reg) : Statement (.intspu o) := ⟨fun _ h => h, rfl, rfl⟩
theorem lmbd (o : Bin Reg Reg Reg) : Statement (.lmbd o) := ⟨fun _ h => h, rfl, rfl⟩
theorem lmbdC (o : Bin Cst5 Reg Reg) : Statement (.lmbdC o) := ⟨fun _ h => h, rfl, rfl⟩
theorem norm (o : Un Reg Reg) : Statement (.norm o) := ⟨fun _ h => h, rfl, rfl⟩
theorem normLong (o : UnN Pair Reg) : Statement (.normLong o) := ⟨fun _ h => h, rfl, rfl⟩
theorem orL (o : Bin Reg Reg Reg) : Statement (.orL o) := ⟨fun _ h => h, rfl, rfl⟩
theorem orLC (o : Bin Cst5 Reg Reg) : Statement (.orLC o) := ⟨fun _ h => h, rfl, rfl⟩
theorem sadd (o : Bin Reg Reg Reg) : Statement (.sadd o) := ⟨fun _ h => h, rfl, rfl⟩
theorem saddLong (o : Bin Reg Pair Pair) : Statement (.saddLong o) := ⟨fun _ h => h, rfl, rfl⟩
theorem saddC (o : Bin Cst5 Reg Reg) : Statement (.saddC o) := ⟨fun _ h => h, rfl, rfl⟩
theorem saddLongC (o : BinN Cst5 Pair Pair) : Statement (.saddLongC o) := ⟨fun _ h => h, rfl, rfl⟩
theorem sat (o : UnN Pair Reg) : Statement (.sat o) := ⟨fun _ h => h, rfl, rfl⟩
theorem spint (o : Un Reg Reg) : Statement (.spint o) := ⟨fun _ h => h, rfl, rfl⟩
theorem sptrunc (o : Un Reg Reg) : Statement (.sptrunc o) := ⟨fun _ h => h, rfl, rfl⟩
theorem ssub (o : Bin Reg Reg Reg) : Statement (.ssub o) := ⟨fun _ h => h, rfl, rfl⟩
theorem ssubX (o : Bin Reg Reg Reg) : Statement (.ssubX o) := ⟨fun _ h => h, rfl, rfl⟩
theorem ssubC (o : Bin Cst5 Reg Reg) : Statement (.ssubC o) := ⟨fun _ h => h, rfl, rfl⟩
theorem ssubLongC (o : BinN Cst5 Pair Pair) : Statement (.ssubLongC o) := ⟨fun _ h => h, rfl, rfl⟩
theorem subL (o : Bin Reg Reg Reg) : Statement (.subL o) := ⟨fun _ h => h, rfl, rfl⟩
theorem subLX (o : Bin Reg Reg Reg) : Statement (.subLX o) := ⟨fun _ h => h, rfl, rfl⟩
theorem subLWide (o : Bin Reg Reg Pair) : Statement (.subLWide o) := ⟨fun _ h => h, rfl, rfl⟩
theorem subLWideX (o : Bin Reg Reg Pair) : Statement (.subLWideX o) := ⟨fun _ h => h, rfl, rfl⟩
theorem subLC (o : Bin Cst5 Reg Reg) : Statement (.subLC o) := ⟨fun _ h => h, rfl, rfl⟩
theorem subLLongC (o : BinN Cst5 Pair Pair) : Statement (.subLLongC o) := ⟨fun _ h => h, rfl, rfl⟩
theorem subuWide (o : Bin Reg Reg Pair) : Statement (.subuWide o) := ⟨fun _ h => h, rfl, rfl⟩
theorem subuWideX (o : Bin Reg Reg Pair) : Statement (.subuWideX o) := ⟨fun _ h => h, rfl, rfl⟩
theorem subc (o : Bin Reg Reg Reg) : Statement (.subc o) := ⟨fun _ h => h, rfl, rfl⟩
theorem subspL (o : Bin Reg Reg Reg) : Statement (.subspL o) := ⟨fun _ h => h, rfl, rfl⟩
theorem subspLX (o : Bin Reg Reg Reg) : Statement (.subspLX o) := ⟨fun _ h => h, rfl, rfl⟩
theorem subdpL (o : Bin Pair Pair Pair) : Statement (.subdpL o) := ⟨fun _ h => h, rfl, rfl⟩
theorem subdpLX (o : Bin Pair Pair Pair) : Statement (.subdpLX o) := ⟨fun _ h => h, rfl, rfl⟩
theorem xorL (o : Bin Reg Reg Reg) : Statement (.xorL o) := ⟨fun _ h => h, rfl, rfl⟩
theorem xorLC (o : Bin Cst5 Reg Reg) : Statement (.xorLC o) := ⟨fun _ h => h, rfl, rfl⟩
theorem absdp (o : UnN Pair Pair) : Statement (.absdp o) := ⟨fun _ h => h, rfl, rfl⟩
theorem abssp (o : Un Reg Reg) : Statement (.abssp o) := ⟨fun _ h => h, rfl, rfl⟩
theorem addS (o : Bin Reg Reg Reg) : Statement (.addS o) := ⟨fun _ h => h, rfl, rfl⟩
theorem addSC (o : Bin Cst5 Reg Reg) : Statement (.addSC o) := ⟨fun _ h => h, rfl, rfl⟩
theorem add2 (o : Bin Reg Reg Reg) : Statement (.add2 o) := ⟨fun _ h => h, rfl, rfl⟩
theorem andS (o : Bin Reg Reg Reg) : Statement (.andS o) := ⟨fun _ h => h, rfl, rfl⟩
theorem andSC (o : Bin Cst5 Reg Reg) : Statement (.andSC o) := ⟨fun _ h => h, rfl, rfl⟩
theorem clrReg (o : Bin Reg Reg Reg) : Statement (.clrReg o) := ⟨fun _ h => h, rfl, rfl⟩
theorem cmpeqdp (o : Bin Pair Pair Reg) : Statement (.cmpeqdp o) := ⟨fun _ h => h, rfl, rfl⟩
theorem cmpeqsp (o : Bin Reg Reg Reg) : Statement (.cmpeqsp o) := ⟨fun _ h => h, rfl, rfl⟩
theorem cmpgtdp (o : Bin Pair Pair Reg) : Statement (.cmpgtdp o) := ⟨fun _ h => h, rfl, rfl⟩
theorem cmpgtsp (o : Bin Reg Reg Reg) : Statement (.cmpgtsp o) := ⟨fun _ h => h, rfl, rfl⟩
theorem cmpltdp (o : Bin Pair Pair Reg) : Statement (.cmpltdp o) := ⟨fun _ h => h, rfl, rfl⟩
theorem cmpltsp (o : Bin Reg Reg Reg) : Statement (.cmpltsp o) := ⟨fun _ h => h, rfl, rfl⟩
theorem extReg (o : Bin Reg Reg Reg) : Statement (.extReg o) := ⟨fun _ h => h, rfl, rfl⟩
theorem extuReg (o : Bin Reg Reg Reg) : Statement (.extuReg o) := ⟨fun _ h => h, rfl, rfl⟩
theorem orS (o : Bin Reg Reg Reg) : Statement (.orS o) := ⟨fun _ h => h, rfl, rfl⟩
theorem orSC (o : Bin Cst5 Reg Reg) : Statement (.orSC o) := ⟨fun _ h => h, rfl, rfl⟩
theorem rcpdp (o : UnN Pair Pair) : Statement (.rcpdp o) := ⟨fun _ h => h, rfl, rfl⟩
theorem rcpsp (o : Un Reg Reg) : Statement (.rcpsp o) := ⟨fun _ h => h, rfl, rfl⟩
theorem rsqrdp (o : UnN Pair Pair) : Statement (.rsqrdp o) := ⟨fun _ h => h, rfl, rfl⟩
theorem rsqrsp (o : Un Reg Reg) : Statement (.rsqrsp o) := ⟨fun _ h => h, rfl, rfl⟩
theorem setReg (o : Bin Reg Reg Reg) : Statement (.setReg o) := ⟨fun _ h => h, rfl, rfl⟩
theorem shl (o : Bin Reg Reg Reg) : Statement (.shl o) := ⟨fun _ h => h, rfl, rfl⟩
theorem shlLong (o : BinN Reg Pair Pair) : Statement (.shlLong o) := ⟨fun _ h => h, rfl, rfl⟩
theorem shlWide (o : Bin Reg Reg Pair) : Statement (.shlWide o) := ⟨fun _ h => h, rfl, rfl⟩
theorem shlC (o : Bin Cst5 Reg Reg) : Statement (.shlC o) := ⟨fun _ h => h, rfl, rfl⟩
theorem shlLongC (o : BinN Cst5 Pair Pair) : Statement (.shlLongC o) := ⟨fun _ h => h, rfl, rfl⟩
theorem shlWideC (o : Bin Cst5 Reg Pair) : Statement (.shlWideC o) := ⟨fun _ h => h, rfl, rfl⟩
theorem shr (o : Bin Reg Reg Reg) : Statement (.shr o) := ⟨fun _ h => h, rfl, rfl⟩
theorem shrLong (o : BinN Reg Pair Pair) : Statement (.shrLong o) := ⟨fun _ h => h, rfl, rfl⟩
theorem shrC (o : Bin Cst5 Reg Reg) : Statement (.shrC o) := ⟨fun _ h => h, rfl, rfl⟩
theorem shrLongC (o : BinN Cst5 Pair Pair) : Statement (.shrLongC o) := ⟨fun _ h => h, rfl, rfl⟩
theorem shru (o : Bin Reg Reg Reg) : Statement (.shru o) := ⟨fun _ h => h, rfl, rfl⟩
theorem shruLong (o : BinN Reg Pair Pair) : Statement (.shruLong o) := ⟨fun _ h => h, rfl, rfl⟩
theorem shruC (o : Bin Cst5 Reg Reg) : Statement (.shruC o) := ⟨fun _ h => h, rfl, rfl⟩
theorem shruLongC (o : BinN Cst5 Pair Pair) : Statement (.shruLongC o) := ⟨fun _ h => h, rfl, rfl⟩
theorem spdp (o : Un Reg Pair) : Statement (.spdp o) := ⟨fun _ h => h, rfl, rfl⟩
theorem sshl (o : Bin Reg Reg Reg) : Statement (.sshl o) := ⟨fun _ h => h, rfl, rfl⟩
theorem sshlC (o : Bin Cst5 Reg Reg) : Statement (.sshlC o) := ⟨fun _ h => h, rfl, rfl⟩
theorem subS (o : Bin Reg Reg Reg) : Statement (.subS o) := ⟨fun _ h => h, rfl, rfl⟩
theorem subSC (o : Bin Cst5 Reg Reg) : Statement (.subSC o) := ⟨fun _ h => h, rfl, rfl⟩
theorem sub2 (o : Bin Reg Reg Reg) : Statement (.sub2 o) := ⟨fun _ h => h, rfl, rfl⟩
theorem xorS (o : Bin Reg Reg Reg) : Statement (.xorS o) := ⟨fun _ h => h, rfl, rfl⟩
theorem xorSC (o : Bin Cst5 Reg Reg) : Statement (.xorSC o) := ⟨fun _ h => h, rfl, rfl⟩
theorem addD (o : BinN Reg Reg Reg) : Statement (.addD o) := ⟨fun _ h => h, rfl, rfl⟩
theorem addDC (o : BinN Cst5 Reg Reg) : Statement (.addDC o) := ⟨fun _ h => h, rfl, rfl⟩
theorem subD (o : BinN Reg Reg Reg) : Statement (.subD o) := ⟨fun _ h => h, rfl, rfl⟩
theorem subDC (o : BinN Cst5 Reg Reg) : Statement (.subDC o) := ⟨fun _ h => h, rfl, rfl⟩
theorem addab (o : BinN Reg Reg Reg) : Statement (.addab o) := ⟨fun _ h => h, rfl, rfl⟩
theorem addabC (o : BinN Cst5 Reg Reg) : Statement (.addabC o) := ⟨fun _ h => h, rfl, rfl⟩
theorem addah (o : BinN Reg Reg Reg) : Statement (.addah o) := ⟨fun _ h => h, rfl, rfl⟩
theorem addahC (o : BinN Cst5 Reg Reg) : Statement (.addahC o) := ⟨fun _ h => h, rfl, rfl⟩
theorem addaw (o : BinN Reg Reg Reg) : Statement (.addaw o) := ⟨fun _ h => h, rfl, rfl⟩
theorem addawC (o : BinN Cst5 Reg Reg) : Statement (.addawC o) := ⟨fun _ h => h, rfl, rfl⟩
theorem addad (o : BinN Reg Reg Reg) : Statement (.addad o) := ⟨fun _ h => h, rfl, rfl⟩
theorem addadC (o : BinN Cst5 Reg Reg) : Statement (.addadC o) := ⟨fun _ h => h, rfl, rfl⟩
theorem subab (o : BinN Reg Reg Reg) : Statement (.subab o) := ⟨fun _ h => h, rfl, rfl⟩
theorem subabC (o : BinN Cst5 Reg Reg) : Statement (.subabC o) := ⟨fun _ h => h, rfl, rfl⟩
theorem subah (o : BinN Reg Reg Reg) : Statement (.subah o) := ⟨fun _ h => h, rfl, rfl⟩
theorem subahC (o : BinN Cst5 Reg Reg) : Statement (.subahC o) := ⟨fun _ h => h, rfl, rfl⟩
theorem subaw (o : BinN Reg Reg Reg) : Statement (.subaw o) := ⟨fun _ h => h, rfl, rfl⟩
theorem subawC (o : BinN Cst5 Reg Reg) : Statement (.subawC o) := ⟨fun _ h => h, rfl, rfl⟩
theorem mpy (o : Bin Reg Reg Reg) : Statement (.mpy o) := ⟨fun _ h => h, rfl, rfl⟩
theorem mpyC (o : Bin Cst5 Reg Reg) : Statement (.mpyC o) := ⟨fun _ h => h, rfl, rfl⟩
theorem mpyu (o : Bin Reg Reg Reg) : Statement (.mpyu o) := ⟨fun _ h => h, rfl, rfl⟩
theorem mpyus (o : Bin Reg Reg Reg) : Statement (.mpyus o) := ⟨fun _ h => h, rfl, rfl⟩
theorem mpysu (o : Bin Reg Reg Reg) : Statement (.mpysu o) := ⟨fun _ h => h, rfl, rfl⟩
theorem mpysuC (o : Bin Cst5 Reg Reg) : Statement (.mpysuC o) := ⟨fun _ h => h, rfl, rfl⟩
theorem mpyh (o : Bin Reg Reg Reg) : Statement (.mpyh o) := ⟨fun _ h => h, rfl, rfl⟩
theorem mpyhu (o : Bin Reg Reg Reg) : Statement (.mpyhu o) := ⟨fun _ h => h, rfl, rfl⟩
theorem mpyhus (o : Bin Reg Reg Reg) : Statement (.mpyhus o) := ⟨fun _ h => h, rfl, rfl⟩
theorem mpyhsu (o : Bin Reg Reg Reg) : Statement (.mpyhsu o) := ⟨fun _ h => h, rfl, rfl⟩
theorem mpyhl (o : Bin Reg Reg Reg) : Statement (.mpyhl o) := ⟨fun _ h => h, rfl, rfl⟩
theorem mpyhlu (o : Bin Reg Reg Reg) : Statement (.mpyhlu o) := ⟨fun _ h => h, rfl, rfl⟩
theorem mpyhuls (o : Bin Reg Reg Reg) : Statement (.mpyhuls o) := ⟨fun _ h => h, rfl, rfl⟩
theorem mpyhslu (o : Bin Reg Reg Reg) : Statement (.mpyhslu o) := ⟨fun _ h => h, rfl, rfl⟩
theorem mpylh (o : Bin Reg Reg Reg) : Statement (.mpylh o) := ⟨fun _ h => h, rfl, rfl⟩
theorem mpylhu (o : Bin Reg Reg Reg) : Statement (.mpylhu o) := ⟨fun _ h => h, rfl, rfl⟩
theorem mpyluhs (o : Bin Reg Reg Reg) : Statement (.mpyluhs o) := ⟨fun _ h => h, rfl, rfl⟩
theorem mpylshu (o : Bin Reg Reg Reg) : Statement (.mpylshu o) := ⟨fun _ h => h, rfl, rfl⟩
theorem smpy (o : Bin Reg Reg Reg) : Statement (.smpy o) := ⟨fun _ h => h, rfl, rfl⟩
theorem smpyhl (o : Bin Reg Reg Reg) : Statement (.smpyhl o) := ⟨fun _ h => h, rfl, rfl⟩
theorem smpylh (o : Bin Reg Reg Reg) : Statement (.smpylh o) := ⟨fun _ h => h, rfl, rfl⟩
theorem smpyh (o : Bin Reg Reg Reg) : Statement (.smpyh o) := ⟨fun _ h => h, rfl, rfl⟩
theorem mpysp (o : Bin Reg Reg Reg) : Statement (.mpysp o) := ⟨fun _ h => h, rfl, rfl⟩
theorem mpydp (o : Bin Pair Pair Pair) : Statement (.mpydp o) := ⟨fun _ h => h, rfl, rfl⟩
theorem mpyi (o : Bin Reg Reg Reg) : Statement (.mpyi o) := ⟨fun _ h => h, rfl, rfl⟩
theorem mpyiC (o : Bin Cst5 Reg Reg) : Statement (.mpyiC o) := ⟨fun _ h => h, rfl, rfl⟩
theorem mpyid (o : Bin Reg Reg Pair) : Statement (.mpyid o) := ⟨fun _ h => h, rfl, rfl⟩
theorem mpyidC (o : Bin Cst5 Reg Pair) : Statement (.mpyidC o) := ⟨fun _ h => h, rfl, rfl⟩
theorem mpyspdp (o : Bin Reg Pair Pair) : Statement (.mpyspdp o) := ⟨fun _ h => h, rfl, rfl⟩
theorem mpysp2dp (o : Bin Reg Reg Pair) : Statement (.mpysp2dp o) := ⟨fun _ h => h, rfl, rfl⟩
theorem bReg (o : BranchReg) : Statement (.bReg o) := ⟨fun _ h => h, rfl, rfl⟩
theorem bIrp (o : Cond) : Statement (.bIrp o) := ⟨fun _ h => h, rfl, rfl⟩
theorem bNrp (o : Cond) : Statement (.bNrp o) := ⟨fun _ h => h, rfl, rfl⟩
theorem mvcRead (o : MvcRead) : Statement (.mvcRead o) := ⟨fun _ h => h, rfl, rfl⟩
theorem mvcWrite (o : MvcWrite) : Statement (.mvcWrite o) := ⟨fun _ h => h, rfl, rfl⟩
theorem extuConst (o : FieldOp) : Statement (.extuConst o) := ⟨fun _ h => h, rfl, rfl⟩
theorem extConst (o : FieldOp) : Statement (.extConst o) := ⟨fun _ h => h, rfl, rfl⟩
theorem setConst (o : FieldOp) : Statement (.setConst o) := ⟨fun _ h => h, rfl, rfl⟩
theorem clrConst (o : FieldOp) : Statement (.clrConst o) := ⟨fun _ h => h, rfl, rfl⟩
theorem addk (o : Const16) : Statement (.addk o) := ⟨fun _ h => h, rfl, rfl⟩
theorem mvk (o : Const16) : Statement (.mvk o) := ⟨fun _ h => h, rfl, rfl⟩
theorem mvkh (o : Const16) : Statement (.mvkh o) := ⟨fun _ h => h, rfl, rfl⟩
theorem bDisp (o : Disp) : Statement (.bDisp o) := ⟨fun _ h => h, rfl, rfl⟩
theorem ldhu (o : Mem Reg) : Statement (.ldhu o) := ⟨fun _ h => h, rfl, rfl⟩
theorem ldhuK (o : MemK) : Statement (.ldhuK o) := ⟨fun _ h => h, rfl, rfl⟩
theorem ldbu (o : Mem Reg) : Statement (.ldbu o) := ⟨fun _ h => h, rfl, rfl⟩
theorem ldbuK (o : MemK) : Statement (.ldbuK o) := ⟨fun _ h => h, rfl, rfl⟩
theorem ldb (o : Mem Reg) : Statement (.ldb o) := ⟨fun _ h => h, rfl, rfl⟩
theorem ldbK (o : MemK) : Statement (.ldbK o) := ⟨fun _ h => h, rfl, rfl⟩
theorem stb (o : Mem Reg) : Statement (.stb o) := ⟨fun _ h => h, rfl, rfl⟩
theorem stbK (o : MemK) : Statement (.stbK o) := ⟨fun _ h => h, rfl, rfl⟩
theorem ldh (o : Mem Reg) : Statement (.ldh o) := ⟨fun _ h => h, rfl, rfl⟩
theorem ldhK (o : MemK) : Statement (.ldhK o) := ⟨fun _ h => h, rfl, rfl⟩
theorem sth (o : Mem Reg) : Statement (.sth o) := ⟨fun _ h => h, rfl, rfl⟩
theorem sthK (o : MemK) : Statement (.sthK o) := ⟨fun _ h => h, rfl, rfl⟩
theorem ldw (o : Mem Reg) : Statement (.ldw o) := ⟨fun _ h => h, rfl, rfl⟩
theorem ldwK (o : MemK) : Statement (.ldwK o) := ⟨fun _ h => h, rfl, rfl⟩
theorem stw (o : Mem Reg) : Statement (.stw o) := ⟨fun _ h => h, rfl, rfl⟩
theorem stwK (o : MemK) : Statement (.stwK o) := ⟨fun _ h => h, rfl, rfl⟩
theorem lddw (o : Mem Pair) : Statement (.lddw o) := ⟨fun _ h => h, rfl, rfl⟩
theorem nop (o : BitVec 3) : Statement (.nop o) := ⟨fun _ h => h, rfl, rfl⟩
theorem nop9 : Statement .nop9 := ⟨fun _ h => h, rfl, rfl⟩
theorem idle : Statement .idle := ⟨fun _ h => h, rfl, rfl⟩
theorem mv (o : MvForm) : Statement (.mv o) := by
  cases o <;> exact ⟨fun v h => by simp_all [Instr.available, Instr.expand, Instr.specifiers, Instr.plusOnly, MvForm.specifiers], rfl, rfl⟩
theorem neg (o : NegForm) : Statement (.neg o) := by
  cases o <;> exact ⟨fun v h => by simp_all [Instr.available, Instr.expand, Instr.specifiers, Instr.plusOnly, NegForm.specifiers], rfl, rfl⟩
theorem not (o : NotForm) : Statement (.not o) := by
  cases o <;> exact ⟨fun v h => by simp_all [Instr.available, Instr.expand, Instr.specifiers, Instr.plusOnly, NotForm.specifiers], rfl, rfl⟩
theorem zero (o : ZeroForm) : Statement (.zero o) := by
  cases o <;> exact ⟨fun v h => by simp_all [Instr.available, Instr.expand, Instr.specifiers, Instr.plusOnly, ZeroForm.specifiers], rfl, rfl⟩
theorem mvkl (o : Const32) : Statement (.mvkl o) := ⟨fun _ h => h, rfl, rfl⟩
theorem mvklh (o : Const32) : Statement (.mvklh o) := ⟨fun _ h => h, rfl, rfl⟩
theorem addspS (o : Bin Reg Reg Reg) : Statement (.addspS o) := ⟨fun _ h => h, rfl, rfl⟩
theorem adddpS (o : Bin Pair Pair Pair) : Statement (.adddpS o) := ⟨fun _ h => h, rfl, rfl⟩
theorem subspS (o : SubForm Reg) : Statement (.subspS o) := ⟨fun _ h => h, rfl, rfl⟩
theorem subdpS (o : SubForm Pair) : Statement (.subdpS o) := ⟨fun _ h => h, rfl, rfl⟩

end Sys2Proof.Laws.ExpandedForm
end

