-- ==== Sys2Proof/Tests/Slice0.lean ====
section
/-! SUPPORT. Tests of single steps against the worked values of the spec (95_test_vectors.md,
96_test_vectors_derived.md), the refusals of ill-formed terms, decoded words written out in the spec, and for each
statement of Certificates/Slice0/Obligations.lean that has hypotheses a witness that meets them. -/

set_option Elab.async false

namespace Sys2Proof.Tests

open Sys2Proof.Machine Sys2Proof.Claims

/-- A register of file A with a value. -/
def a (n v : Nat) : RegName × Word := (⟨.a, BitVec.ofNat 5 n⟩, BitVec.ofNat 32 v)

/-- A register of file B with a value. -/
def b (n v : Nat) : RegName × Word := (⟨.b, BitVec.ofNat 5 n⟩, BitVec.ofNat 32 v)

/-- The reset state with some registers changed. -/
def regs (l : List (RegName × Word)) : State := l.foldl (fun s r => s.setReg r.1 r.2) State.reset

/-- The reset state with bytes from address 0x100 on, and some registers. -/
def withBytes (e : Endian) (bytes : List Byte) (l : List (RegName × Word)) : State :=
  { regs l with
    device := { Device.standard with endian := e }
    mem := writeBytes [] ((List.range bytes.length).map (· + 0x100) |>.zip bytes) }

/-- What an instruction leaves queued. -/
inductive Effect where
  | reg (r : RegName × Word)
  | sat (v : Bool)
  | warn (r : FpReg) (side : Side) (bits : BitVec 11)
  | branch (target : Word)
  | control (e : ControlEffect)
deriving DecidableEq, Repr

/-- The effects queued in a state. -/
def queued (t : State) : List Effect :=
  t.writes.map (fun w => .reg (w.reg, w.value)) ++ t.sats.map (fun p => .sat p.value) ++
    (t.warns.filter fun w => w.bits != 0).map (fun w => .warn w.reg w.side w.bits) ++
    t.branches.map (fun p => .branch p.target) ++ t.controls.map .control

/-- An instruction word decoded and executed. -/
def run (s : State) (w : Word) : Result :=
  match decode w with
  | .ok i => exec i s
  | .error r => .refused (Reject.refusal r)

/-- A word executed in a state queues exactly these effects. -/
def gives (s : State) (w : Word) (l : List Effect) : Bool :=
  match run s w with
  | .next t => (queued t).all (· ∈ l) && l.all (· ∈ queued t)
  | _ => false

/-- A word executed in a state queues these effects and leaves these bytes from address 0x100 on. -/
def stores (s : State) (w : Word) (l : List Effect) (bytes : List Byte) : Bool :=
  gives s w l && match run s w with
    | .next t => (List.range bytes.length).map (fun k => readByte t.mem (0x100 + k)) == bytes
    | _ => false

/-- The effects an instruction queues, none if it stops. -/
def queuedBy (s : State) (i : Instr) : List Effect :=
  match exec i s with
  | .next t => queued t
  | _ => []

/-! Single instructions. -/

/-- ADD .L1 A1,A2,A3; ADD .L1 A1,A2,A5:A4 (96_test_vectors_derived.md V1). -/
theorem test_add :
    gives (regs [a 1 0x7FFFFFFF, a 2 1]) 0x01882078#32 [.reg (a 3 0x80000000)] ∧
    gives (regs [a 1 0xFFFFFFFF, a 2 0xFFFFFFFF]) 0x02082478#32 [.reg (a 5 0xFF), .reg (a 4 0xFFFFFFFE)] := by
  decide +kernel

/-- ADDU .L1 A1,A2,A5:A4 (96_test_vectors_derived.md V1). -/
theorem test_addu :
    gives (regs [a 1 0xFFFFFFFF, a 2 0xFFFFFFFF]) 0x02082578#32 [.reg (a 5 1), .reg (a 4 0xFFFFFFFE)] := by
  decide +kernel

/-- SUB .L1 A1,A2,A3; SUB .L1X B1,A2,A3 (96_test_vectors_derived.md V1). -/
theorem test_sub :
    gives (regs [a 1 0, a 2 1]) 0x018820F8#32 [.reg (a 3 0xFFFFFFFF)] ∧
    gives (regs [b 1 0x80000000, a 2 1]) 0x018832F8#32 [.reg (a 3 0x7FFFFFFF)] := by
  decide +kernel

/-- SUBU .L1 A1,A2,A5:A4 (96_test_vectors_derived.md V1). -/
theorem test_subu :
    gives (regs [a 1 0, a 2 1]) 0x020825F8#32 [.reg (a 5 0xFF), .reg (a 4 0xFFFFFFFF)] := by
  decide +kernel

/-- ADDK .S1 -32768,A1; ADDK .S1 32767,A1 (96_test_vectors_derived.md V1). -/
theorem test_addk :
    gives (regs [a 1 0x7FFF]) 0x00C00050#32 [.reg (a 1 0xFFFFFFFF)] ∧
    gives (regs [a 1 0x7FFFFFFF]) 0x00BFFFD0#32 [.reg (a 1 0x80007FFE)] := by
  decide +kernel

/-- ADD2 .S1 A1,A2,A3; ADD2 .S1 A1,A2,A3 (96_test_vectors_derived.md V1). -/
theorem test_add2 :
    gives (regs [a 1 0x1FFFF, a 2 0x10001]) 0x01882060#32 [.reg (a 3 0x20000)] ∧
    gives (regs [a 1 0x7FFF8000, a 2 0x1FFFF]) 0x01882060#32 [.reg (a 3 0x80007FFF)] := by
  decide +kernel

/-- SUB2 .S1 A1,A2,A3 (96_test_vectors_derived.md V1). -/
theorem test_sub2 :
    gives (regs [a 1 0x10000, a 2 1]) 0x01882460#32 [.reg (a 3 0x1FFFF)] := by
  decide +kernel

/-- SUBC .L1 A1,A2,A3; SUBC .L1 A1,A2,A3 (96_test_vectors_derived.md V1). -/
theorem test_subc :
    gives (regs [a 1 0x1000, a 2 0x401]) 0x01882978#32 [.reg (a 3 0x17FF)] ∧
    gives (regs [a 1 0x400, a 2 0x401]) 0x01882978#32 [.reg (a 3 0x800)] := by
  decide +kernel

/-- SADD .L1 A1,A2,A3; SADD .L1 A1,A5:A4,A7:A6 (96_test_vectors_derived.md V2). -/
theorem test_sadd :
    gives (regs [a 1 0x7FFFFFFF, a 2 1]) 0x01882278#32 [.reg (a 3 0x7FFFFFFF), .sat true] ∧
    gives (regs [a 1 1, a 5 0x7F, a 4 0xFFFFFFFF]) 0x03102638#32 [.reg (a 7 0x7F), .reg (a 6 0xFFFFFFFF), .sat
      true] := by
  decide +kernel

/-- SSUB .L1 A1,A2,A3; SSUB .L1X B1,A2,A3 (96_test_vectors_derived.md V2). -/
theorem test_ssub :
    gives (regs [a 1 0x80000000, a 2 1]) 0x018821F8#32 [.reg (a 3 0x80000000), .sat true] ∧
    gives (regs [b 1 0x7FFFFFFF, a 2 0xFFFFFFFF]) 0x018833F8#32 [.reg (a 3 0x7FFFFFFF), .sat true] := by
  decide +kernel

/-- SAT .L1 A1:A0,A2; SAT .L1 A1:A0,A2 (96_test_vectors_derived.md V2). -/
theorem test_sat :
    gives (regs [a 1 0, a 0 0x80000000]) 0x01000818#32 [.reg (a 2 0x7FFFFFFF), .sat true] ∧
    gives (regs [a 1 0xFF, a 0 0x7FFFFFFF]) 0x01000818#32 [.reg (a 2 0x80000000), .sat true] := by
  decide +kernel

/-- ABS .L1 A1,A5; ABS .L1 A1:A0,A5:A4 (96_test_vectors_derived.md V2). -/
theorem test_abs :
    gives (regs [a 1 0x80000000]) 0x02840358#32 [.reg (a 5 0x7FFFFFFF)] ∧
    gives (regs [a 1 0x80, a 0 0]) 0x02000718#32 [.reg (a 5 0x7F), .reg (a 4 0xFFFFFFFF)] := by
  decide +kernel

/-- ADDAB .D1 A4,A1,A4 (96_test_vectors_derived.md V3). -/
theorem test_addab :
    gives { regs [a 4 0x10E, a 1 4] with amr := 0x30001#26 } 0x02103840#32 [.reg (a 4 0x102)] := by
  decide +kernel

/-- ADDAH .D1 A4,A1,A4 (96_test_vectors_derived.md V3). -/
theorem test_addah :
    gives { regs [a 4 0x100, a 1 0x13] with amr := 0x40001#26 } 0x02103A40#32 [.reg (a 4 0x106)] := by
  decide +kernel

/-- ADDAW .D1 A4,2,A4; ADDAW .D1 A4,A1,A4 (96_test_vectors_derived.md V3). -/
theorem test_addaw :
    gives { regs [a 4 0x11C] with amr := 0x40001#26 } 0x02105D40#32 [.reg (a 4 0x104)] ∧
    gives { regs [a 4 0x100, a 1 0x21] with amr := 0x40001#26 } 0x02103C40#32 [.reg (a 4 0x104)] := by
  decide +kernel

/-- ADDAD .D1 A4,A1,A3 (96_test_vectors_derived.md V3). -/
theorem test_addad :
    gives { regs [a 4 0x100, a 1 3] with amr := 0x40001#26 } 0x01903E40#32 [.reg (a 3 0x118)] := by
  decide +kernel

/-- SUBAB .D1 A5,A0,A5 (96_test_vectors_derived.md V3). -/
theorem test_subab :
    gives { regs [a 5 0x4000, a 0 4] with amr := 0x30004#26 } 0x029418C0#32 [.reg (a 5 0x400C)] := by
  decide +kernel

/-- SUBAH .D1 A5,A0,A5 (96_test_vectors_derived.md V3). -/
theorem test_subah :
    gives { regs [a 5 0x4002, a 0 2] with amr := 0x30004#26 } 0x02941AC0#32 [.reg (a 5 0x400E)] := by
  decide +kernel

/-- SUBAW .D1 A5,1,A5; SUBAW .D1 A5,1,A5 (96_test_vectors_derived.md V3). -/
theorem test_subaw :
    gives { regs [a 5 0x4000] with amr := 0#26 } 0x02943DC0#32 [.reg (a 5 0x3FFC)] ∧
    gives { regs [a 5 0x4000] with amr := 0x1F0004#26 } 0x02943DC0#32 [.reg (a 5 0x3FFC)] := by
  decide +kernel

/-- AND .L1 A1,A2,A3; AND .S1 -16,A2,A3 (96_test_vectors_derived.md V4). -/
theorem test_and :
    gives (regs [a 1 0xF7A1302A, a 2 0x2B63E37]) 0x01882F78#32 [.reg (a 3 0x2A03022)] ∧
    gives (regs [a 2 0x12345678]) 0x018A07A0#32 [.reg (a 3 0x12345670)] := by
  decide +kernel

/-- OR .L2 B1,B2,B3 (96_test_vectors_derived.md V4). -/
theorem test_or :
    gives (regs [b 1 0x8A3A49F, b 2 0xFF375A]) 0x01882FFA#32 [.reg (b 3 0x8FFB7DF)] := by
  decide +kernel

/-- XOR .S1 -1,A2,A3 (96_test_vectors_derived.md V4). -/
theorem test_xor :
    gives (regs [a 2 0x9E526EA3]) 0x018BE2A0#32 [.reg (a 3 0x61AD915C)] := by
  decide +kernel

/-- SHL .S1 A0,31,A1; SHL .S1 A0,0,A1 (96_test_vectors_derived.md V4). -/
theorem test_shl :
    gives (regs [a 0 3]) 0x0083ECA0#32 [.reg (a 1 0x80000000)] ∧
    gives (regs [a 0 0x89ABCDEF]) 0x00800CA0#32 [.reg (a 1 0x89ABCDEF)] := by
  decide +kernel

/-- SHR .S1 A0,31,A1; SHR .S1 A0,A1,A2 (96_test_vectors_derived.md V4). -/
theorem test_shr :
    gives (regs [a 0 0x80000000]) 0x0083EDA0#32 [.reg (a 1 0xFFFFFFFF)] ∧
    gives (regs [a 0 0x80000000, a 1 0x20]) 0x01002DE0#32 [.reg (a 2 0xFFFFFFFF)] := by
  decide +kernel

/-- SHRU .S1 A0,31,A1; SHRU .S1 A0,A1,A2 (96_test_vectors_derived.md V4). -/
theorem test_shru :
    gives (regs [a 0 0x80000000]) 0x0083E9A0#32 [.reg (a 1 1)] ∧
    gives (regs [a 0 0x80000000, a 1 0x20]) 0x010029E0#32 [.reg (a 2 0)] := by
  decide +kernel

/-- SSHL .S1 A0,1,A1; SSHL .S1 A0,31,A1 (96_test_vectors_derived.md V4). -/
theorem test_sshl :
    gives (regs [a 0 0x40000000]) 0x008028A0#32 [.reg (a 1 0x7FFFFFFF), .sat true] ∧
    gives (regs [a 0 1]) 0x0083E8A0#32 [.reg (a 1 0x7FFFFFFF), .sat true] := by
  decide +kernel

/-- CLR .S1 A1,0,31,A2; CLR .S1 A1,31,31,A2 (96_test_vectors_derived.md V4). -/
theorem test_clr :
    gives (regs [a 1 0xFFFFFFFF]) 0x01041FC8#32 [.reg (a 2 0)] ∧
    gives (regs [a 1 0xFFFFFFFF]) 0x0107FFC8#32 [.reg (a 2 0x7FFFFFFF)] := by
  decide +kernel

/-- SET .S1 A1,0,31,A2; SET .S1 A1,15,16,A2 (96_test_vectors_derived.md V4). -/
theorem test_set :
    gives (regs [a 1 0]) 0x01041F88#32 [.reg (a 2 0xFFFFFFFF)] ∧
    gives (regs [a 1 0]) 0x0105F088#32 [.reg (a 2 0x18000)] := by
  decide +kernel

/-- EXT .S1 A1,0,0,A2; EXT .S1 A1,31,31,A2 (96_test_vectors_derived.md V4). -/
theorem test_ext :
    gives (regs [a 1 0x89ABCDEF]) 0x01040048#32 [.reg (a 2 0x89ABCDEF)] ∧
    gives (regs [a 1 1]) 0x0107FF48#32 [.reg (a 2 0xFFFFFFFF)] := by
  decide +kernel

/-- EXTU .S1 A1,24,24,A2; EXTU .S1 A1,0,31,A2 (96_test_vectors_derived.md V4). -/
theorem test_extu :
    gives (regs [a 1 0xFFFFFFFF]) 0x01071808#32 [.reg (a 2 0xFF)] ∧
    gives (regs [a 1 0x80000000]) 0x01041F08#32 [.reg (a 2 1)] := by
  decide +kernel

/-- LMBD .L1 1,A2,A3; LMBD .L1 0,A2,A3 (96_test_vectors_derived.md V4). -/
theorem test_lmbd :
    gives (regs [a 2 0x80000000]) 0x01882D58#32 [.reg (a 3 0)] ∧
    gives (regs [a 2 0xFFFFFFFF]) 0x01880D58#32 [.reg (a 3 0x20)] := by
  decide +kernel

/-- NORM .L1 A1,A2; NORM .L1 A1:A0,A2 (96_test_vectors_derived.md V4). -/
theorem test_norm :
    gives (regs [a 1 0]) 0x01040C78#32 [.reg (a 2 0x1F)] ∧
    gives (regs [a 1 0, a 0 0]) 0x01000C18#32 [.reg (a 2 0x27)] := by
  decide +kernel

/-- CMPEQ .L1 A1,A2,A3; CMPEQ .L1 -1,A2,A3 (96_test_vectors_derived.md V5). -/
theorem test_cmpeq :
    gives (regs [a 1 0x80000000, a 2 0x80000000]) 0x01882A78#32 [.reg (a 3 1)] ∧
    gives (regs [a 2 0xFFFFFFFF]) 0x018BEA58#32 [.reg (a 3 1)] := by
  decide +kernel

/-- CMPGT .L1 A1,A2,A3; CMPGT .L1 -8,A2,A3 (96_test_vectors_derived.md V5). -/
theorem test_cmpgt :
    gives (regs [a 1 0x7FFFFFFF, a 2 0x80000000]) 0x018828F8#32 [.reg (a 3 1)] ∧
    gives (regs [a 2 0xFFFFFFF7]) 0x018B08D8#32 [.reg (a 3 1)] := by
  decide +kernel

/-- CMPGTU .L1 A1,A2,A3; CMPGTU .L1 15,A2,A3 (96_test_vectors_derived.md V5). -/
theorem test_cmpgtu :
    gives (regs [a 1 0x80000000, a 2 0x7FFFFFFF]) 0x018829F8#32 [.reg (a 3 1)] ∧
    gives (regs [a 2 0xFFFFFFFF]) 0x0189E9D8#32 [.reg (a 3 0)] := by
  decide +kernel

/-- CMPLT .L1 A1,A2,A3; CMPLT .L1 15,A2,A3 (96_test_vectors_derived.md V5). -/
theorem test_cmplt :
    gives (regs [a 1 0x80000000, a 2 0x7FFFFFFF]) 0x01882AF8#32 [.reg (a 3 1)] ∧
    gives (regs [a 2 0x10]) 0x0189EAD8#32 [.reg (a 3 1)] := by
  decide +kernel

/-- CMPLTU .L1 A1,A2,A3; CMPLTU .L1 0,A2,A3 (96_test_vectors_derived.md V5). -/
theorem test_cmpltu :
    gives (regs [a 1 0x7FFFFFFF, a 2 0x80000000]) 0x01882BF8#32 [.reg (a 3 1)] ∧
    gives (regs [a 2 0]) 0x01880BD8#32 [.reg (a 3 0)] := by
  decide +kernel

/-- MVK .S1 -32768,A1; MVK .S1 32767,A1 (96_test_vectors_derived.md V5). -/
theorem test_mvk :
    gives (regs [a 1 0x12345678]) 0x00C00028#32 [.reg (a 1 0xFFFF8000)] ∧
    gives (regs [a 1 0x12345678]) 0x00BFFFA8#32 [.reg (a 1 0x7FFF)] := by
  decide +kernel

/-- MVKH .S1 0FFFF0000h,A1; MVKH .S2 80000000h,B1 (96_test_vectors_derived.md V5). -/
theorem test_mvkh :
    gives (regs [a 1 0x12345678]) 0x00FFFFE8#32 [.reg (a 1 0xFFFF5678)] ∧
    gives (regs [b 1 0]) 0x00C0006A#32 [.reg (b 1 0x80000000)] := by
  decide +kernel

/-- MPY .M1 A1,A2,A3; MPY .M1 -16,A2,A3 (96_test_vectors_derived.md V6). -/
theorem test_mpy :
    gives (regs [a 1 0x12348000, a 2 0x56788000]) 0x01882C80#32 [.reg (a 3 0x40000000)] ∧
    gives (regs [a 2 0x8000]) 0x018A0C00#32 [.reg (a 3 0x80000)] := by
  decide +kernel

/-- MPYU .M1 A1,A2,A3 (96_test_vectors_derived.md V6). -/
theorem test_mpyu :
    gives (regs [a 1 0xFFFF, a 2 0xFFFF]) 0x01882F80#32 [.reg (a 3 0xFFFE0001)] := by
  decide +kernel

/-- MPYUS .M1 A1,A2,A3 (96_test_vectors_derived.md V6). -/
theorem test_mpyus :
    gives (regs [a 1 0xFFFF, a 2 0xFFFF]) 0x01882E80#32 [.reg (a 3 0xFFFF0001)] := by
  decide +kernel

/-- MPYSU .M1 A1,A2,A3; MPYSU .M1 -1,A2,A3 (96_test_vectors_derived.md V6). -/
theorem test_mpysu :
    gives (regs [a 1 0xFFFF, a 2 0xFFFF]) 0x01882D80#32 [.reg (a 3 0xFFFF0001)] ∧
    gives (regs [a 2 0xFFFF]) 0x018BEF00#32 [.reg (a 3 0xFFFF0001)] := by
  decide +kernel

/-- MPYH .M1 A1,A2,A3 (96_test_vectors_derived.md V6). -/
theorem test_mpyh :
    gives (regs [a 1 0x80001234, a 2 0x7FFF5678]) 0x01882080#32 [.reg (a 3 0xC0008000)] := by
  decide +kernel

/-- MPYHU .M1 A1,A2,A3 (96_test_vectors_derived.md V6). -/
theorem test_mpyhu :
    gives (regs [a 1 0x80001234, a 2 0xFFFF5678]) 0x01882380#32 [.reg (a 3 0x7FFF8000)] := by
  decide +kernel

/-- MPYHUS .M1 A1,A2,A3 (96_test_vectors_derived.md V6). -/
theorem test_mpyhus :
    gives (regs [a 1 0x80001234, a 2 0xFFFF5678]) 0x01882280#32 [.reg (a 3 0xFFFF8000)] := by
  decide +kernel

/-- MPYHSU .M1 A1,A2,A3 (96_test_vectors_derived.md V6). -/
theorem test_mpyhsu :
    gives (regs [a 1 0x80001234, a 2 0xFFFF5678]) 0x01882180#32 [.reg (a 3 0x80008000)] := by
  decide +kernel

/-- MPYHL .M1 A1,A2,A3 (96_test_vectors_derived.md V6). -/
theorem test_mpyhl :
    gives (regs [a 1 0xFFFE0003, a 2 0x50007]) 0x01882480#32 [.reg (a 3 0xFFFFFFF2)] := by
  decide +kernel

/-- MPYHLU .M1 A1,A2,A3 (96_test_vectors_derived.md V6). -/
theorem test_mpyhlu :
    gives (regs [a 1 0xFFFE0003, a 2 0x50007]) 0x01882780#32 [.reg (a 3 0x6FFF2)] := by
  decide +kernel

/-- MPYHULS .M1 A1,A2,A3 (96_test_vectors_derived.md V6). -/
theorem test_mpyhuls :
    gives (regs [a 1 0xFFFE0003, a 2 0x5FFF9]) 0x01882680#32 [.reg (a 3 0xFFF9000E)] := by
  decide +kernel

/-- MPYHSLU .M1 A1,A2,A3 (96_test_vectors_derived.md V6). -/
theorem test_mpyhslu :
    gives (regs [a 1 0xFFFE0003, a 2 0x5FFF9]) 0x01882580#32 [.reg (a 3 0xFFFE000E)] := by
  decide +kernel

/-- MPYLH .M1 A1,A2,A3 (96_test_vectors_derived.md V6). -/
theorem test_mpylh :
    gives (regs [a 1 0xFFFE0003, a 2 0xFFFB0007]) 0x01882880#32 [.reg (a 3 0xFFFFFFF1)] := by
  decide +kernel

/-- MPYLHU .M1 A1,A2,A3 (96_test_vectors_derived.md V6). -/
theorem test_mpylhu :
    gives (regs [a 1 0xFFFE0003, a 2 0xFFFB0007]) 0x01882B80#32 [.reg (a 3 0x2FFF1)] := by
  decide +kernel

/-- MPYLUHS .M1 A1,A2,A3 (96_test_vectors_derived.md V6). -/
theorem test_mpyluhs :
    gives (regs [a 1 0xFFFEFFFD, a 2 0xFFFB0007]) 0x01882A80#32 [.reg (a 3 0xFFFB000F)] := by
  decide +kernel

/-- MPYLSHU .M1 A1,A2,A3 (96_test_vectors_derived.md V6). -/
theorem test_mpylshu :
    gives (regs [a 1 0xFFFEFFFD, a 2 0xFFFB0007]) 0x01882980#32 [.reg (a 3 0xFFFD000F)] := by
  decide +kernel

/-- SMPY .M1 A1,A2,A3; SMPY .M1 A1,A2,A3 (96_test_vectors_derived.md V6). -/
theorem test_smpy :
    gives (regs [a 1 0x8000, a 2 0x8000]) 0x01882D00#32 [.reg (a 3 0x7FFFFFFF), .sat true] ∧
    gives (regs [a 1 0x8000, a 2 0x7FFF]) 0x01882D00#32 [.reg (a 3 0x80010000)] := by
  decide +kernel

/-- SMPYH .M1 A1,A2,A3 (96_test_vectors_derived.md V6). -/
theorem test_smpyh :
    gives (regs [a 1 0x80000000, a 2 0x80000000]) 0x01882100#32 [.reg (a 3 0x7FFFFFFF), .sat true] := by
  decide +kernel

/-- SMPYHL .M1 A1,A2,A3 (96_test_vectors_derived.md V6). -/
theorem test_smpyhl :
    gives (regs [a 1 0x80000001, a 2 0x18000]) 0x01882500#32 [.reg (a 3 0x7FFFFFFF), .sat true] := by
  decide +kernel

/-- SMPYLH .M1 A1,A2,A3 (96_test_vectors_derived.md V6). -/
theorem test_smpylh :
    gives (regs [a 1 0x10002, a 2 0x30004]) 0x01882900#32 [.reg (a 3 0xC)] := by
  decide +kernel

/-- MPYI .M1 A1,A2,A3; MPYI .M1 -16,A2,A3 (96_test_vectors_derived.md V6). -/
theorem test_mpyi :
    gives (regs [a 1 0x10000, a 2 0x10000]) 0x01882200#32 [.reg (a 3 0)] ∧
    gives (regs [a 2 0x10000001]) 0x018A0300#32 [.reg (a 3 0xFFFFFFF0)] := by
  decide +kernel

/-- MPYID .M1 A1,A2,A5:A4; MPYID .M1 15,A2,A5:A4 (96_test_vectors_derived.md V6). -/
theorem test_mpyid :
    gives (regs [a 1 0x80000000, a 2 0x80000000]) 0x02082400#32 [.reg (a 5 0x40000000), .reg (a 4 0)] ∧
    gives (regs [a 2 0x80000000]) 0x0209E600#32 [.reg (a 5 0xFFFFFFF8), .reg (a 4 0x80000000)] := by
  decide +kernel

/-- ADDSP .L1 A1,A2,A3; ADDSP .L1 A1,A2,A3 (96_test_vectors_derived.md V7). -/
theorem test_addsp :
    gives (regs [a 1 0x7F7FFFFF, a 2 0x7F7FFFFF]) 0x01882218#32 [.reg (a 3 0x7F800000), .warn .fadcr .a 0xE0#11] ∧
    gives { regs [a 1 0x7F7FFFFF, a 2 0x7F7FFFFF] with fadcr := ⟨0x200#11, 0#11⟩ } 0x01882218#32 [.reg (a 3
      0x7F7FFFFF), .warn .fadcr .a 0xC0#11] := by
  decide +kernel

/-- SUBSP .L1 A1,A2,A3; SUBSP .L1 A1,A2,A3 (96_test_vectors_derived.md V7). -/
theorem test_subsp :
    gives (regs [a 1 0x7F800000, a 2 0x7F800000]) 0x01882238#32 [.reg (a 3 0x7FFFFFFF), .warn .fadcr .a 0x10#11] ∧
    gives { regs [a 1 0x3F800000, a 2 0x3F800000] with fadcr := ⟨0x600#11, 0#11⟩ } 0x01882238#32 [.reg (a 3
      0x80000000)] := by
  decide +kernel

/-- ADDDP .L1 A1:A0,A3:A2,A5:A4; ADDDP .L1 A1:A0,A3:A2,A5:A4 (96_test_vectors_derived.md V7). -/
theorem test_adddp :
    gives (regs [a 1 0x7FEFFFFF, a 0 0xFFFFFFFF, a 3 0x7FEFFFFF, a 2 0xFFFFFFFF]) 0x02080318#32 [.reg (a 5
      0x7FF00000), .reg (a 4 0), .warn .fadcr .a 0xE0#11] ∧
    gives { regs [a 1 0x7FEFFFFF, a 0 0xFFFFFFFF, a 3 0x7FEFFFFF, a 2 0xFFFFFFFF] with fadcr := ⟨0x200#11, 0#11⟩
      } 0x02080318#32 [.reg (a 5 0x7FEFFFFF), .reg (a 4 0xFFFFFFFF), .warn .fadcr .a 0xC0#11] := by
  decide +kernel

/-- SUBDP .L1 A1:A0,A3:A2,A5:A4; SUBDP .L1 A1:A0,A3:A2,A5:A4 (96_test_vectors_derived.md V7). -/
theorem test_subdp :
    gives (regs [a 1 0x7FF00000, a 0 0, a 3 0x7FF00000, a 2 0]) 0x02080338#32 [.reg (a 5 0x7FFFFFFF), .reg (a 4
      0xFFFFFFFF), .warn .fadcr .a 0x10#11] ∧
    gives (regs [a 1 0, a 0 1, a 3 0x3FF00000, a 2 0]) 0x02080338#32 [.reg (a 5 0xBFF00000), .reg (a 4 0), .warn
      .fadcr .a 0x84#11] := by
  decide +kernel

/-- MPYSP .M1 A1,A2,A3; MPYSP .M1 A1,A2,A3 (96_test_vectors_derived.md V8). -/
theorem test_mpysp :
    gives (regs [a 1 0x800000, a 2 0x3F000000]) 0x01882E00#32 [.reg (a 3 0), .warn .fmcr .a 0x180#11] ∧
    gives { regs [a 1 0x800000, a 2 0x3F000000] with fmcr := ⟨0x200#11, 0#11⟩ } 0x01882E00#32 [.reg (a 3 0),
      .warn .fmcr .a 0x180#11] := by
  decide +kernel

/-- MPYDP .M1 A1:A0,A3:A2,A5:A4; MPYDP .M1 A1:A0,A3:A2,A5:A4 (96_test_vectors_derived.md V8). -/
theorem test_mpydp :
    gives (regs [a 1 0x100000, a 0 0, a 3 0x3FE00000, a 2 0]) 0x02080700#32 [.reg (a 5 0), .reg (a 4 0), .warn
      .fmcr .a 0x180#11] ∧
    gives { regs [a 1 0x7FEFFFFF, a 0 0xFFFFFFFF, a 3 0x40000000, a 2 0] with fmcr := ⟨0x600#11, 0#11⟩ }
      0x02080700#32 [.reg (a 5 0x7FEFFFFF), .reg (a 4 0xFFFFFFFF), .warn .fmcr .a 0xC0#11] := by
  decide +kernel

/-- MPYSP2DP .M1 A1,A2,A5:A4; MPYSP2DP .M1 A1,A2,A5:A4 (96_test_vectors_derived.md V8). -/
theorem test_mpysp2dp :
    gives (regs [a 1 0x800000, a 2 0x800000]) 0x020825F0#32 [.reg (a 5 0x30300000), .reg (a 4 0)] ∧
    gives (regs [a 1 0x7F800000, a 2 0]) 0x020825F0#32 [.reg (a 5 0x7FFFFFFF), .reg (a 4 0xFFFFFFFF), .warn .fmcr
      .a 0x10#11] := by
  decide +kernel

/-- MPYSPDP .M1 A1,A3:A2,A5:A4; MPYSPDP .M1 A1,A3:A2,A5:A4 (96_test_vectors_derived.md V8). -/
theorem test_mpyspdp :
    gives (regs [a 1 0x40000000, a 3 0x7FEFFFFF, a 2 0xFFFFFFFF]) 0x020825B0#32 [.reg (a 5 0x7FF00000), .reg (a 4
      0), .warn .fmcr .a 0xE0#11] ∧
    gives (regs [a 1 1, a 3 0x3FF00000, a 2 0]) 0x020825B0#32 [.reg (a 5 0), .reg (a 4 0), .warn .fmcr .a 0x84#11] := by
  decide +kernel

/-- ABSSP .S1 A1,A2; ABSSP .S2 B1,B2 (96_test_vectors_derived.md V9). -/
theorem test_abssp :
    gives (regs [a 1 0x80000000]) 0x01040F20#32 [.reg (a 2 0)] ∧
    gives (regs [b 1 0xFF800000]) 0x01040F22#32 [.reg (b 2 0x7F800000), .warn .faucr .b 0x20#11] := by
  decide +kernel

/-- ABSDP .S1 A1:A0,A3:A2; ABSDP .S1 A1:A0,A3:A2 (96_test_vectors_derived.md V9). -/
theorem test_absdp :
    gives (regs [a 1 0xFFF80000, a 0 0]) 0x01000B20#32 [.reg (a 3 0x7FFFFFFF), .reg (a 2 0xFFFFFFFF), .warn
      .faucr .a 2#11] ∧
    gives (regs [a 1 0xFFEFFFFF, a 0 0xFFFFFFFF]) 0x01000B20#32 [.reg (a 3 0x7FEFFFFF), .reg (a 2 0xFFFFFFFF)] := by
  decide +kernel

/-- RCPSP .S1 A1,A2; RCPSP .S1 A1,A2 (96_test_vectors_derived.md V9). -/
theorem test_rcpsp :
    gives (regs [a 1 0x80000000]) 0x01040F60#32 [.reg (a 2 0xFF800000), .warn .faucr .a 0x420#11] ∧
    gives (regs [a 1 0x7F800000]) 0x01040F60#32 [.reg (a 2 0)] := by
  decide +kernel

/-- RCPDP .S1 A1:A0,A3:A2; RCPDP .S1 A1:A0,A3:A2 (96_test_vectors_derived.md V9). -/
theorem test_rcpdp :
    gives (regs [a 1 0, a 0 0]) 0x01000B60#32 [.reg (a 3 0x7FF00000), .reg (a 2 0), .warn .faucr .a 0x420#11] ∧
    gives (regs [a 1 0x3FE00000, a 0 0]) 0x01000B60#32 [.reg (a 3 0x40000000), .reg (a 2 0)] := by
  decide +kernel

/-- RSQRSP .S1 A1,A2; RSQRSP .S1 A1,A2 (96_test_vectors_derived.md V9). -/
theorem test_rsqrsp :
    gives (regs [a 1 0xBF800000]) 0x01040FA0#32 [.reg (a 2 0x7FFFFFFF), .warn .faucr .a 0x10#11] ∧
    gives (regs [a 1 0x80000000]) 0x01040FA0#32 [.reg (a 2 0xFF800000), .warn .faucr .a 0x420#11] := by
  decide +kernel

/-- RSQRDP .S1 A1:A0,A3:A2 (96_test_vectors_derived.md V9). -/
theorem test_rsqrdp :
    gives (regs [a 1 0x40300000, a 0 0]) 0x01000BA0#32 [.reg (a 3 0x3FD00000), .reg (a 2 0)] := by
  decide +kernel

/-- CMPEQSP .S1 A1,A2,A3; CMPEQSP .S1 A1,A2,A3 (96_test_vectors_derived.md V10). -/
theorem test_cmpeqsp :
    gives (regs [a 1 0, a 2 0x80000000]) 0x01882E20#32 [.reg (a 3 1)] ∧
    gives (regs [a 1 0x7F800000, a 2 0x7F800000]) 0x01882E20#32 [.reg (a 3 1)] := by
  decide +kernel

/-- CMPGTSP .S1 A1,A2,A3; CMPGTSP .S1 A1,A2,A3 (96_test_vectors_derived.md V10). -/
theorem test_cmpgtsp :
    gives (regs [a 1 0x3F800000, a 2 0x7FC00000]) 0x01882E60#32 [.reg (a 3 0), .warn .faucr .a 0x212#11] ∧
    gives (regs [a 1 0, a 2 0x80000000]) 0x01882E60#32 [.reg (a 3 0)] := by
  decide +kernel

/-- CMPLTSP .S1 A1,A2,A3; CMPLTSP .S2 B1,B2,B3 (96_test_vectors_derived.md V10). -/
theorem test_cmpltsp :
    gives (regs [a 1 0xFF800000, a 2 0x7F800000]) 0x01882EA0#32 [.reg (a 3 1)] ∧
    gives (regs [b 1 0x7FC00000, b 2 0x3F800000]) 0x01882EA2#32 [.reg (b 3 0), .warn .faucr .b 0x211#11] := by
  decide +kernel

/-- CMPEQDP .S1 A1:A0,A3:A2,A4; CMPEQDP .S1 A1:A0,A3:A2,A4 (96_test_vectors_derived.md V10). -/
theorem test_cmpeqdp :
    gives (regs [a 1 0x80000000, a 0 0, a 3 0, a 2 0]) 0x02080A20#32 [.reg (a 4 1)] ∧
    gives (regs [a 1 0x3FF00000, a 0 1, a 3 0x3FF00000, a 2 0]) 0x02080A20#32 [.reg (a 4 0)] := by
  decide +kernel

/-- CMPGTDP .S1 A1:A0,A3:A2,A4 (96_test_vectors_derived.md V10). -/
theorem test_cmpgtdp :
    gives (regs [a 1 0x7FF00000, a 0 0, a 3 0x7FEFFFFF, a 2 0xFFFFFFFF]) 0x02080A60#32 [.reg (a 4 1)] := by
  decide +kernel

/-- CMPLTDP .S1 A1:A0,A3:A2,A4 (96_test_vectors_derived.md V10). -/
theorem test_cmpltdp :
    gives (regs [a 1 0x7FF00000, a 0 1, a 3 0x3FF00000, a 2 0]) 0x02080AA0#32 [.reg (a 4 0), .warn .faucr .a
      0x211#11] := by
  decide +kernel

/-- SPINT .L1 A1,A2; SPINT .L1 A1,A2 (96_test_vectors_derived.md V11). -/
theorem test_spint :
    gives (regs [a 1 0x40200000]) 0x01040158#32 [.reg (a 2 2), .warn .fadcr .a 0x80#11] ∧
    gives { regs [a 1 0x40200000] with fadcr := ⟨0x200#11, 0#11⟩ } 0x01040158#32 [.reg (a 2 2), .warn .fadcr .a
      0x80#11] := by
  decide +kernel

/-- SPTRUNC .L1 A1,A2; SPTRUNC .L1 A1,A2 (96_test_vectors_derived.md V11). -/
theorem test_sptrunc :
    gives { regs [a 1 0xC0200000] with fadcr := ⟨0x600#11, 0#11⟩ } 0x01040178#32 [.reg (a 2 0xFFFFFFFE), .warn
      .fadcr .a 0x80#11] ∧
    gives (regs [a 1 0x3F7FFFFF]) 0x01040178#32 [.reg (a 2 0), .warn .fadcr .a 0x80#11] := by
  decide +kernel

/-- DPINT .L1 A1:A0,A4; DPINT .L1 A1:A0,A4 (96_test_vectors_derived.md V11). -/
theorem test_dpint :
    gives (regs [a 1 0xC1E00000, a 0 0x100000]) 0x02000118#32 [.reg (a 4 0x80000000), .warn .fadcr .a 0x80#11] ∧
    gives { regs [a 1 0xC1E00000, a 0 0x100000] with fadcr := ⟨0x600#11, 0#11⟩ } 0x02000118#32 [.reg (a 4
      0x80000000), .warn .fadcr .a 0xC0#11] := by
  decide +kernel

/-- DPTRUNC .L1 A1:A0,A4; DPTRUNC .L1 A1:A0,A4 (96_test_vectors_derived.md V11). -/
theorem test_dptrunc :
    gives (regs [a 1 0x41DFFFFF, a 0 0xFFE00000]) 0x02000038#32 [.reg (a 4 0x7FFFFFFF), .warn .fadcr .a 0x80#11] ∧
    gives (regs [a 1 0x41E00000, a 0 0]) 0x02000038#32 [.reg (a 4 0x7FFFFFFF), .warn .fadcr .a 0xC0#11] := by
  decide +kernel

/-- INTSP .L1 A1,A2; INTSP .L1 A1,A2 (96_test_vectors_derived.md V11). -/
theorem test_intsp :
    gives (regs [a 1 0x80000000]) 0x01040958#32 [.reg (a 2 0xCF000000)] ∧
    gives (regs [a 1 0x7FFFFFFF]) 0x01040958#32 [.reg (a 2 0x4F000000), .warn .fadcr .a 0x80#11] := by
  decide +kernel

/-- INTSPU .L1 A1,A2; INTSPU .L1 A1,A2 (96_test_vectors_derived.md V11). -/
theorem test_intspu :
    gives (regs [a 1 0xFFFFFFFF]) 0x01040938#32 [.reg (a 2 0x4F800000), .warn .fadcr .a 0x80#11] ∧
    gives { regs [a 1 0xFFFFFFFF] with fadcr := ⟨0x600#11, 0#11⟩ } 0x01040938#32 [.reg (a 2 0x4F7FFFFF), .warn
      .fadcr .a 0x80#11] := by
  decide +kernel

/-- INTDP .L1 A1,A3:A2; INTDP .L1 A1,A3:A2 (96_test_vectors_derived.md V11). -/
theorem test_intdp :
    gives (regs [a 1 0x80000000]) 0x01040738#32 [.reg (a 3 0xC1E00000), .reg (a 2 0)] ∧
    gives (regs [a 1 0x7FFFFFFF]) 0x01040738#32 [.reg (a 3 0x41DFFFFF), .reg (a 2 0xFFC00000)] := by
  decide +kernel

/-- INTDPU .L1 A1,A3:A2 (96_test_vectors_derived.md V11). -/
theorem test_intdpu :
    gives (regs [a 1 0xFFFFFFFF]) 0x01040778#32 [.reg (a 3 0x41EFFFFF), .reg (a 2 0xFFE00000)] := by
  decide +kernel

/-- DPSP .L1 A1:A0,A2; DPSP .L1 A1:A0,A2 (96_test_vectors_derived.md V11). -/
theorem test_dpsp :
    gives (regs [a 1 0x3FF00000, a 0 0x10000000]) 0x01000138#32 [.reg (a 2 0x3F800000), .warn .fadcr .a 0x80#11] ∧
    gives { regs [a 1 0x3FF00000, a 0 0x10000000] with fadcr := ⟨0x400#11, 0#11⟩ } 0x01000138#32 [.reg (a 2
      0x3F800001), .warn .fadcr .a 0x80#11] := by
  decide +kernel

/-- SPDP .S1 A1,A3:A2; SPDP .S1 A1,A3:A2 (96_test_vectors_derived.md V11). -/
theorem test_spdp :
    gives (regs [a 1 0x7F7FFFFF]) 0x010400A0#32 [.reg (a 3 0x47EFFFFF), .reg (a 2 0xE0000000)] ∧
    gives (regs [a 1 0x80800000]) 0x010400A0#32 [.reg (a 3 0xB8100000), .reg (a 2 0)] := by
  decide +kernel

/-- The bytes of 8899AABBh and CCDDEEFFh at 0x100 in little-endian order (96_test_vectors_derived.md V12). -/
def little : List Byte := [0xBB, 0xAA, 0x99, 0x88, 0xFF, 0xEE, 0xDD, 0xCC]

/-- The same words in big-endian order. -/
def big : List Byte := [0x88, 0x99, 0xAA, 0xBB, 0xCC, 0xDD, 0xEE, 0xFF]

/-- LDB *A4 (96_test_vectors_derived.md V12). -/
theorem test_ldb :
    gives (withBytes .little little [a 4 0x100]) 0x00900224#32 [.reg (a 1 0xFFFFFFBB)] ∧
    gives (withBytes .big big [a 4 0x100]) 0x00900224#32 [.reg (a 1 0xFFFFFF88)] := by decide +kernel

/-- LDBU *+A4[3] (96_test_vectors_derived.md V12). -/
theorem test_ldbu :
    gives (withBytes .little little [a 4 0x100]) 0x00906214#32 [.reg (a 1 0x88)] ∧
    gives (withBytes .big big [a 4 0x100]) 0x00906214#32 [.reg (a 1 0xBB)] := by decide +kernel

/-- LDH *+A4[1] (96_test_vectors_derived.md V12). -/
theorem test_ldh :
    gives (withBytes .little little [a 4 0x100]) 0x00902244#32 [.reg (a 1 0xFFFF8899)] ∧
    gives (withBytes .big big [a 4 0x100]) 0x00902244#32 [.reg (a 1 0xFFFFAABB)] := by decide +kernel

/-- LDHU *A4 (96_test_vectors_derived.md V12). -/
theorem test_ldhu :
    gives (withBytes .little little [a 4 0x100]) 0x00900204#32 [.reg (a 1 0xAABB)] ∧
    gives (withBytes .big big [a 4 0x100]) 0x00900204#32 [.reg (a 1 0x8899)] := by decide +kernel

/-- LDW *++A4[1] and *A4--[1]: the address before or after the base update (96_test_vectors_derived.md V12). -/
theorem test_ldw :
    gives (withBytes .little little [a 4 0x100]) 0x00903264#32 [.reg (a 1 0xCCDDEEFF), .reg (a 4 0x104)] ∧
    gives (withBytes .little little [a 4 0x104]) 0x00903464#32 [.reg (a 1 0xCCDDEEFF), .reg (a 4 0x100)] := by
  decide +kernel

/-- LDW *A4--[1] wraps in an 8-byte circular block, BK0 = 2 (96_test_vectors_derived.md V12). -/
theorem test_ldw_circular :
    gives { withBytes .little little [a 4 0x100] with amr := 0x20001#26 } 0x00903464#32
      [.reg (a 1 0x8899AABB), .reg (a 4 0x104)] := by decide +kernel

/-- LDDW *A4: which word goes to which register depends on the byte order (96_test_vectors_derived.md V12). -/
theorem test_lddw :
    gives (withBytes .little little [a 4 0x100]) 0x00100364#32 [.reg (a 1 0xCCDDEEFF), .reg (a 0 0x8899AABB)] ∧
    gives (withBytes .big big [a 4 0x100]) 0x00100364#32 [.reg (a 1 0x8899AABB), .reg (a 0 0xCCDDEEFF)] := by
  decide +kernel

/-- LDW *+B14[65] and LDB *+B15[257] (96_test_vectors_derived.md V12). -/
theorem test_long_offsets :
    gives (withBytes .little little []) 0x0080416E#32 [.reg (b 1 0xCCDDEEFF)] ∧
    gives (withBytes .little little []) 0x008101AE#32 [.reg (b 1 0xFFFFFFAA)] := by decide +kernel

/-- STW A1,*A4++[1] and B1 through T2 (96_test_vectors_derived.md V13). -/
theorem test_stw :
    stores (withBytes .little [] [a 1 0x11223344, a 4 0x100]) 0x00903674#32 [.reg (a 4 0x104)]
      [0x44, 0x33, 0x22, 0x11, 0, 0, 0, 0] ∧
    stores (withBytes .little [] [b 1 0xA1B2C3D4, a 4 0x104]) 0x00900276#32 []
      [0, 0, 0, 0, 0xD4, 0xC3, 0xB2, 0xA1] := by decide +kernel

/-- STH A1,*+A4[1] in both byte orders (96_test_vectors_derived.md V13). -/
theorem test_sth :
    stores (withBytes .little [] [a 1 0x11223344, a 4 0x100]) 0x00902254#32 [] [0, 0, 0x44, 0x33, 0] ∧
    stores (withBytes .big [] [a 1 0x11223344, a 4 0x100]) 0x00902254#32 [] [0, 0, 0x33, 0x44, 0] := by decide +kernel

/-- STB A1,*+A4[5] and STW B1,*+B15[65] (96_test_vectors_derived.md V13). -/
theorem test_stb_and_far_stw :
    stores (withBytes .little [] [a 1 0x11223344, a 4 0x100]) 0x0090A234#32 [] [0, 0, 0, 0, 0, 0x44, 0, 0] ∧
    stores (withBytes .little [] [b 1 0xA1B2C3D4]) 0x008041FE#32 [] [0, 0, 0, 0, 0xD4, 0xC3, 0xB2, 0xA1] := by
  decide +kernel

/-- [A1] STW A2,*A4++[1] with A1 = 0: no store and no base update (96_test_vectors_derived.md V13). -/
theorem test_condition_false :
    stores (withBytes .little [] [a 2 0x55555555, a 4 0x100]) 0x81103674#32 [] [0, 0, 0, 0] := by decide +kernel

/-- MVC B1,AMR and the fields an MVC changes at the end of the cycle (96_test_vectors_derived.md V5). -/
theorem test_mvc_write :
    gives (regs [b 1 0xFFFFFFFF]) 0x000403A2#32 [.control (.write 0#5 0xFFFFFFFF#32)] ∧
    (State.reset.applyControl (.write 5#5 0xFFFFFFFF#32)).istb = 0x3FFFFF#22 ∧
    (State.reset.applyControl (.write 4#5 0xFFFFFFFF#32)).ie = 0xFFF#12 := by decide +kernel

/-- MVC IER,B0 and MVC ISTP,B0 with HPEINT = 9 (96_test_vectors_derived.md V5). -/
theorem test_mvc_read :
    gives { State.reset with ie := 0x004#12, nmie := true } 0x001003E2#32 [.reg (b 0 0x43)] ∧
    gives { State.reset with istb := 2#22, ifl := 0x0A4#12, ie := 0x0A0#12, nmie := true } 0x001403E2#32
      [.reg (b 0 0x920)] := by decide +kernel

/-- B A4, B IRP and B NRP (46_branch_nop.md R392 to R394). -/
theorem test_branches :
    gives (regs [a 4 0x1000]) 0x00101362#32 [.branch 0x1000#32] ∧
    gives { State.reset with irp := 0x40#32 } 0x001800E2#32 [.branch 0x40#32, .control .restoreGie] ∧
    gives { State.reset with nrp := 0x80#32 } 0x001C00E2#32 [.branch 0x80#32, .control .setNmie] := by decide +kernel

/-- MVC IER,B0, B IRP and B NRP with bit 12 set: no operand uses it (30_encoding.md R154). -/
theorem test_ignored_cross_bit :
    decode 0x001013E2#32 = .ok (.mvcRead ⟨.always, 4#5, 0#5⟩) ∧ decode 0x001810E2#32 = .ok (.bIrp .always) ∧
    decode 0x001C10E2#32 = .ok (.bNrp .always) := by decide +kernel

/-- MVC B1,CSR with the reserved PWRD 1Dh: some power-down mode, or none (93_implementation_defined.md U7). -/
theorem test_reserved_power :
    ∃ m, exec (.mvcWrite ⟨.always, false, 1#5, 1#5⟩) (regs [b 1 0x7400]) = .next { regs [b 1 0x7400] with
      controls := [.write 1#5 0x7400#32, .enterPower m], free := 1 } := ⟨_, rfl⟩

/-- A branch displacement counts from the fetch packet of the branch (46_branch_nop.md R391). -/
theorem test_branch_displacement :
    gives { State.reset with pc := 0x11C#32 } 0x00000810#32 [.branch 0x140#32] ∧
    gives { State.reset with pc := 0x11C#32 } 0x0FFFFC12#32 [.branch 0xE0#32] := by decide +kernel

/-- MVKL sign-extends, MVKLH keeps the low half (43_compare_move.md R306, R308). -/
theorem test_mvkl :
    queuedBy (regs []) (.mvkl ⟨.always, .a, 0x12348000#32, 1#5⟩) = [.reg (a 1 0xFFFF8000)] ∧
    queuedBy (regs [a 1 0x89ABCDEF]) (.mvklh ⟨.always, .a, 0x00001234#32, 1#5⟩) = [.reg (a 1 0x1234CDEF)] := by
  decide +kernel

/-- MV, NEG, NOT and ZERO (43_compare_move.md R300, R308; 41_integer_arith.md R240, R241; 42_logic_shift_bitfield.md
R264). -/
theorem test_pseudo :
    queuedBy (regs [a 1 7]) (.mv (.s ⟨.always, .b, true, 1#5, 2#5⟩)) = [.reg (b 2 7)] ∧
    queuedBy (regs [a 1 7]) (.neg (.l ⟨.always, .a, false, 1#5, 2#5⟩)) = [.reg (a 2 0xFFFFFFF9)] ∧
    queuedBy (regs [a 1 7]) (.not (.s ⟨.always, .a, false, 1#5, 2#5⟩)) = [.reg (a 2 0xFFFFFFF8)] ∧
    queuedBy (regs [a 1 7]) (.zero (.sSub ⟨.always, .a, 1#5⟩)) = [.reg (a 1 0)] := by decide +kernel

/-- The reverse subtracts of .S give src2 - src1 (40_execution_model.md R180): 3.0 - 1.0. -/
theorem test_reverse_subtract :
    queuedBy (regs [a 1 0x3F800000, a 2 0x40400000]) (.subspS ⟨⟨.always, .a, false, 1#5, 2#5, 3#5⟩, true⟩) =
      [.reg (a 3 0x40000000)] ∧
    queuedBy (regs [a 1 0x3F800000, a 2 0x40400000]) (.subspS ⟨⟨.always, .a, false, 1#5, 2#5, 3#5⟩, false⟩) =
      [.reg (a 3 0xC0000000)] := by decide +kernel

/-- LDW *++A4[1] past the end of memory: the base update lands, the machine goes on (20_memory.md R105). -/
theorem test_unmapped_load :
    (queuedBy { regs [a 4 0x100] with device := { Device.standard with map := [] } }
      (.ldw ⟨.always, .a, .a, .preInc, 4#5, .cst 1#5, 1#5⟩)).head? = some (.reg (a 4 0x104)) := by decide +kernel

/-! Single steps. -/

/-- The next state of a step passes a check. -/
def stepped (s : State) (f : State → Bool) : Bool :=
  match step s with
  | .next t => f t
  | _ => false

/-- ADD .L1 A1,A2,A3 runs as the first instruction after reset and lands at the end of its cycle (95_test_vectors.md
V14.1). -/
theorem test_step_add :
    stepped ((regs [a 1 3, a 2 4]).withFetchWord 32 0x01882078) fun t =>
      t.reg ⟨.a, 3#5⟩ == 7#32 && t.pc == 4#32 && t.writes == [] := by decide +kernel

/-- NOP 5 waits four more cycles and IDLE until a branch (46_branch_nop.md R395, R396). -/
theorem test_step_waits :
    stepped (State.reset.withFetchWord 32 0x00008000) (fun t => t.nopLeft == 4 && t.pc == 4#32) ∧
    stepped (State.reset.withFetchWord 32 0x0001E000) (fun t => t.idle && t.pc == 4#32) := by decide +kernel

/-- INT4 enabled and pending is taken: IRP holds the return address, PGIE takes GIE (60_exceptions.md R497). -/
theorem test_step_interrupt :
    stepped { State.reset with pc := 0x40#32, gie := true, nmie := true, ie := 1#12, ifl := 1#12 } fun t =>
      t.irp == 0x40#32 && t.pgie && !t.gie && t.ifl == 0#12 && t.emptyLeft == 6 := by decide +kernel

/-- A reset input while registers and flags are set (60_exceptions.md R498). -/
theorem test_step_reset :
    stepped { State.reset with
      pc := 0x40#32, gie := true, ifl := 5#12, nopLeft := 3, inputs := [⟨false, 0#12, true, []⟩] } fun t =>
      t.pc == 0#32 && !t.gie && t.ifl == 0#12 && t.nopLeft == 0 && t.inputs == [] := by decide +kernel

/-- What another bus master writes in a cycle is in memory after it, and its code is unknown (20_memory.md R112). -/
theorem test_step_external :
    stepped { (State.reset.withFetchWord 32 0) with
      device := { Device.standard with externalWriters := true }
      inputs := [⟨false, 0#12, false, [(0x200, 7#8)]⟩] } fun t =>
      readByte t.mem 0x200 == 7#8 && t.codeStores == [0x200] := by decide +kernel

/-- A word that the decoder rejects with this reason. -/
def refusedWord (w : Word) (r : Reject) : Bool :=
  match decode w with
  | .error e => e == r
  | .ok _ => false

/-- Reserved encodings are refused by name (30_encoding.md R131, R142, R153). -/
theorem test_refused_words :
    refusedWord 0x11882078#32 .reservedCondition ∧ refusedWord 0x00900464#32 .reservedMode ∧
    refusedWord 0x00001FC0#32 .unassigned := by decide +kernel

/-- The host's entry gives the decoder's instruction, little-endian bytes. -/
theorem test_decodeTableWord :
    decodeTableWord 32 0x01882078 = some (.addL ⟨.always, .a, false, 1#5, 2#5, 3#5⟩) := by decide +kernel

/-! Decoded words written out in the spec's encodings (30_encoding.md R135 to R149). -/

/-- One word a family, decoded to the instruction the spec gives for it. -/
theorem test_decode_words :
    decode 0x02840358#32 = .ok (.abs ⟨.always, .a, false, 1#5, 5#5⟩) ∧
    decode 0x21882078#32 = .ok (.addL ⟨.nonzero .b0, .a, false, 1#5, 2#5, 3#5⟩) ∧
    decode 0x02103A40#32 = .ok (.addah ⟨.always, .a, 1#5, 4#5, 4#5⟩) ∧
    decode 0x0104A4C8#32 = .ok (.clrConst ⟨.always, .a, 1#5, 5#5, 4#5, 2#5⟩) ∧
    decode 0x01882C80#32 = .ok (.mpy ⟨.always, .a, false, 1#5, 2#5, 3#5⟩) ∧
    decode 0x008001EA#32 = .ok (.mvkh ⟨.always, .b, 3#16, 1#5⟩) ∧
    decode 0x000403A2#32 = .ok (.mvcWrite ⟨.always, false, 1#5, 0#5⟩) ∧
    decode 0x001403E2#32 = .ok (.mvcRead ⟨.always, 5#5, 0#5⟩) := by
  refine ⟨rfl, rfl, rfl, rfl, rfl, rfl, rfl, rfl⟩

/-- Loads, stores, branches and NOP. -/
theorem test_decode_words_memory :
    decode 0x03948014#32 = .ok (.ldbu ⟨.always, .a, .a, .negOffset, 5#5, .cst 4#5, 7#5⟩) ∧
    decode 0x00282364#32 = .ok (.lddw ⟨.always, .a, .a, .posOffset, 10#5, .cst 1#5, 0#4⟩) ∧
    decode 0x04103A44#32 = .ok (.ldh ⟨.always, .a, .a, .preInc, 4#5, .reg 1#5, 8#5⟩) ∧
    decode 0x00806266#32 = .ok (.ldw ⟨.always, .a, .b, .posOffset, 0#5, .cst 3#5, 1#5⟩) ∧
    decode 0x00A83674#32 = .ok (.stw ⟨.always, .a, .a, .postInc, 10#5, .cst 1#5, 1#5⟩) ∧
    decode 0x00800AFE#32 = .ok (.stwK ⟨.always, .b, true, 10#15, 1#5⟩) ∧
    decode 0x20000110#32 = .ok (.bDisp ⟨.nonzero .b0, .a, 2#21⟩) ∧
    decode 0x00101362#32 = .ok (.bReg ⟨.always, true, 4#5⟩) ∧
    decode 0x00008000#32 = .ok (.nop 4#3) := by
  refine ⟨rfl, rfl, rfl, rfl, rfl, rfl, rfl, rfl, rfl⟩

/-- Floating-point words. -/
theorem test_decode_words_float :
    decode 0x02081318#32 = .ok (.adddpL ⟨.always, .a, true, 0#4, 1#4, 2#4⟩) ∧
    decode 0x02080700#32 = .ok (.mpydp ⟨.always, .a, false, 0#4, 1#4, 2#4⟩) ∧
    decode 0x01883E00#32 = .ok (.mpysp ⟨.always, .a, true, 1#5, 2#5, 3#5⟩) ∧
    decode 0x01000BA2#32 = .ok (.rsqrdp ⟨.always, .b, 0#4, 1#4⟩) ∧
    decode 0x02080A62#32 = .ok (.cmpgtdp ⟨.always, .b, false, 0#4, 1#4, 4#5⟩) ∧
    decode 0x02000038#32 = .ok (.dptrunc ⟨.always, .a, 0#4, 4#5⟩) ∧
    decode 0x01041938#32 = .ok (.intspu ⟨.always, .a, true, 1#5, 2#5⟩) ∧
    decode 0x010400A0#32 = .ok (.spdp ⟨.always, .a, false, 1#5, 1#4⟩) := by
  refine ⟨rfl, rfl, rfl, rfl, rfl, rfl, rfl, rfl⟩

/-! Ill-formed terms, one for each check of WellFormed.lean. -/

/-- Register A16 does not exist on a C67x (10_state.md R20). -/
theorem test_illFormed_register :
    (Instr.addL ⟨.always, .a, false, 16#5, 2#5, 3#5⟩).wellFormed .c67x = false ∧
    (Instr.addL ⟨.always, .a, false, 15#5, 2#5, 3#5⟩).wellFormed .c67x = true := by decide

/-- MPYSPDP is a C67x+ instruction (00_scope.md R3). -/
theorem test_illFormed_variant :
    (Instr.mpyspdp ⟨.always, .a, false, 1#5, 1#4, 2#4⟩).wellFormed .c67x = false ∧
    (Instr.mpyspdp ⟨.always, .a, false, 1#5, 1#4, 2#4⟩).wellFormed .c67xPlus = true := by decide

/-- Control registers that cannot be read or written (10_state.md R31). -/
theorem test_illFormed_control :
    (Instr.mvcRead ⟨.always, 3#5, 0#5⟩).wellFormed .c67xPlus = false ∧
    (Instr.mvcWrite ⟨.always, false, 0#5, 16#5⟩).wellFormed .c67xPlus = false ∧
    (Instr.mvcWrite ⟨.always, false, 0#5, 3#5⟩).wellFormed .c67xPlus = true := by decide

/-! Witnesses: for each statement that has hypotheses, a state and operands that meet them together, one for each kind
of clause, at a bound where a clause has one. -/

/-- Bool form of `InMemory`. -/
def backed (s : State) (a : Nat) : Bool := (dataRegion s.device a).any fun r => r.kind == .memory

theorem inMemory_of {s : State} {x : Nat} (h : backed s x = true) : InMemory s x := by
  simp only [backed, Option.any_eq_true, beq_iff_eq] at h
  exact h

theorem proper_of {s : State} {ea : Word} {n : Nat}
    (h : (ea.toNat % n == 0 && (List.range n).all fun k => backed s (ea.toNat + k)) = true) : Proper s ea n := by
  simp only [Bool.and_eq_true, beq_iff_eq, List.all_eq_true, List.mem_range] at h
  exact ⟨h.1, fun k hk => inMemory_of (h.2 k hk)⟩

theorem accessible_of {s : State} {ea : Word} {n : Nat}
    (h : (!s.device.externalWriters && (ea.toNat % n == 0 &&
      (List.range n).all fun k => backed s (ea.toNat + k))) = true) : Accessible s ea n := by
  rw [Bool.and_eq_true, Bool.not_eq_true'] at h
  refine ⟨proper_of h.2, fun k _ hc => ?_⟩
  rw [hc.1] at h
  exact absurd h.1 (by decide)

theorem notProper_of {s : State} {ea : Word} {n : Nat}
    (h : (ea.toNat % n != 0 || (List.range n).any fun k => !backed s (ea.toNat + k)) = true) : ¬ Proper s ea n := by
  rintro ⟨ha, hm⟩
  simp only [ha, bne_self_eq_false, Bool.false_or, List.any_eq_true, List.mem_range, Bool.not_eq_true'] at h
  obtain ⟨k, hk, hb⟩ := h
  obtain ⟨r, hr, hk⟩ := hm k hk
  simp [backed, hr, hk] at hb

theorem notAccessible_of {s : State} {ea : Word} {n : Nat}
    (h : (ea.toNat % n != 0 || (List.range n).any fun k => !backed s (ea.toNat + k)) = true) : ¬ Accessible s ea n :=
  fun k => notProper_of h k.1

/-- Conditions that hold: unconditional, and each form on a register. -/
theorem test_witness_conditions_hold :
    State.reset.holds .always ∧ (regs [b 2 0x80000000]).holds (.nonzero .b2) ∧ (regs [a 1 0]).holds (.zero .a1) := by
  decide +kernel

theorem test_witness_AddSubtractResults :
    State.reset.holds (⟨.always, .a, false, 1#5, 2#5, 3#5⟩ : Bin Reg Reg Reg).cond ∧
    (regs [b 0 1]).holds (⟨.nonzero .b0, .b, true, 16#5, 31#5, 0#5⟩ : Bin Cst5 Reg Reg).cond ∧
    State.reset.holds (⟨.zero .a2, .b, 1#5, 2#5, 3#5⟩ : BinN Reg Reg Reg).cond ∧
    State.reset.holds (⟨.always, .a, 31#5, 2#5, 3#5⟩ : BinN Cst5 Reg Reg).cond ∧
    State.reset.holds (⟨.always, .a, 0x8000#16, 3#5⟩ : Const16).cond := by decide +kernel

theorem test_witness_AddSubtractResults_longs :
    State.reset.holds (⟨.always, .a, false, 1#5, 2#5, 15#4⟩ : Bin Reg Reg Pair).cond ∧
    State.reset.holds (⟨.zero .b1, .b, true, 1#5, 15#4, 0#4⟩ : Bin Reg Pair Pair).cond ∧
    (regs [a 2 1]).holds (⟨.nonzero .a2, .a, 16#5, 0#4, 15#4⟩ : BinN Cst5 Pair Pair).cond := by decide +kernel

/-- The largest SSHL count with a defined result is 31. -/
theorem test_witness_SaturatingResults :
    State.reset.holds (⟨.always, .a, 0#4, 2#5⟩ : UnN Pair Reg).cond ∧
    State.reset.holds (⟨.always, .b, true, 31#5, 2#5, 3#5⟩ : Bin Cst5 Reg Reg).cond ∧
    (let s := regs [a 1 31]
     let o : Bin Reg Reg Reg := ⟨.always, .a, false, 1#5, 2#5, 3#5⟩
     s.holds o.cond ∧ (s.reg ⟨o.side, o.src1⟩).toNat ≤ 31) := by decide +kernel

/-- SSHL by 32, AMR mode 3 on A4, a field from bit 1 to bit 0, and a register field operand of 1024. -/
theorem test_witness_UndefinedResultsAreFree :
    (let s := regs [a 1 32]
     let o : Bin Reg Reg Reg := ⟨.always, .a, false, 1#5, 2#5, 3#5⟩
     s.holds o.cond ∧ 31 < (s.reg ⟨o.side, o.src1⟩).toNat) ∧
    (let s := { State.reset with amr := 3#26 }
     let o : BinN Reg Reg Reg := ⟨.always, .a, 1#5, 4#5, 3#5⟩
     s.holds o.cond ∧ addressMode s o.side o.src2 = 3) ∧
    (let s := { State.reset with amr := 0xC000#26 }
     let o : BinN Cst5 Reg Reg := ⟨.always, .b, 1#5, 7#5, 3#5⟩
     s.holds o.cond ∧ addressMode s o.side o.src2 = 3) ∧
    (let o : FieldOp := ⟨.always, .a, 1#5, 1#5, 0#5, 2#5⟩
     State.reset.holds o.cond ∧ o.cstb.toNat < o.csta.toNat) ∧
    (let s := regs [a 1 32]
     let v := (s.reg ⟨.a, 1#5⟩).toNat
     1024 ≤ v ∨ v % 32 < v / 32) ∧
    (let s := regs [a 1 1024]
     let o : Bin Reg Reg Reg := ⟨.always, .a, false, 1#5, 2#5, 3#5⟩
     s.holds o.cond ∧ (1024 ≤ (s.reg ⟨o.side, o.src1⟩).toNat ∨
       (s.reg ⟨o.side, o.src1⟩).toNat % 32 < (s.reg ⟨o.side, o.src1⟩).toNat / 32)) := by decide +kernel

theorem test_witness_AbsoluteAndPackedResults :
    State.reset.holds (⟨.always, .a, true, 1#5, 2#5⟩ : Un Reg Reg).cond ∧
    State.reset.holds (⟨.zero .b2, .b, 1#4, 2#4⟩ : UnN Pair Pair).cond ∧
    State.reset.holds (⟨.always, .a, false, 1#5, 2#5, 3#5⟩ : Bin Reg Reg Reg).cond := by decide +kernel

/-- Linear, circular by BK0 and circular by BK1. -/
theorem test_witness_AddressArithmetic :
    let s := { State.reset with amr := 0x3E8001#26 }
    let o : BinN Reg Reg Reg := ⟨.always, .a, 1#5, 4#5, 3#5⟩
    let c : BinN Cst5 Reg Reg := ⟨.always, .b, 31#5, 7#5, 3#5⟩
    s.holds o.cond ∧ addressMode s o.side o.src2 = 1 ∧ s.holds c.cond ∧ addressMode s c.side c.src2 = 2 ∧
      addressMode s .a 3#5 = 0 := by decide +kernel

theorem test_witness_LogicAndShiftResults :
    State.reset.holds (⟨.always, .a, false, 1#5, 2#5, 3#5⟩ : Bin Reg Reg Reg).cond ∧
    State.reset.holds (⟨.always, .b, true, 16#5, 2#5, 3#5⟩ : Bin Cst5 Reg Reg).cond := by decide +kernel

theorem test_witness_LogicAndShiftResults_shifts :
    State.reset.holds (⟨.always, .a, false, 1#5, 2#5, 3#5⟩ : Bin Reg Reg Reg).cond ∧
    State.reset.holds (⟨.always, .a, 1#5, 2#4, 3#4⟩ : BinN Reg Pair Pair).cond ∧
    State.reset.holds (⟨.always, .b, true, 1#5, 2#5, 3#4⟩ : Bin Reg Reg Pair).cond ∧
    State.reset.holds (⟨.always, .b, true, 31#5, 2#5, 3#5⟩ : Bin Cst5 Reg Reg).cond ∧
    State.reset.holds (⟨.always, .b, 31#5, 2#4, 3#4⟩ : BinN Cst5 Pair Pair).cond ∧
    State.reset.holds (⟨.always, .b, true, 31#5, 2#5, 3#4⟩ : Bin Cst5 Reg Pair).cond := by decide +kernel

/-- The one-bit field 31 to 31, and register operands 1023 and 0. -/
theorem test_witness_BitFieldsAndCounts :
    (let o : FieldOp := ⟨.always, .a, 1#5, 31#5, 31#5, 2#5⟩
     State.reset.holds o.cond ∧ o.csta.toNat ≤ o.cstb.toNat) ∧
    (let s := regs [a 1 1023]
     let o : Bin Reg Reg Reg := ⟨.always, .a, false, 1#5, 2#5, 3#5⟩
     let v := (s.reg ⟨o.side, o.src1⟩).toNat
     s.holds o.cond ∧ v < 1024 ∧ v / 32 ≤ v % 32) := by decide +kernel

theorem test_witness_BitFieldsAndCounts_counts :
    State.reset.holds (⟨.always, .a, false, 1#5, 2#5, 3#5⟩ : Bin Reg Reg Reg).cond ∧
    State.reset.holds (⟨.always, .a, false, 1#5, 2#5, 3#5⟩ : Bin Cst5 Reg Reg).cond ∧
    State.reset.holds (⟨.always, .a, true, 2#5, 3#5⟩ : Un Reg Reg).cond ∧
    State.reset.holds (⟨.always, .a, 2#4, 3#5⟩ : UnN Pair Reg).cond := by decide +kernel

theorem test_witness_IntegerComparisons :
    State.reset.holds (⟨.always, .a, false, 1#5, 2#5, 3#5⟩ : Bin Reg Reg Reg).cond ∧
    State.reset.holds (⟨.always, .a, true, 1#5, 2#4, 3#5⟩ : Bin Reg Pair Reg).cond ∧
    State.reset.holds (⟨.always, .a, 16#5, 2#4, 3#5⟩ : BinN Cst5 Pair Reg).cond ∧
    State.reset.holds (⟨.always, .a, true, 15#4, 2#5, 3#5⟩ : Bin Ucst4 Reg Reg).cond ∧
    State.reset.holds (⟨.always, .a, 15#4, 2#4, 3#5⟩ : BinN Ucst4 Pair Reg).cond := by decide +kernel

theorem test_witness_HalfwordProducts :
    State.reset.holds (⟨.always, .b, true, 1#5, 2#5, 3#5⟩ : Bin Reg Reg Reg).cond ∧
    State.reset.holds (⟨.always, .a, false, 16#5, 2#5, 3#5⟩ : Bin Cst5 Reg Reg).cond := by decide +kernel

theorem test_witness_WordProducts :
    State.reset.holds (⟨.always, .b, true, 1#5, 2#5, 3#4⟩ : Bin Reg Reg Pair).cond ∧
    State.reset.holds (⟨.always, .a, false, 16#5, 2#5, 3#4⟩ : Bin Cst5 Reg Pair).cond := by decide +kernel

theorem test_witness_MovesAndPseudoInstructions :
    State.reset.holds (⟨.always, .a, 0xFFFF#16, 3#5⟩ : Const16).cond ∧
    State.reset.holds (⟨.always, .b, 0x8000#32, 3#5⟩ : Const32).cond := by decide +kernel

theorem test_witness_MovesAndPseudoInstructions_pseudo :
    State.reset.holds (⟨.always, .a, true, 1#5, 2#5⟩ : Un Reg Reg).cond ∧
    State.reset.holds (⟨.always, .a, 1#5, 2#5⟩ : UnN Reg Reg).cond ∧
    State.reset.holds (⟨.always, .a, 1#4, 2#4⟩ : UnN Pair Pair).cond ∧
    State.reset.holds (⟨.always, .a, 2#5⟩ : Dst Reg).cond ∧
    State.reset.holds (⟨.always, .a, 2#4⟩ : Dst Pair).cond := by decide +kernel

/-- The last byte, halfword, word and doubleword of the address space. -/
theorem test_witness_LoadResults :
    (let o : Mem Reg := ⟨.always, .a, .b, .postInc, 4#5, .cst 31#5, 1#5⟩
     (regs [a 4 0xFFFFFFFF]).holds o.cond ∧ addressMode (regs [a 4 0xFFFFFFFF]) o.unit o.base ≠ 3 ∧
     Accessible (regs [a 4 0xFFFFFFFF]) (dataAddress (regs [a 4 0xFFFFFFFF]) o 0) 1 ∧
     Accessible (regs [a 4 0xFFFFFFFE]) (dataAddress (regs [a 4 0xFFFFFFFE]) o 1) 2 ∧
     Accessible (regs [a 4 0xFFFFFFFC]) (dataAddress (regs [a 4 0xFFFFFFFC]) o 2) 4) ∧
    (let o : Mem Pair := ⟨.always, .a, .b, .preInc, 4#5, .cst 0#5, 1#4⟩
     (regs [a 4 0xFFFFFFF8]).holds o.cond ∧ addressMode (regs [a 4 0xFFFFFFF8]) o.unit o.base ≠ 3 ∧
     Accessible (regs [a 4 0xFFFFFFF8]) (dataAddress (regs [a 4 0xFFFFFFF8]) o 3) 8) ∧
    (let o : MemK := ⟨.always, .a, false, 0x7FFF#15, 1#5⟩
     State.reset.holds o.cond ∧ Accessible State.reset (farAddress State.reset o 2) 4 ∧
     Accessible State.reset (farAddress State.reset o 1) 2 ∧ Accessible State.reset (farAddress State.reset o 0) 1) := by
  refine ⟨⟨?_, ?_, accessible_of ?_, accessible_of ?_, accessible_of ?_⟩, ⟨?_, ?_, accessible_of ?_⟩,
    ?_, accessible_of ?_, accessible_of ?_, accessible_of ?_⟩ <;> decide +kernel

theorem test_witness_StoreResults :
    (let o : Mem Reg := ⟨.always, .a, .b, .postDec, 4#5, .reg 0#5, 1#5⟩
     (regs [a 4 0xFFFFFFFF]).holds o.cond ∧ addressMode (regs [a 4 0xFFFFFFFF]) o.unit o.base ≠ 3 ∧
     Accessible (regs [a 4 0xFFFFFFFF]) (dataAddress (regs [a 4 0xFFFFFFFF]) o 0) 1 ∧
     Accessible (regs [a 4 0xFFFFFFFE]) (dataAddress (regs [a 4 0xFFFFFFFE]) o 1) 2 ∧
     Accessible (regs [a 4 0xFFFFFFFC]) (dataAddress (regs [a 4 0xFFFFFFFC]) o 2) 4 ∧
     Memory.wf (regs [a 4 0xFFFFFFFC]).mem = true ∧ (regs [a 4 0xFFFFFFFC]).stored = []) ∧
    (let o : MemK := ⟨.always, .b, true, 0x7FFF#15, 1#5⟩
     State.reset.holds o.cond ∧ Accessible State.reset (farAddress State.reset o 2) 4 ∧
     Accessible State.reset (farAddress State.reset o 1) 2 ∧ Accessible State.reset (farAddress State.reset o 0) 1 ∧
     Memory.wf State.reset.mem = true ∧ State.reset.stored = []) := by
  refine ⟨⟨?_, ?_, accessible_of ?_, accessible_of ?_, accessible_of ?_, ?_, ?_⟩,
    ?_, accessible_of ?_, accessible_of ?_, accessible_of ?_, ?_, ?_⟩ <;> decide +kernel

/-- Any address, in the reserved AMR mode and in linear mode. -/
theorem test_witness_AccessesComplete :
    (let s := { regs [a 4 0xFFFFFFFF] with amr := 3#26 }
     let o : Mem Reg := ⟨.always, .a, .a, .posOffset, 4#5, .cst 0#5, 1#5⟩
     s.holds o.cond ∧ addressMode s o.unit o.base = 3 ∧ Memory.wf s.mem = true) ∧
    (let s := regs [a 4 0xFFFFFFFF]
     let o : Mem Pair := ⟨.always, .a, .a, .posOffset, 4#5, .cst 0#5, 1#4⟩
     s.holds o.cond ∧ addressMode s o.unit o.base ≠ 3) ∧
    (let s := regs [b 14 0x101]
     let o : MemK := ⟨.always, .a, false, 0#15, 1#5⟩
     s.holds o.cond ∧ Memory.wf s.mem = true) := by decide +kernel

/-- A device with 256 bytes of memory. -/
def small (l : List (RegName × Word)) : State :=
  { regs l with device := { Device.standard with map := [⟨0, 0x100, .memory, .shared⟩] } }

/-- The first address past the memory, an odd one at the top of the address space, and a byte that another bus master
writes. -/
theorem test_witness_UndefinedAccessesAreFree :
    (let s := small [a 4 0x100, b 15 0x100]
     let o : Mem Reg := ⟨.always, .a, .a, .posOffset, 4#5, .cst 0#5, 1#5⟩
     let p : Mem Pair := ⟨.always, .a, .a, .posOffset, 4#5, .cst 0#5, 1#4⟩
     let k : MemK := ⟨.always, .a, true, 0#15, 1#5⟩
     (s.holds o.cond ∧ addressMode s o.unit o.base ≠ 3 ∧ s.holds p.cond ∧ addressMode s p.unit p.base ≠ 3 ∧
       s.holds k.cond ∧ Memory.wf s.mem = true) ∧
     ¬ Proper s (dataAddress s o 0) 1 ∧ ¬ Proper s (dataAddress s o 1) 2 ∧ ¬ Proper s (dataAddress s o 2) 4 ∧
     ¬ Accessible s (dataAddress s p 3) 8 ∧ ¬ Proper s (farAddress s k 0) 1 ∧ ¬ Proper s (farAddress s k 1) 2 ∧
     ¬ Proper s (farAddress s k 2) 4) ∧
    (let s := regs [a 4 0xFFFFFFFF]
     let o : Mem Reg := ⟨.always, .a, .a, .posOffset, 4#5, .cst 0#5, 1#5⟩
     ¬ Proper s (dataAddress s o 1) 2 ∧ ¬ Accessible s (dataAddress s o 2) 4) ∧
    (let s := { State.reset with
       device := { Device.standard with externalWriters := true }, inputs := [⟨false, 0#12, false, [(0x100, 1#8)]⟩] }
     ¬ Accessible s 0x100#32 1) := by
  refine ⟨⟨by decide +kernel, notProper_of ?_, notProper_of ?_, notProper_of ?_, notAccessible_of ?_, notProper_of ?_,
    notProper_of ?_, notProper_of ?_⟩, ⟨notProper_of ?_, notAccessible_of ?_⟩,
    fun h => h.2 0 (by decide) ⟨rfl, _, List.mem_singleton.2 rfl, rfl⟩⟩ <;> decide +kernel

theorem test_witness_BranchTargets :
    State.reset.holds (⟨.always, .a, 0x100000#21⟩ : Disp).cond ∧
    (regs [b 0 1]).holds (⟨.nonzero .b0, true, 4#5⟩ : BranchReg).cond ∧ State.reset.holds (.zero .b1) := by
  decide +kernel

/-- The first and the last readable address. -/
theorem test_witness_ControlRegisterReads :
    let s := { State.reset with amr := 0x3FFFFFF#26, fmcr := ⟨0x7FF#11, 0x7FF#11⟩ }
    s.holds .always ∧ controlValue s (0#5).toNat = some 0x3FFFFFF ∧ controlValue s (20#5).toNat = some 0x7FF07FF := by
  decide +kernel

theorem test_witness_ControlRegisterWrites_open :
    let r : MvcRead := ⟨.always, 3#5, 0#5⟩
    let w : MvcWrite := ⟨.always, false, 0#5, 16#5⟩
    State.reset.holds r.cond ∧ r.creg.toNat ∉ [0, 1, 2, 4, 5, 6, 7, 16, 18, 19, 20] ∧
      (31#5).toNat ∉ [0, 1, 2, 4, 5, 6, 7, 16, 18, 19, 20] ∧ State.reset.holds w.cond ∧
      w.creg.toNat ∉ [0, 1, 2, 3, 4, 5, 6, 7, 18, 19, 20] := by decide +kernel

/-- CSR with PWRD 1Ch and with the reserved 1Dh, and FMCR. -/
theorem test_witness_ControlRegisterWrites :
    (let s := regs [b 1 0x7000]
     let o : MvcWrite := ⟨.always, false, 1#5, 1#5⟩
     s.holds o.cond ∧ o.creg.toNat ∈ [0, 1, 2, 3, 4, 5, 6, 7, 18, 19, 20] ∧ s.device.pwrdSupported = true ∧
     (s.reg ⟨cross .b o.x, o.src2⟩).toNat / 2 ^ 10 % 64 ∈ [0x00, 0x09, 0x11, 0x1A, 0x1C]) ∧
    (let s := regs [b 1 0x7400]
     let o : MvcWrite := ⟨.always, false, 1#5, 1#5⟩
     s.holds o.cond ∧ o.creg.toNat = 1 ∧ s.device.pwrdSupported = true ∧
     (s.reg ⟨cross .b o.x, o.src2⟩).toNat / 2 ^ 10 % 64 ∉ [0x00, 0x09, 0x11, 0x1A, 0x1C]) ∧
    (20#5).toNat ∈ [0, 1, 2, 3, 4, 5, 6, 7, 18, 19, 20] := by decide +kernel

theorem test_witness_FloatSumTiming :
    State.reset.holds (⟨.always, .a, false, 1#5, 2#5, 3#5⟩ : Bin Reg Reg Reg).cond ∧
    State.reset.holds (⟨.always, .b, true, 1#4, 2#4, 15#4⟩ : Bin Pair Pair Pair).cond := by decide +kernel

theorem test_witness_FloatProductTiming :
    State.reset.holds (⟨.always, .a, false, 1#5, 2#5, 3#5⟩ : Bin Reg Reg Reg).cond ∧
    State.reset.holds (⟨.always, .a, false, 1#4, 2#4, 3#4⟩ : Bin Pair Pair Pair).cond ∧
    State.reset.holds (⟨.always, .b, true, 1#5, 2#4, 3#4⟩ : Bin Reg Pair Pair).cond ∧
    State.reset.holds (⟨.always, .b, true, 1#5, 2#5, 3#4⟩ : Bin Reg Reg Pair).cond := by decide +kernel

theorem test_witness_FloatAuxiliaryTiming :
    State.reset.holds (⟨.always, .a, true, 1#5, 2#5⟩ : Un Reg Reg).cond ∧
    State.reset.holds (⟨.always, .a, 1#4, 2#4⟩ : UnN Pair Pair).cond ∧
    State.reset.holds (⟨.always, .a, false, 1#5, 2#5, 3#5⟩ : Bin Reg Reg Reg).cond ∧
    State.reset.holds (⟨.always, .b, true, 1#4, 2#4, 3#5⟩ : Bin Pair Pair Reg).cond := by decide +kernel

theorem test_witness_FloatConversionTiming :
    State.reset.holds (⟨.always, .a, 1#4, 2#5⟩ : UnN Pair Reg).cond ∧
    State.reset.holds (⟨.always, .a, true, 1#5, 2#5⟩ : Un Reg Reg).cond ∧
    State.reset.holds (⟨.always, .a, true, 1#5, 2#4⟩ : Un Reg Pair).cond := by decide +kernel

theorem test_witness_ConditionFalse :
    State.reset.holds (Instr.addL ⟨.nonzero .a1, .a, false, 1#5, 2#5, 3#5⟩).condition = false ∧
    (regs [b 0 0x80000000]).holds (Instr.stw ⟨.zero .b0, .a, .a, .posOffset, 4#5, .cst 0#5, 1#5⟩).condition = false := by
  decide +kernel

theorem test_witness_ConditionField :
    decode 0x81882078#32 = .ok (.addL ⟨.nonzero .a1, .a, false, 1#5, 2#5, 3#5⟩) ∧
    Conditional (.addL ⟨.nonzero .a1, .a, false, 1#5, 2#5, 3#5⟩) :=
  ⟨rfl, ⟨fun _ => Instr.noConfusion, Instr.noConfusion, Instr.noConfusion⟩⟩

/-- An ADD and a store that complete. -/
theorem test_witness_MeaningsOnlyQueue :
    (∃ t, exec (.addL ⟨.always, .a, false, 1#5, 2#5, 3#5⟩) State.reset = .next t) ∧
    (issueOf (.addL ⟨.always, .a, false, 1#5, 2#5, 3#5⟩)).timing ≠ .store ∧
    ∃ t, exec (.stw ⟨.always, .a, .a, .posOffset, 4#5, .cst 0#5, 1#5⟩) State.reset = .next t :=
  ⟨⟨_, rfl⟩, by decide, ⟨_, rfl⟩⟩

/-- ADD .L1 A1,A2,A3 placed at pc. -/
def adding : State := State.reset.withFetchWord 32 0x01882078

/-- MVC to control register 16, placed at pc. -/
def writingPce1 : State := State.reset.withFetchWord 32 0x080003A2

theorem test_witness_StepRunsDecodedInstruction :
    (Fetches adding ∧
      decode (adding.fetchWord adding.pc) = .ok (.addL ⟨.always, .a, false, 1#5, 2#5, 3#5⟩) ∧
      (Instr.addL ⟨.always, .a, false, 1#5, 2#5, 3#5⟩).available adding.device.variant = true ∧
      pBit (adding.fetchWord adding.pc) = false ∧
      packetRefusal adding.history [issueOf (.addL ⟨.always, .a, false, 1#5, 2#5, 3#5⟩)] = none ∧
      ∃ t, exec (.addL ⟨.always, .a, false, 1#5, 2#5, 3#5⟩) adding = .next t) ∧
    (decode (writingPce1.fetchWord writingPce1.pc) = .ok (.mvcWrite ⟨.always, false, 0#5, 16#5⟩) ∧
      exec (.mvcWrite ⟨.always, false, 0#5, 16#5⟩) writingPce1 = .refused .undefinedControlRegister) :=
  ⟨⟨⟨rfl, rfl, rfl, rfl, rfl, rfl⟩, rfl, rfl, rfl, rfl, ⟨_, rfl⟩⟩, ⟨rfl, rfl⟩⟩

/-- The reset state with instruction words from address 0 on. -/
def program (v : Variant) (words : List Nat) : State :=
  { State.reset with
    device := { Device.standard with variant := v }
    mem := writeBytes [] ((List.range (4 * words.length)).zip (words.flatMap fun w => splitBytes w 4)) }

/-- ADD .L1 with MPY .M1, and two ADDs on .L1. -/
theorem test_witness_StepRunsPacket :
    (let s := program .c67x [0x01882079, 0x02082C80]
     let p := [Instr.addL ⟨.always, .a, false, 1#5, 2#5, 3#5⟩, .mpy ⟨.always, .a, false, 1#5, 2#5, 4#5⟩]
     Fetches s ∧ s.packet = .ok p ∧ packetRefusal s.history (p.map issueOf) = none ∧
     ∃ u t, runAll (p.filter fun i => (issueOf i).timing != .store) s = .next u ∧
       runAll (p.filter fun i => (issueOf i).timing == .store) u = .next t) ∧
    (let s := program .c67x [0x01882079, 0x02082078]
     let p := [Instr.addL ⟨.always, .a, false, 1#5, 2#5, 3#5⟩, .addL ⟨.always, .a, false, 1#5, 2#5, 4#5⟩]
     Fetches s ∧ s.packet = .ok p ∧ packetRefusal s.history (p.map issueOf) = some .unitUsedTwice) :=
  ⟨⟨⟨rfl, rfl, rfl, rfl, rfl, rfl⟩, rfl, rfl, _, _, rfl, rfl⟩, ⟨rfl, rfl, rfl, rfl, rfl, rfl⟩, rfl, rfl⟩

/-- A packet of eight NOPs, nine words in a row with p = 1, and p = 1 at the end of a fetch packet. -/
theorem test_witness_ExecutePackets :
    (let s := program .c67x [1, 1, 1, 1, 1, 1, 1, 0]
     let l := List.replicate 8 (Instr.nop 0#3)
     l ≠ [] ∧ l.length ≤ 8 ∧
     (∀ j (h : j < l.length), s.fetchInstr (s.pc + BitVec.ofNat 32 (4 * j)) = .ok (l[j], decide (j + 1 < l.length))) ∧
     ∀ j, j + 1 < l.length → (s.pc.toNat / 4 + j) % 8 ≠ 7) ∧
    (let s := program .c67xPlus [1, 1, 1, 1, 1, 1, 1, 1]
     s.device.variant = .c67xPlus ∧ ∀ j < 8, ∃ i, s.fetchInstr (s.pc + BitVec.ofNat 32 (4 * j)) = .ok (i, true)) ∧
    (let s := program .c67x [1, 1, 1, 1, 1, 1, 1, 1]
     s.device.variant = .c67x ∧ 7 < 8 ∧ (s.pc.toNat / 4 + 7) % 8 = 7 ∧
     ∀ j ≤ 7, ∃ i, s.fetchInstr (s.pc + BitVec.ofNat 32 (4 * j)) = .ok (i, true)) := by
  refine ⟨⟨by decide, by decide, ?_, ?_⟩, ⟨rfl, ?_⟩, rfl, by decide, by decide, ?_⟩
  · intro j h
    have : j < 8 := h
    interval_cases j <;> rfl
  · intro j h
    have : j < 7 := Nat.lt_of_succ_lt_succ h
    interval_cases j <;> decide
  · intro j h
    interval_cases j <;> exact ⟨_, rfl⟩
  · intro j h
    interval_cases j <;> exact ⟨_, rfl⟩

/-- The reset state of a C67x+ with an execute packet at address 0. -/
def packed (p : List Instr) : State :=
  program .c67xPlus (p.zipIdx.map fun c => ((encode (decide (c.2 + 1 < p.length)) c.1).getD 0#32).toNat)

/-- Two ADDs on .L1, both with a false condition, and one alone. -/
theorem test_witness_ConditionFalse_packets :
    (let p := [Instr.addL ⟨.nonzero .a1, .a, false, 1#5, 2#5, 3#5⟩, .addL ⟨.nonzero .a1, .a, false, 1#5, 2#5, 4#5⟩]
     Fetches (packed p) ∧ (packed p).packet = .ok p ∧
     packetRefusal (packed p).history (p.map issueOf) = some .unitUsedTwice) ∧
    (let p := [Instr.addL ⟨.nonzero .a1, .a, false, 1#5, 2#5, 3#5⟩]
     Fetches (packed p) ∧ (packed p).packet = .ok p ∧ ∃ t, step (packed p) = .next t) :=
  ⟨⟨⟨rfl, rfl, rfl, rfl, rfl, rfl⟩, rfl, rfl⟩, ⟨rfl, rfl, rfl, rfl, rfl, rfl⟩, rfl, _, rfl⟩

/-- The second word of a packet has a reserved condition, or is a C67x+ instruction on a C67x; and the eighth has a
reserved addressing mode. -/
theorem test_witness_ExecutePackets_refused :
    (let s := program .c67x [1, 0x11882078]
     Fetches s ∧ (∀ j < 1, (s.pc.toNat / 4 + j) % 8 ≠ 7) ∧
     (∀ j < 1, ∃ i, s.fetchInstr (s.pc + BitVec.ofNat 32 (4 * j)) = .ok (i, true)) ∧
     decode (s.fetchWord (s.pc + BitVec.ofNat 32 (4 * 1))) = .error .reservedCondition ∧
     s.packet = .error .reservedCondition) ∧
    (let s := program .c67x [1, 0x000805B0]
     (∀ j < 1, (s.pc.toNat / 4 + j) % 8 ≠ 7) ∧
     (∀ j < 1, ∃ i, s.fetchInstr (s.pc + BitVec.ofNat 32 (4 * j)) = .ok (i, true)) ∧
     ∃ i, decode (s.fetchWord (s.pc + BitVec.ofNat 32 (4 * 1))) = .ok i ∧ i.available s.device.variant = false) ∧
    (let s := program .c67xPlus [1, 1, 1, 1, 1, 1, 1, 0x00900464]
     s.device.variant = .c67xPlus ∧
     (∀ j < 7, ∃ i, s.fetchInstr (s.pc + BitVec.ofNat 32 (4 * j)) = .ok (i, true)) ∧
     decode (s.fetchWord (s.pc + BitVec.ofNat 32 (4 * 7))) = .error .reservedMode) := by
  refine ⟨⟨⟨rfl, rfl, rfl, rfl, rfl, rfl⟩, ?_, ?_, rfl, rfl⟩, ⟨?_, ?_, _, rfl, rfl⟩, rfl, ?_, rfl⟩ <;> intro j h <;>
    interval_cases j <;> first | decide | exact ⟨_, rfl⟩

/-- A reserved mode; an odd src1 of CMPEQDP, an odd src2 of MPYSPDP, an odd dst of the long ABS and of LDDW; and the bounds
of the register numbers of a C67x, in a register, a pair and an offset field. -/
theorem test_witness_RefusedEncodings :
    ((0x00900464#32).toNat / 4 % 4 = 1 ∧ (0x00900464#32).toNat / 2 ^ 9 % 16 ∈ [2, 3, 6, 7]) ∧
    ((0x00002A20#32).toNat / 4 % 1024 = 0x288 ∧ (0x00002A20#32).getLsbD 13 = true) ∧
    ((0x000405B0#32).toNat / 4 % 1024 = 0x16C ∧ (0x000405B0#32).getLsbD 18 = true) ∧
    ((0x00800718#32).toNat / 4 % 1024 = 0x1C6 ∧ (0x00800718#32).getLsbD 23 = true) ∧
    ((0x00A82364#32).toNat / 4 % 4 = 1 ∧ (0x00A82364#32).getLsbD 8 = true ∧ (0x00A82364#32).getLsbD 23 = true) ∧
    (Instr.addL ⟨.always, .a, false, 15#5, 15#5, 15#5⟩).available .c67x = true ∧
    (Instr.addL ⟨.always, .a, false, 15#5, 15#5, 16#5⟩).available .c67x = false ∧
    (Instr.normLong ⟨.always, .a, 7#4, 15#5⟩).available .c67x = true ∧
    (Instr.normLong ⟨.always, .a, 8#4, 15#5⟩).available .c67x = false ∧
    (Instr.lddw ⟨.always, .a, .b, .preDec, 15#5, .reg 16#5, 7#4⟩).available .c67x = false := by decide

/-- *A4. -/
def atA4 : Mem Reg := ⟨.always, .a, .a, .posOffset, 4#5, .cst 0#5, 1#5⟩

/-- *B4++. -/
def atB4 : Mem Reg := ⟨.always, .b, .b, .postInc, 4#5, .cst 1#5, 1#5⟩

/-- *A4 for a doubleword. -/
def pairAtA4 : Mem Pair := ⟨.always, .a, .a, .posOffset, 4#5, .cst 0#5, 1#4⟩

/-- *+B14[32767]. -/
def farA1 : MemK := ⟨.always, .a, false, 0x7FFF#15, 1#5⟩

/-- A load and a store of the word at 0x100, LDDW *A4 with STB at its last byte, and 15-bit-offset forms. -/
theorem test_witness_LoadBeforeStore :
    (let s := regs [a 4 0x100, b 4 0x100]
     (∃ ws, IsLoad s (.ldw atA4) 0x100#32 4 ws) ∧ (∃ v upd, IsStore s (.stw atB4) 0x100#32 4 v upd) ∧
     s.holds (Instr.ldw atA4).condition = true ∧ s.holds (Instr.stw atB4).condition = true ∧
     Accessible s 0x100#32 4 ∧ Memory.wf s.mem = true ∧ s.stored = []) ∧
    (let s := regs [a 4 0x100, b 4 0x107]
     (∃ ws, IsLoad s (.lddw pairAtA4) 0x100#32 8 ws) ∧ (∃ v upd, IsStore s (.stb atB4) 0x107#32 1 v upd) ∧
     Accessible s 0x100#32 8 ∧ Accessible s 0x107#32 1) ∧
    ((∃ ws, IsLoad State.reset (.ldhK farA1) 0xFFFE#32 2 ws) ∧
     (∃ v upd, IsStore State.reset (.sthK farA1) 0xFFFE#32 2 v upd) ∧ Accessible State.reset 0xFFFE#32 2) := by
  refine ⟨⟨⟨_, .inl ⟨atA4, by decide +kernel, .inr (.inr (.inr (.inr ⟨rfl, by decide +kernel, rfl, rfl⟩)))⟩⟩,
    ⟨_, _, .inl ⟨atB4, by decide +kernel, rfl, .inr (.inr ⟨rfl, by decide +kernel, rfl, rfl⟩)⟩⟩, by decide +kernel,
    by decide +kernel, accessible_of (by decide +kernel), by decide +kernel, rfl⟩,
    ⟨⟨_, .inr (.inl ⟨pairAtA4, by decide +kernel, rfl, by decide +kernel, rfl, rfl⟩)⟩,
      ⟨_, _, .inl ⟨atB4, by decide +kernel, rfl, .inl ⟨rfl, by decide +kernel, rfl, rfl⟩⟩⟩,
      accessible_of (by decide +kernel), accessible_of (by decide +kernel)⟩,
    ⟨_, .inr (.inr ⟨farA1, .inr (.inr (.inl ⟨rfl, by decide +kernel, rfl, rfl⟩))⟩)⟩,
    ⟨_, _, .inr ⟨farA1, rfl, rfl, .inr (.inl ⟨rfl, by decide +kernel, rfl⟩)⟩⟩, accessible_of (by decide +kernel)⟩

/-- A device whose memory other bus masters write: two bytes in this cycle, the later value of one twice. -/
def shared : State :=
  { regs [a 4 0x100] with
    device := { Device.standard with externalWriters := true }
    stored := [0x101]
    inputs := [⟨false, 0#12, false, [(0x100, 1#8), (0x100, 2#8), (0xFFFFFFFF, 3#8)]⟩] }

/-- STW on a word of which one byte is contested, one stored already, two neither. -/
theorem test_witness_ContestedBytes :
    (let o : Mem Reg := ⟨.always, .a, .a, .posOffset, 4#5, .cst 0#5, 1#5⟩
     IsStore shared (.stw o) 0x100#32 4 (shared.reg ⟨.a, 1#5⟩) [] ∧ shared.holds (Instr.stw o).condition = true ∧
     Proper shared 0x100#32 4 ∧ Memory.wf shared.mem = true ∧ Contested shared (byteAddress shared 0x100#32 4 0) ∧
     byteAddress shared 0x100#32 4 1 ∈ shared.stored ∧ byteAddress shared 0x100#32 4 2 ∉ shared.stored ∧
     ¬ Contested shared (byteAddress shared 0x100#32 4 2)) ∧
    State.reset.device.externalWriters = false ∧ shared.device.externalWriters = true ∧
    (∀ c ∈ shared.input.external, c.1 ≠ 0x102) ∧ 0x100 ∉ shared.stored ∧
    (shared.input.external.filter fun c => c.1 == 0x100).getLast? = some (0x100, 2#8) ∧ 0x101 ∈ shared.stored ∧
    ((0xFFFFFFFF, 3#8) : Host.Cell) ∈ shared.input.external := by
  refine ⟨⟨.inl ⟨_, by decide +kernel, rfl, .inr (.inr ⟨rfl, by decide +kernel, rfl, rfl⟩)⟩, by decide +kernel,
    proper_of (by decide +kernel), rfl, ⟨rfl, _, List.mem_cons_self, rfl⟩, by decide +kernel, by decide +kernel, ?_⟩,
    rfl, rfl, by decide +kernel, by decide +kernel, by decide +kernel, by decide +kernel, by decide +kernel⟩
  unfold Contested
  decide +kernel

/-- A store that changes a byte; a misaligned one at the last byte of the address space; a step from a state with changed
code; unknown bytes of three kinds and known ones of two. -/
theorem test_witness_UnknownCode :
    (let s := regs [a 4 0x100, a 1 5]
     ∃ t, exec (.stb ⟨.always, .a, .a, .posOffset, 4#5, .cst 0#5, 1#5⟩) s = .next t ∧ Memory.wf s.mem = true ∧
       readByte t.mem 0x100 ≠ readByte s.mem 0x100 ∧ SharedByte s 0x100) ∧
    (let s := regs [a 4 0xFFFFFFFF]
     let i : Instr := .sth ⟨.always, .a, .a, .posOffset, 4#5, .cst 0#5, 1#5⟩
     IsStore s i 0xFFFFFFFF#32 2 (s.reg ⟨.a, 1#5⟩) [] ∧ s.holds i.condition = true ∧ (∃ t, exec i s = .next t) ∧
       SharedByte s (containerByte 0xFFFFFFFF#32 2 0)) ∧
    (let s := { State.reset.withFetchWord 32 0 with codeStores := [0x200] }
     0x200 ∈ s.codeStores ∧ ∃ t, step s = .next t) ∧
    ¬ InCode (small []) 0xFFFFFFFF ∧ Contested shared 0xFFFFFFFF ∧
    ((0xFF ∉ (small []).codeStores ∧ InCode (small []) 0xFF) ∧ ¬ Contested (small []) 0xFF ∧
      SharedByte (small []) 0xFF) ∧
    (let s := { State.reset with device := { Device.standard with map := [⟨0, 0x100, .memory, .fetch⟩] } }
     0x80 ∉ s.codeStores ∧ InCode s 0x80 ∧ ¬ SharedByte s 0x80) := by
  refine ⟨⟨_, rfl, rfl, by decide +kernel, _, rfl, rfl⟩,
    ⟨.inl ⟨_, by decide +kernel, rfl, .inr (.inl ⟨rfl, by decide +kernel, rfl, rfl⟩)⟩, by decide +kernel, ⟨_, rfl⟩, _, rfl, rfl⟩,
    ⟨by decide +kernel, _, rfl⟩, ?_, ⟨rfl, (0xFFFFFFFF, 3#8), by decide +kernel, rfl⟩,
    ⟨⟨by decide +kernel, _, rfl, rfl⟩, fun h => ?_, _, rfl, rfl⟩, by decide +kernel, ⟨_, rfl, rfl⟩, ?_⟩
  · rintro ⟨r, h, _⟩
    exact nomatch h
  · exact absurd h.1 (by decide)
  · rintro ⟨r, h, k⟩
    cases h
    exact nomatch k

theorem test_witness_UnitUsedTwice :
    let s := program .c67x [0x01882079, 0x02082078]
    let p := [Instr.addL ⟨.always, .a, false, 1#5, 2#5, 3#5⟩, .addL ⟨.always, .a, false, 1#5, 2#5, 4#5⟩]
    Fetches s ∧ s.packet = .ok p ∧ (issueOf p[0]).unit = some ⟨.l, .a⟩ ∧ (issueOf p[1]).unit = some ⟨.l, .a⟩ :=
  ⟨⟨rfl, rfl, rfl, rfl, rfl, rfl⟩, rfl, rfl, rfl⟩

/-- MPYDP issued three cycles before, the last of its four, and MPY on the same unit now. -/
theorem test_witness_UnitLocked :
    let h := issueOf (.mpydp ⟨.always, .a, false, 0#4, 1#4, 2#4⟩)
    let s := { program .c67x [0x02082C80] with history := [[], [], [h]] }
    let i := Instr.mpy ⟨.always, .a, false, 1#5, 2#5, 4#5⟩
    Fetches s ∧ s.packet = .ok [i] ∧ s.history[2]? = some [h] ∧ h ∈ [h] ∧ h.unit = some ⟨.m, .a⟩ ∧
      2 + 1 < lockCycles h.timing ∧ i ∈ [i] ∧ (issueOf i).unit = some ⟨.m, .a⟩ :=
  ⟨⟨rfl, rfl, rfl, rfl, rfl, rfl⟩, rfl, rfl, by simp, rfl, by decide, by simp, rfl⟩

/-- Two cross-path reads, two data registers on side A, two long sources; a store beside a long source. -/
theorem test_witness_ResourceRefusals :
    (let p := [Instr.addL ⟨.always, .a, true, 1#5, 2#5, 3#5⟩, .addS ⟨.always, .a, true, 1#5, 2#5, 4#5⟩]
     Fetches (packed p) ∧ (packed p).packet = .ok p ∧ (issueOf p[0]).unit = some ⟨.l, .a⟩ ∧
     (issueOf p[1]).unit = some ⟨.s, .a⟩ ∧ (issueOf p[0]).cross = true ∧ (issueOf p[1]).cross = true) ∧
    (let p := [Instr.ldw ⟨.always, .a, .a, .posOffset, 4#5, .cst 0#5, 1#5⟩,
       .ldw ⟨.always, .b, .a, .posOffset, 4#5, .cst 0#5, 2#5⟩]
     (packed p).packet = .ok p ∧ (issueOf p[0]).tPath = some .a ∧ (issueOf p[1]).tPath = some .a) ∧
    (let p := [Instr.addLLong ⟨.always, .a, false, 1#5, 2#4, 3#4⟩, .shlLong ⟨.always, .a, 1#5, 2#4, 4#4⟩]
     (packed p).packet = .ok p ∧ (issueOf p[0]).longRead = true ∧ (issueOf p[1]).longRead = true ∧
     (issueOf p[0]).longWrite = true ∧ (issueOf p[1]).longWrite = true) ∧
    (let p := [Instr.shlLong ⟨.always, .a, 1#5, 2#4, 4#4⟩, .stw ⟨.always, .b, .a, .posOffset, 4#5, .cst 0#5, 1#5⟩]
     (packed p).packet = .ok p ∧ (issueOf p[0]).unit = some ⟨.s, .a⟩ ∧ (issueOf p[0]).longRead = true ∧
     (issueOf p[1]).timing = .store ∧ (issueOf p[1]).tPath = some .a) :=
  ⟨⟨⟨rfl, rfl, rfl, rfl, rfl, rfl⟩, rfl, rfl, rfl, rfl, rfl⟩, ⟨rfl, rfl, rfl⟩, ⟨rfl, rfl, rfl, rfl, rfl⟩,
    rfl, rfl, rfl, rfl, rfl⟩

/-- ADDDP A1:A0,A1:A0 with CMPEQDP A1:A0,A1:A0 and MPYI A1,A1: six reads of A1 in the next cycle. -/
def readingLater : List Instr :=
  [.adddpL ⟨.always, .a, false, 0#4, 0#4, 1#4⟩, .cmpeqdp ⟨.always, .a, false, 0#4, 0#4, 4#5⟩,
    .mpyi ⟨.always, .a, false, 1#5, 1#5, 5#5⟩]

/-- The packet does not issue, whatever comes after it; without CMPEQDP it does. -/
theorem test_reads_ahead :
    packetRefusal [] (readingLater.map issueOf) = some .registerReads ∧
    packetRefusal [] ((readingLater.eraseIdx 1).map issueOf) = none := by decide +kernel

/-- A state in which nothing is in flight, and which steps. -/
theorem test_witness_ResourceRefusals_reads :
    (∀ k r, readsOf (small []) [] k r ≤ 4) ∧ ∃ t, step (small []) = .next t := by
  refine ⟨fun k r => ?_, _, rfl⟩
  exact (by decide : 0 ≤ 4)

/-- A cross path in its last held cycle, LDDW four cycles before a long result, MPYSP four cycles after MPYDP, six reads
of A1, and six in the next cycle. -/
theorem test_witness_ResourceRefusals_history :
    (let h := issueOf (.mpydp ⟨.always, .a, true, 0#4, 1#4, 2#4⟩)
     let p := [Instr.addL ⟨.always, .a, true, 1#5, 2#5, 3#5⟩]
     let s := { packed p with history := [[], [], [h]] }
     Fetches s ∧ s.packet = .ok p ∧ s.history[2]? = some [h] ∧ h ∈ [h] ∧ h.unit = some ⟨.m, .a⟩ ∧ h.cross = true ∧
     (issueOf p[0]).cross = true ∧ 2 + 1 < crossHeld h.timing) ∧
    (let h := issueOf (.lddw ⟨.always, .b, .a, .posOffset, 4#5, .cst 0#5, 1#4⟩)
     let p := [Instr.shlLong ⟨.always, .a, 1#5, 2#4, 4#4⟩]
     let s := { packed p with history := [[], [], [], [h]] }
     s.packet = .ok p ∧ s.history[3]? = some [h] ∧ h.doubleword = true ∧ (issueOf p[0]).longWrite = true ∧
     h.tPath = some .a ∧ (issueOf p[0]).unit = some ⟨.s, .a⟩) ∧
    (let h := issueOf (.mpydp ⟨.always, .a, false, 0#4, 1#4, 2#4⟩)
     let p := [Instr.mpysp ⟨.always, .a, false, 1#5, 2#5, 3#5⟩]
     let s := { packed p with history := [[], [], [], [h]] }
     s.packet = .ok p ∧ s.history[3]? = some [h] ∧ h.unit = some ⟨.m, .a⟩ ∧ (issueOf p[0]).unit = some ⟨.m, .a⟩ ∧
     3 + 1 ∈ cannotFollow h.timing (issueOf p[0]).timing) ∧
    (let p := [Instr.addL ⟨.always, .a, false, 1#5, 1#5, 3#5⟩, .addS ⟨.always, .a, false, 1#5, 1#5, 4#5⟩,
       .addD ⟨.always, .a, 1#5, 1#5, 5#5⟩]
     (packed p).packet = .ok p ∧ 4 < readsOf (packed p) p 0 ⟨.a, 1#5⟩) ∧
    (packed readingLater).packet = .ok readingLater ∧ 4 < readsOf (packed readingLater) readingLater 1 ⟨.a, 1#5⟩ :=
  ⟨⟨⟨rfl, rfl, rfl, rfl, rfl, rfl⟩, rfl, rfl, by simp, rfl, rfl, rfl, by decide⟩, ⟨rfl, rfl, rfl, rfl, rfl, rfl⟩,
    ⟨rfl, rfl, rfl, rfl, by decide⟩, ⟨rfl, by decide +kernel⟩, rfl, by decide +kernel⟩

/-- One write due on A3, two on A6, one on A4 later, and two that still watch sources, A3 disturbed and A5 not; none due on
A5. -/
theorem test_witness_RegistersLand :
    let w : PendingWrite := ⟨⟨.a, 3#5⟩, 7#32, 0, [], 0⟩
    let v : PendingWrite := ⟨⟨.a, 4#5⟩, 9#32, 1, [], 0⟩
    let x : PendingWrite := ⟨⟨.a, 6#5⟩, 1#32, 0, [], 0⟩
    let c : PendingWrite := ⟨⟨.b, 0#5⟩, 5#32, 8, [⟨.a, 3#5⟩], 3⟩
    let d : PendingWrite := ⟨⟨.b, 1#5⟩, 5#32, 8, [⟨.a, 5#5⟩], 3⟩
    let s := { State.reset with writes := [w, v, x, x, c, d] }
    (∀ w ∈ s.writes, w.left = 0 → w.reg ≠ ⟨.a, 5#5⟩) ∧ w ∈ s.writes ∧ w.left = 0 ∧ w.reg = ⟨.a, 3#5⟩ ∧
      (s.writes.filter fun v => v.left == 0 && v.reg == ⟨.a, 3#5⟩).length = 1 ∧
      1 < (s.writes.filter fun v => v.left == 0 && v.reg == ⟨.a, 6#5⟩).length ∧ v ∈ s.writes ∧ v.left = 0 + 1 ∧
      v.watchLeft = 0 ∧ c ∈ s.writes ∧ c.left = 7 + 1 ∧ 0 < c.watchLeft ∧ (∃ r ∈ c.watch, Due s r) ∧ d ∈ s.writes ∧
      (∀ r ∈ d.watch, ¬ Due s r) := by
  unfold Due
  decide +kernel

theorem test_witness_StatusBitsLand :
    (let s := { State.reset with sats := [⟨0, true⟩] }
     ∃ p ∈ s.sats, p.left = 0 ∧ p.value = true) ∧
    (let s := { State.reset with sats := [⟨1, true⟩], sat := true, controls := [.write 1#5 0#32] }
     (∀ p ∈ s.sats, p.left ≠ 0) ∧ s.controls = [.write 1#5 0#32] ∧ (0#32).getLsbD 9 = false) ∧
    (let s := { State.reset with sat := true, controls := [.write 1#5 0x200#32] }
     (∀ p ∈ s.sats, p.left ≠ 0) ∧ s.controls = [.write 1#5 0x200#32] ∧ (s.endCycle [] 0#32).sat = true) ∧
    (let s := { State.reset with sats := [⟨1, true⟩] }
     (∀ p ∈ s.sats, p.left ≠ 0) ∧ s.controls = [] ∧ 10 < 11) ∧
    (let s := { State.reset with controls := [.write 20#5 0x07FF07FF#32] }
     s.controls = [.write (configAddress .fmcr) 0x07FF07FF#32]) := by decide +kernel

/-- A SAT set two cycles off, and warning bits one cycle off: without sources to watch, with an undisturbed one, and with
one that is written in the cycle. -/
theorem test_witness_StatusBitsLand_ageing :
    let w : PendingWarn := ⟨1, .fmcr, .b, 5#11, 0x1FF#11, [], 0⟩
    let u : PendingWarn := ⟨1, .fadcr, .a, 1#11, 0x1FF#11, [⟨.a, 5#5⟩], 2⟩
    let d : PendingWarn := ⟨8, .faucr, .a, 1#11, 0x21F#11, [⟨.a, 3#5⟩], 1⟩
    let s := { State.reset with
      sats := [⟨2, true⟩], warns := [w, u, d], writes := [⟨⟨.a, 3#5⟩, 7#32, 0, [], 0⟩] }
    (⟨1, true⟩ : PendingSat) ∈ (s.endCycle [] 0#32).sats ∧
    w ∈ s.warns ∧ w.left = 0 + 1 ∧ w.watchLeft = 0 ∧ u ∈ s.warns ∧ (∀ r ∈ u.watch, ¬ Due s r) ∧
    d ∈ s.warns ∧ d.left = 7 + 1 ∧ 0 < d.watchLeft ∧ ∃ r ∈ d.watch, Due s r := by
  unfold Due
  decide +kernel

theorem test_witness_InterruptFlags :
    { State.reset with controls := [.write 2#5 0xFFF0#32] }.controls = [.write 2#5 0xFFF0#32] ∧
    { State.reset with controls := [.write 3#5 0x8000#32] }.controls = [.write 3#5 0x8000#32] ∧
    (∀ v, .write 2#5 v ∉ ({ State.reset with controls := [.write 3#5 1#32] } : State).controls) ∧
    (∀ v, .write 3#5 v ∉ ({ State.reset with controls := [.write 2#5 1#32, .setNmie] } : State).controls) := by
  refine ⟨rfl, rfl, ?_, ?_⟩ <;> simp

/-- Two words that differ in AMR's reserved bits only. -/
theorem test_witness_ReservedControlBits :
    let s := { State.reset with amr := 0x3FFFFFF#26 }
    let o : MvcRead := ⟨.always, 0#5, 1#5⟩
    controlValue s o.creg.toNat = some 0x3FFFFFF ∧ s.holds o.cond = true ∧
      (0xFFFFFFFF#32 ^^^ 0x03FFFFFF#32) &&& ~~~reservedForWrite (0#5).toNat = 0#32 := by decide +kernel

/-- One write in the cycle, to each register of the statement. -/
theorem test_witness_ControlWritesLand :
    (∀ x ∈ [0#5, 1#5, 4#5, 5#5, 6#5, 7#5],
      { State.reset with controls := [.write x 0xFFFFFFFF#32] }.controls = [.write x 0xFFFFFFFF#32]) ∧
    (let s := { State.reset with controls := [.write 18#5 0xFFFFFFFF#32], warns := [⟨0, .fadcr, .a, 1#11, 1#11, [], 0⟩] }
     s.controls = [.write (configAddress .fadcr) 0xFFFFFFFF#32] ∧ dueBits s .fadcr .a = 1#11) ∧
    State.reset.controls = [] ∧ { State.reset with controls := [.restoreGie] }.controls = [.restoreGie] ∧
    { State.reset with controls := [.setNmie] }.controls = [.setNmie] ∧
    (let s := { State.reset with controls := [.write 1#5 0x7400#32, .enterPower (some .pd2)] }
     entersMode s 0x7400#32 = none ∧ s.controls = [.write 1#5 0x7400#32, .enterPower (some .pd2)]) := by
  decide +kernel

theorem test_witness_NmieRule :
    State.reset.controls = [] ∧
    { State.reset with controls := [.write 4#5 2#32] }.controls = [.write 4#5 2#32] ∧ 0#5 ≠ 4#5 ∧
    { State.reset with controls := [.write 0#5 2#32] }.controls = [.write 0#5 2#32] ∧
    { State.reset with controls := [.setNmie] }.controls = [.setNmie] ∧
    { State.reset with controls := [.restoreGie] }.controls = [.restoreGie] ∧
    { State.reset with controls := [.write 1#5 0#32, .enterPower none] }.controls =
      [.write 1#5 0#32, .enterPower none] ∧
    4 ≠ 1 ∧ State.reset.holds .always = true ∧ State.reset.nmie = false := by decide +kernel

/-- NMI, and INT15 alone. -/
theorem test_witness_InterruptConditions :
    (let s := { State.reset with nmif := true, nmie := true }
     s.input.reset = false ∧ s.emptyLeft = 0 ∧ s.interruptToTake = some 1) ∧
    (let s := { State.reset with gie := true, nmie := true, ie := 0x800#12, ifl := 0x800#12 }
     s.input.reset = false ∧ s.emptyLeft = 0 ∧ s.interruptToTake = some 15) := by decide +kernel

theorem test_witness_InterruptEntry :
    (let s := { State.reset with nmif := true, nmie := true }
     s.emptyLeft = 0 ∧ s.interruptToTake = some 1 ∧ s.branches = [] ∧ s.controls = [] ∧
     ∀ c ∈ s.inputs.take 7, c.reset = false) ∧
    (let s := { State.reset with
       gie := true, nmie := true, ie := 0x800#12, ifl := 0x800#12, inputs := [⟨true, 0xFFF#12, false, []⟩] }
     s.emptyLeft = 0 ∧ s.interruptToTake = some 15 ∧ s.branches = [] ∧ s.controls = [] ∧
     ∀ c ∈ s.inputs.take 7, c.reset = false) := by decide +kernel

theorem test_witness_WaitingCycles :
    (let s := { State.reset with nopLeft := 8 }
     Waits s ∧ s.nopLeft = 7 + 1 ∧ s.controls = [] ∧ NoBranchLands s) ∧
    (let s := { State.reset with nopLeft := 1, branches := [⟨0xFFFFFFFC#32, 0⟩] }
     Waits s ∧ s.nopLeft = 0 + 1 ∧ s.controls = [] ∧ BranchLands s 0xFFFFFFFC#32) ∧
    (let s := { State.reset with idle := true }
     Waits s ∧ s.nopLeft = 0 ∧ s.idle = true ∧ s.controls = [] ∧ NoBranchLands s) ∧
    (let s := { State.reset with idle := true, branches := [⟨0x40#32, 0⟩] }
     Waits s ∧ s.nopLeft = 0 ∧ s.idle = true ∧ s.controls = [] ∧ BranchLands s 0x40#32) := by
  unfold Waits NoBranchLands BranchLands
  decide +kernel

theorem test_witness_BranchLanding :
    (let s := { State.reset with branches := [⟨0x40#32, 0⟩, ⟨0x80#32, 5⟩] }
     (⟨0x80#32, 5⟩ : PendingBranch) ∈ s.branches ∧ BranchLands s 0x40#32 ∧ ¬ NoBranchLands s) ∧
    NoBranchLands { State.reset with branches := [⟨0x80#32, 1⟩] } := by
  unfold BranchLands NoBranchLands
  decide +kernel

/-- What a taken branch leaves in a cycle's record. -/
def branchIssue : Issue := issueOf (.bDisp ⟨.always, .a, 0#21⟩)

/-- A branch issued in the last cycle, and one that lands now. -/
theorem test_witness_StepKeepsBranchesRecorded :
    let s := { State.reset.withFetchWord 32 0 with
      branches := [⟨0x80#32, 4⟩, ⟨0x40#32, 0⟩], history := [[branchIssue], [], [], [], [branchIssue]] }
    BranchesRecorded s ∧ ∃ t, step s = .next t := by
  refine ⟨?_, ⟨_, rfl⟩⟩
  intro x hx
  rcases List.mem_cons.1 hx with rfl | hx
  · exact .inr ⟨by decide, _, rfl, branchIssue, by simp, rfl⟩
  · rcases List.mem_singleton.1 hx with rfl
    exact .inr ⟨by decide, _, rfl, branchIssue, by simp, rfl⟩

theorem test_witness_NoInterruptWhileBranchPending :
    let s := { State.reset with nmif := true, nmie := true }
    BranchesRecorded s ∧ s.emptyLeft = 0 ∧ s.interruptToTake = some 1 :=
  ⟨(fun _ h => nomatch h), rfl, rfl⟩

/-- PWRD 1Ch on a device with power-down and on one without, and a PD1 state that an interrupt input wakes. -/
theorem test_witness_PowerDown :
    (let s := { State.reset with controls := [.write 1#5 0x7000#32] }
     s.controls = [.write 1#5 0x7000#32] ∧ (0x7000#32).toNat / 2 ^ 10 % 64 = 28 ∧ s.device.pwrdSupported = true ∧
     ((28, PowerMode.pd3) : Nat × PowerMode) ∈ [(9, .pd1Enabled), (17, .pd1Any), (26, .pd2), (28, .pd3)]) ∧
    (let s := { State.reset with
       controls := [.write 1#5 0x2400#32], device := { Device.standard with pwrdSupported := false } }
     s.controls = [.write 1#5 0x2400#32] ∧ s.device.pwrdSupported = false ∧ s.powerDown = none) ∧
    (let s := { State.reset with powerDown := some .pd1Any, inputs := [⟨false, 0x800#12, false, []⟩] }
     s.powerDown = some .pd1Any ∧ s.input.reset = false ∧ s.emptyLeft = 0 ∧ s.controls = [] ∧
     s.interruptToTake = none ∧ NoBranchLands s ∧ stepped s (fun t => t.powerDown.isNone)) ∧
    { State.reset with powerDown := some .pd2 }.powerDown = some .pd2 := by
  unfold NoBranchLands
  decide +kernel

/-- PWRD stays 11h after the wake, or becomes 0 on a device that clears it (92_eei_decisions.md O4). -/
theorem test_step_wake (c : Bool) :
    stepped { State.reset with
      powerDown := some .pd1Any, pwrd := 17#6, inputs := [⟨false, 1#12, false, []⟩]
      device := { Device.standard with pwrdClearedOnWake := c } } fun t =>
      t.powerDown.isNone && t.pwrd == if c then 0#6 else 17#6 := by cases c <;> decide +kernel

theorem test_witness_ResetInput : { State.reset with inputs := [⟨true, 0xFFF#12, true, []⟩] }.input.reset = true := by
  decide +kernel

/-- A run's state with a write, a branch and a NOP under way. -/
theorem test_witness_StepKeepsInvariant :
    let s := { State.reset with
      mem := [(0x100, 1#8)], writes := [⟨⟨.a, 3#5⟩, 7#32, 8, [], 0⟩], branches := [⟨0x40#32, 5⟩], nopLeft := 8 }
    s.Inv ∧ ∃ t, step s = .next t := by
  refine ⟨⟨?_, ?_, ?_, ?_, ?_, ?_, ?_, ?_, ?_, ?_, ?_, ?_⟩, ⟨_, rfl⟩⟩ <;> decide +kernel

theorem test_witness_DecodeEncode :
    encode false (.addL ⟨.always, .a, false, 1#5, 2#5, 3#5⟩) = some 0x01882078#32 ∧
    encode true (.ldwK ⟨.zero .a2, .b, true, 0x7FFF#15, 31#5⟩) = some 0xBFFFFFEF#32 := by decide +kernel

theorem test_witness_FloatOperandClasses :
    single ∈ [single, double] ∧ (Finite (.denormal true) ∧ Finite (.normal false 1 0) ∧ flushed (.denormal true) = .zero true) ∧ IsNan (.nan true false) ∧ (0 < 1 ∧ 0 < 1 ∧
      signed true 1 0 + signed false 1 0 = 0 ∧ signed true 1 0 + signed false 3 (-1) ≠ 0) := by
  refine ⟨by simp, ⟨⟨?_, ?_⟩, ⟨?_, ?_⟩, rfl⟩, ⟨_, _, rfl⟩, by simp, by simp, ?_, ?_⟩ <;> first | (rintro ⟨n, q, h⟩; exact nomatch h) | (intro n h; exact nomatch h) | norm_num [signed, pow2]

theorem test_witness_FloatRounding : double ∈ [single, double] ∧ 0 < 1 := by simp

theorem test_witness_FloatLaws :
    ¬ IsNan (.zero true) ∧ ¬ IsNan (.inf false) ∧ IsNan (.nan false true) ∧
    addFp single ⟨0#2, .toEven, .afterRounding, true⟩ (.zero true) (.inf false) ∈
      [addFp single ⟨0#2, .toEven, .afterRounding, true⟩ (.zero true) (.inf false),
       subFp single ⟨0#2, .toEven, .afterRounding, true⟩ (.zero true) (.inf false),
       mulFp single ⟨0#2, .toEven, .afterRounding, true⟩ (.zero true) (.inf false)] := by
  refine ⟨?_, ?_, ⟨_, _, rfl⟩, by simp⟩ <;> rintro ⟨n, q, h⟩ <;> exact nomatch h

/-- The bounds of the integer ranges, the smallest normal number, and an infinity. -/
theorem test_witness_ConversionLaws :
    (-2 ^ 31 : Int) ≤ -2 ^ 31 ∧ (-2 ^ 31 : Int) < 2 ^ 31 ∧ (-2 ^ 24 : Int) ≤ 2 ^ 24 ∧ (2 ^ 24 : Int) ≤ 2 ^ 24 ∧
    ((0x00800000#32).toNat / 2 ^ 23 % 256 ≠ 0 ∨ (0x00800000#32).toNat % 2 ^ 23 = 0) ∧
    (0x00800000#32).toNat / 2 ^ 23 % 256 ≠ 255 ∧ (0xFF800000#32).toNat % 2 ^ 31 = 0x7F800000 := by
  decide +kernel

/-- 1.0, and the largest single-precision number, whose reciprocal underflows. -/
theorem test_witness_SingleSourceValues :
    (unpack single 0x3F800000 = .normal false (2 ^ 23) (-23) ∧
      ((2 ^ 23 : Nat) : ℚ) * pow2 (-23) ≤ pow2 (maxExp single - 1)) ∧
    (unpack single 0x7F7FFFFF = .normal false (2 ^ 24 - 1) 104 ∧
      pow2 (maxExp single - 1) < ((2 ^ 24 - 1 : Nat) : ℚ) * pow2 104) := by
  have e : maxExp single - 1 = ((126 : Nat) : Int) := rfl
  refine ⟨⟨by decide +kernel, ?_⟩, by decide +kernel, ?_⟩
  · rw [e, pow2, pow2, zpow_natCast]
    norm_num [zpow_neg]
  · rw [e, pow2, pow2, zpow_natCast]
    norm_num

/-- The largest fields of a normal number, and a zero. -/
theorem test_witness_SingleSourceValues_fields :
    254 < 2 ^ single.expBits - 1 ∧ 2 ^ 23 - 1 < 2 ^ single.fracBits ∧ (254 = 0 → 2 ^ 23 - 1 = 0) ∧ (0 = 0 → 0 = 0) := by
  decide +kernel

/-- The bounds of the fields of a normal single-precision number, and of the integers. -/
theorem test_witness_ConversionValues :
    double ∈ [single, double] ∧ 0 < 2 ^ 53 - 1 ∧ (0 : Int) = 0 ∧ (-2 ^ 31 : Int) ≠ 0 ∧ 1 ≤ 1 ∧ 254 ≤ 254 ∧
    2 ^ 23 - 1 < 2 ^ 23 := by simp

end Sys2Proof.Tests
end

section
/-! What a cycle may add to a state before it ends, said once for every instruction (`State.Issues`,
40_execution_model.md R171, R173), and from it the invariant of Safety.lean: every step keeps it.

Asynchronous elaboration is off, as in Tests/Slice0.lean, here and in the sections below: a thread for each proof would
take more memory than the check allows. -/

set_option Elab.async false

namespace Sys2Proof.Machine

/-! What an instruction queues. -/

/-- `t` is `s` grown by an instruction's effects: what is new is due within the longest latency of its kind
(40_execution_model.md R173), and memory and the record of changed code keep their form. -/
structure State.Issues (s t : State) : Prop where
  grows : s.Grows t
  memory : Memory.wf s.mem = true → Memory.wf t.mem = true
  changedCode : risingAddresses s.codeStores = true → risingAddresses t.codeStores = true
  writes : ∀ w ∈ t.writes, w ∈ s.writes ∨ w.left ≤ 9
  sats : ∀ p ∈ t.sats, p ∈ s.sats ∨ p.left ≤ 2
  warns : ∀ w ∈ t.warns, w ∈ s.warns ∨ w.left ≤ 9
  branches : ∀ b ∈ t.branches, b ∈ s.branches ∨ b.left ≤ 5
  nop : t.nopLeft ≤ max s.nopLeft 8

theorem State.Issues.refl (s : State) : s.Issues s where
  grows := .refl s
  memory := id
  changedCode := id
  writes := fun _ => Or.inl
  sats := fun _ => Or.inl
  warns := fun _ => Or.inl
  branches := fun _ => Or.inl
  nop := Nat.le_max_left ..

theorem State.Issues.trans {s t u : State} (h : s.Issues t) (k : t.Issues u) : s.Issues u where
  grows := h.grows.trans k.grows
  memory := k.memory ∘ h.memory
  changedCode := k.changedCode ∘ h.changedCode
  writes := fun w hw => (k.writes w hw).elim (h.writes w) Or.inr
  sats := fun p hp => (k.sats p hp).elim (h.sats p) Or.inr
  warns := fun w hw => (k.warns w hw).elim (h.warns w) Or.inr
  branches := fun b hb => (k.branches b hb).elim (h.branches b) Or.inr
  nop := by have := h.nop; have := k.nop; omega

/-- An update of the counter, the idle state or the queue of control effects issues nothing that has a latency. -/
theorem State.Issues.of_queues {s t : State} (hg : s.Grows t) (hm : t.mem = s.mem) (hc : t.codeStores = s.codeStores)
    (hw : t.writes = s.writes) (hs : t.sats = s.sats) (hn : t.warns = s.warns) (hb : t.branches = s.branches)
    (hl : t.nopLeft = s.nopLeft) : s.Issues t := by
  constructor <;> simp_all

theorem State.draw_issues (s : State) : s.Issues s.draw :=
  .of_queues s.draw_grows rfl rfl rfl rfl rfl rfl rfl

theorem State.drawFor_issues (s : State) (v : Option Word) : s.Issues (s.drawFor v) := by
  unfold State.drawFor; split
  · exact .refl s
  · exact s.draw_issues

theorem State.putControl_issues (s : State) (e : ControlEffect) : s.Issues (s.putControl e) :=
  .of_queues (s.putControl_grows e) rfl rfl rfl rfl rfl rfl rfl

theorem State.idle_issues (s : State) : s.Issues { s with idle := true } :=
  .of_queues (by constructor <;> simp) rfl rfl rfl rfl rfl rfl rfl

theorem State.putWatched_issues (s : State) (r : RegName) {left : Nat} (v : Word) (watch : List RegName) (n : Nat)
    (hl : left ≤ 9) : s.Issues (s.putWatched r left v watch n) where
  grows := s.putWatched_grows ..
  memory := id
  changedCode := id
  writes := fun w hw => (List.mem_append.1 hw).imp_right fun h => by rw [List.mem_singleton.1 h]; exact hl
  sats := fun _ => Or.inl
  warns := fun _ => Or.inl
  branches := fun _ => Or.inl
  nop := Nat.le_max_left ..

theorem State.putWord_issues (s : State) (side : Side) (dst : Reg) {left : Nat} (v : Word) (hl : left ≤ 9) :
    s.Issues (s.putWord side dst left v) :=
  s.putWatched_issues ⟨side, dst⟩ v [] 0 hl

theorem State.putLong_issues (s : State) (side : Side) (p : Pair) (v : Long) : s.Issues (s.putLong side p v) :=
  (s.putWord_issues _ _ _ (Nat.zero_le 9)).trans (State.putWord_issues _ _ _ _ (Nat.zero_le 9))

theorem State.putDouble_issues (s : State) (side : Side) (p : Pair) {left : Nat} (v : Double) (watch : List RegName)
    (n : Nat) (hl : left ≤ 8) : s.Issues (s.putDouble side p left v watch n) :=
  (s.putWatched_issues _ _ _ _ (by omega)).trans (State.putWatched_issues _ _ _ _ _ (by omega))

theorem State.putSat_issues (s : State) {left : Nat} (v : Bool) (hl : left ≤ 1) : s.Issues (s.putSat left v) where
  grows := s.putSat_grows left v
  memory := id
  changedCode := id
  writes := fun _ => Or.inl
  sats := fun p hp => (List.mem_append.1 hp).imp_right fun h => by rw [List.mem_singleton.1 h]; exact Nat.succ_le_succ hl
  warns := fun _ => Or.inl
  branches := fun _ => Or.inl
  nop := Nat.le_max_left ..

theorem State.noteOverflow_issues (s : State) {left : Nat} (c : Bool) (hl : left ≤ 1) :
    s.Issues (s.noteOverflow left c) := by
  unfold State.noteOverflow; split
  · exact s.putSat_issues true hl
  · exact .refl s

theorem State.putWarn_issues (s : State) (r : FpReg) (side : Side) {left : Nat} (bits mask : BitVec 11)
    (watch : List RegName) (n : Nat) (hl : left ≤ 9) : s.Issues (s.putWarn r side left bits mask watch n) where
  grows := s.putWarn_grows ..
  memory := id
  changedCode := id
  writes := fun _ => Or.inl
  sats := fun _ => Or.inl
  warns := fun w hw => (List.mem_append.1 hw).imp_right fun h => by rw [List.mem_singleton.1 h]; exact hl
  branches := fun _ => Or.inl
  nop := Nat.le_max_left ..

theorem State.putBranch_issues (s : State) (a : Word) : s.Issues (s.putBranch a) where
  grows := s.putBranch_grows a
  memory := id
  changedCode := id
  writes := fun _ => Or.inl
  sats := fun _ => Or.inl
  warns := fun _ => Or.inl
  branches := fun b hb => (List.mem_append.1 hb).imp_right fun h => by rw [List.mem_singleton.1 h]
  nop := Nat.le_max_left ..

theorem State.pad_issues (s : State) {n : Nat} (hn : n ≤ 8) : s.Issues (s.pad n) where
  grows := s.pad_grows n
  memory := id
  changedCode := id
  writes := fun _ => Or.inl
  sats := fun _ => Or.inl
  warns := fun _ => Or.inl
  branches := fun _ => Or.inl
  nop := max_le_max_left s.nopLeft hn

/-! Loads and stores. -/

theorem State.updateBase_issues {γ : Type} (s : State) (o : Mem γ) (sh : Nat) : s.Issues (s.updateBase o sh) := by
  unfold State.updateBase; split
  · exact s.drawFor_issues _
  · exact s.drawFor_issues _
  · exact (s.drawFor_issues _).trans (State.putWord_issues _ _ _ _ (Nat.zero_le 9))

theorem State.finishLoad_issues (s : State) (side : Side) (dst : Reg) (extend : Nat → Word) (r : Option Nat) :
    s.Issues (s.finishLoad side dst extend r) := by
  rcases s.finishLoad_cases side dst extend r with ⟨v, -, h⟩ | ⟨-, h⟩ <;> rw [h]
  · exact s.putWord_issues _ _ _ (by decide)
  · exact s.draw_issues.trans (State.putWord_issues _ _ _ _ (by decide))

theorem State.finishLoadPair_issues (s : State) (side : Side) (dst : Pair) (r : Option Nat) :
    s.Issues (s.finishLoadPair side dst r) := by
  have two (t : State) (v w : Word) :
      t.Issues ((t.putWord side (Pair.even dst) 4 v).putWord side (Pair.odd dst) 4 w) :=
    (t.putWord_issues _ _ _ (by decide)).trans (State.putWord_issues _ _ _ _ (by decide))
  cases r with
  | some v => exact two s _ _
  | none => exact (s.draw_issues.trans s.draw.draw_issues).trans (two _ _ _)

theorem State.storeBytes_issues (s : State) (cells : List (Nat × Byte)) (hc : ∀ c ∈ cells, c.1 < 2 ^ 32) :
    s.Issues (s.storeBytes cells) := by
  have hg := s.storeBytes_grows cells
  obtain ⟨m, st, cs, f, he, -, hm, hr⟩ := State.storeBytes_spec cells s
  rw [he] at hg ⊢
  exact ⟨hg, hm hc, hr hc, fun _ => Or.inl, fun _ => Or.inl, fun _ => Or.inl, fun _ => Or.inl, Nat.le_max_left ..⟩

theorem State.store_issues (s : State) (ea : Word) (sz : Nat) (v : Word) : s.Issues (s.store ea sz v) := by
  have hc (bytes : List Byte) : ∀ c ∈ (s.touched ea sz).zip bytes, c.1 < 2 ^ 32 :=
    fun c hc => mem_laneAddresses_lt (List.of_mem_zip hc).1
  have hf : s.Issues { s with free := s.free + sz } :=
    .of_queues (by constructor <;> simp) rfl rfl rfl rfl rfl rfl rfl
  rcases s.store_cases ea sz v with ⟨-, h⟩ | ⟨-, h⟩ <;> rw [h]
  · exact s.storeBytes_issues _ (hc _)
  · exact hf.trans (State.storeBytes_issues _ _ (hc _))

/-! The shared ways to issue. -/

section
variable {c : Cond} {side : Side} {s t : State}

/-- A guarded effect issues what the effect does. -/
theorem guarded_issues {u : State} (h : guarded c s (.next u) = .next t) (hu : s.Issues u) : s.Issues t := by
  rcases guarded_next h with ⟨-, rfl⟩ | ⟨-, h⟩
  · exact .refl _
  · exact Host.Outcome.next.inj h ▸ hu

theorem issueWord_issues {dst : Reg} {left : Nat} {v : Word} (h : issueWord c side dst left v s = .next t)
    (hl : left ≤ 9) : s.Issues t :=
  guarded_issues h (s.putWord_issues _ _ _ hl)

theorem issueLong_issues {dst : Pair} {v : Long} (h : issueLong c side dst v s = .next t) : s.Issues t :=
  guarded_issues h (s.putLong_issues ..)

theorem issueSat32_issues {dst : Reg} {left : Nat} {v : Int} (h : issueSat32 c side dst left v s = .next t)
    (hl : left ≤ 1) : s.Issues t :=
  guarded_issues h ((s.putWord_issues _ _ _ (by omega)).trans (State.noteOverflow_issues _ _ hl))

theorem issueSat40_issues {dst : Pair} {v : Int} (h : issueSat40 c side dst v s = .next t) : s.Issues t :=
  guarded_issues h ((s.putLong_issues ..).trans (State.noteOverflow_issues _ _ (Nat.zero_le 1)))

theorem issueOpen_issues {dst : Reg} {v : Option Word} (h : issueOpen c side dst v s = .next t) : s.Issues t := by
  rcases issueOpen_next h with ⟨-, rfl⟩ | ⟨-, w, rfl, -⟩
  · exact .refl _
  · exact (s.drawFor_issues v).trans (State.putWord_issues _ _ _ _ (Nat.zero_le 9))

theorem issueFp32_issues {dst : Reg} {left : Nat} {cfg : FpReg} {mask : BitVec 11} {r : FpResult}
    {watch : List RegName} {n : Nat} (h : issueFp32 c side dst left cfg mask r watch n s = .next t) (hl : left ≤ 9) :
    s.Issues t :=
  guarded_issues h ((s.putWatched_issues _ _ _ _ hl).trans (State.putWarn_issues _ _ _ _ _ _ _ hl))

theorem issueFp64_issues {dst : Pair} {left : Nat} {cfg : FpReg} {mask : BitVec 11} {r : FpResult}
    {watch : List RegName} {n : Nat} (h : issueFp64 c side dst left cfg mask r watch n s = .next t) (hl : left ≤ 8) :
    s.Issues t :=
  guarded_issues h ((s.putDouble_issues _ _ _ _ _ hl).trans
    (State.putWarn_issues _ _ _ _ _ _ _ (Nat.succ_le_succ hl)))

theorem issueMpyi_issues {dst : Reg} {a b : Int} {names : List RegName}
    (h : issueMpyi c side dst a b names s = .next t) : s.Issues t :=
  guarded_issues h (s.putWatched_issues _ _ _ _ (by decide))

theorem issueMpyid_issues {dst : Pair} {a b : Int} {names : List RegName}
    (h : issueMpyid c side dst a b names s = .next t) : s.Issues t :=
  guarded_issues h (s.putDouble_issues _ _ _ _ _ (by decide))

theorem issueLoad_issues {o : Mem Reg} {sh : Nat} {extend : Nat → Word} (h : issueLoad o sh extend s = .next t) :
    s.Issues t :=
  guarded_issues h ((s.updateBase_issues o sh).trans (State.finishLoad_issues ..))

theorem issueLoadK_issues {o : MemK} {sh : Nat} {extend : Nat → Word} (h : issueLoadK o sh extend s = .next t) :
    s.Issues t :=
  guarded_issues h (s.finishLoad_issues ..)

theorem issueStore_issues {o : Mem Reg} {sh : Nat} (h : issueStore o sh s = .next t) : s.Issues t :=
  guarded_issues h ((s.updateBase_issues o sh).trans (State.store_issues ..))

theorem issueStoreK_issues {o : MemK} {sh : Nat} (h : issueStoreK o sh s = .next t) : s.Issues t :=
  guarded_issues h (s.store_issues ..)

theorem execSshl_issues {o : Bin Reg Reg Reg} (h : execSshl o s = .next t) : s.Issues t := by
  unfold execSshl at h
  split at h
  · exact issueSat32_issues h (Nat.zero_le 1)
  · exact guarded_issues h ((s.draw_issues.trans s.draw.draw_issues).trans
      ((State.putWord_issues _ _ _ _ (Nat.zero_le 9)).trans (State.putSat_issues _ _ (Nat.zero_le 1))))

theorem execMvcWrite_issues {o : MvcWrite} (h : execMvcWrite o s = .next t) : s.Issues t := by
  rcases execMvcWrite_next h with ⟨-, rfl⟩ | ⟨-, -, ⟨rfl, -⟩ | ⟨rfl, -⟩⟩
  · exact .refl _
  · exact s.putControl_issues _
  · exact s.draw_issues.trans ((State.putControl_issues _ _).trans (State.putControl_issues _ _))

theorem execLddw_issues {o : Mem Pair} (h : execLddw o s = .next t) : s.Issues t :=
  guarded_issues h ((s.updateBase_issues o 3).trans (State.finishLoadPair_issues ..))

theorem execBIrp_issues (h : execBIrp c s = .next t) : s.Issues t :=
  guarded_issues h ((s.putBranch_issues _).trans (State.putControl_issues _ _))

theorem execBNrp_issues (h : execBNrp c s = .next t) : s.Issues t :=
  guarded_issues h ((s.putBranch_issues _).trans (State.putControl_issues _ _))

theorem execMv_issues {o : MvForm} (h : execMv o s = .next t) : s.Issues t := by
  cases o with
  | l o | s o | d o => exact issueWord_issues h (Nat.zero_le 9)
  | lLong o => exact issueLong_issues h

theorem execNeg_issues {o : NegForm} (h : execNeg o s = .next t) : s.Issues t := by
  cases o with
  | l o | s o => exact issueWord_issues h (Nat.zero_le 9)
  | lLong o => exact issueLong_issues h

theorem execNot_issues {o : NotForm} (h : execNot o s = .next t) : s.Issues t := by
  cases o with
  | l o | s o => exact issueWord_issues h (Nat.zero_le 9)

theorem execZero_issues {o : ZeroForm} (h : execZero o s = .next t) : s.Issues t := by
  cases o with
  | l o | d o | sMvk o | sSub o => exact issueWord_issues h (Nat.zero_le 9)
  | lLong o => exact issueLong_issues h

end

/-- An instruction that answers a next state has only issued effects, each due within the longest latency of its kind:
the timing of 40_execution_model.md R173 for all 208 rows at once. -/
theorem exec_issues {i : Instr} {s t : State} (h : exec i s = .next t) : s.Issues t := by
  cases i with
  | abs o | addL o | addLC o | andL o | andLC o | cmpeq o | cmpeqC o | cmpeqLong o | cmpeqLongC o | cmpgt o | cmpgtC o
  | cmpgtLong o | cmpgtLongC o | cmpgtu o | cmpgtuC o | cmpgtuLong o | cmpgtuLongC o | cmplt o | cmpltC o
  | cmpltLong o | cmpltLongC o | cmpltu o | cmpltuC o | cmpltuLong o | cmpltuLongC o | lmbd o | lmbdC o | norm o
  | normLong o | orL o | orLC o | subL o | subLX o | subLC o | subc o | xorL o | xorLC o | addS o | addSC o | add2 o
  | andS o | andSC o | orS o | orSC o | shl o | shlC o | shr o | shrC o | shru o | shruC o | subS o | subSC o | sub2 o
  | xorS o | xorSC o | addD o | addDC o | subD o | subDC o | extuConst o | extConst o | addk o | mvk o | mvkh o | mvkl o
  | mvklh o => exact issueWord_issues h (Nat.zero_le 9)
  | mpy o | mpyC o | mpyu o | mpyus o | mpysu o | mpysuC o | mpyh o | mpyhu o | mpyhus o | mpyhsu o | mpyhl o | mpyhlu o
  | mpyhuls o | mpyhslu o | mpylh o | mpylhu o | mpyluhs o | mpylshu o => exact issueWord_issues h (by decide : 1 ≤ 9)
  | absLong o | addLWide o | addLLong o | addLLongC o | adduWide o | adduLong o | subLWide o | subLWideX o | subLLongC o
  | subuWide o | subuWideX o | shlLong o | shlWide o | shlLongC o | shlWideC o | shrLong o | shrLongC o | shruLong o
  | shruLongC o => exact issueLong_issues h
  | abssp o | cmpeqsp o | cmpgtsp o | cmpltsp o | rcpsp o | rsqrsp o => exact issueFp32_issues h (Nat.zero_le 9)
  | cmpeqdp o | cmpgtdp o | cmpltdp o => exact issueFp32_issues h (by decide : 1 ≤ 9)
  | addspL o | dpint o | dpsp o | dptrunc o | intsp o | intspu o | spint o | sptrunc o | subspL o | subspLX o | mpysp o
  | addspS o | subspS o => exact issueFp32_issues h (by decide : 3 ≤ 9)
  | absdp o | rcpdp o | rsqrdp o | spdp o => exact issueFp64_issues h (Nat.zero_le 8)
  | intdp o | intdpu o | mpysp2dp o => exact issueFp64_issues h (by decide : 3 ≤ 8)
  | adddpL o | subdpL o | subdpLX o | mpyspdp o | adddpS o | subdpS o => exact issueFp64_issues h (by decide : 5 ≤ 8)
  | mpydp o => exact issueFp64_issues h (Nat.le_refl 8)
  | sadd o | saddC o | sat o | ssub o | ssubX o | ssubC o | sshlC o => exact issueSat32_issues h (Nat.zero_le 1)
  | smpy o | smpyhl o | smpylh o | smpyh o => exact issueSat32_issues h (Nat.le_refl 1)
  | saddLong o | saddLongC o | ssubLongC o => exact issueSat40_issues h
  | sshl o => exact execSshl_issues h
  | clrReg o | extReg o | extuReg o | setReg o | mvcRead o | setConst o | clrConst o | addab o | addabC o | addah o
  | addahC o | addaw o | addawC o | addad o | addadC o | subab o | subabC o | subah o | subahC o | subaw o
  | subawC o => exact issueOpen_issues h
  | mpyi o | mpyiC o => exact issueMpyi_issues h
  | mpyid o | mpyidC o => exact issueMpyid_issues h
  | mvcWrite o => exact execMvcWrite_issues h
  | bReg o | bDisp o => exact guarded_issues h (s.putBranch_issues _)
  | bIrp c => exact execBIrp_issues h
  | bNrp c => exact execBNrp_issues h
  | ldhu o | ldbu o | ldb o | ldh o | ldw o => exact issueLoad_issues h
  | ldhuK o | ldbuK o | ldbK o | ldhK o | ldwK o => exact issueLoadK_issues h
  | lddw o => exact execLddw_issues h
  | stb o | sth o | stw o => exact issueStore_issues h
  | stbK o | sthK o | stwK o => exact issueStoreK_issues h
  | nop k => exact Host.Outcome.next.inj h ▸ s.pad_issues (by omega)
  | nop9 => exact Host.Outcome.next.inj h ▸ s.pad_issues (Nat.le_refl 8)
  | idle => exact Host.Outcome.next.inj h ▸ s.idle_issues
  | mv o => exact execMv_issues h
  | neg o => exact execNeg_issues h
  | not o => exact execNot_issues h
  | zero o => exact execZero_issues h

/-- A packet's instructions issue one after another. -/
theorem runAll_issues {p : List Instr} {s t : State} (h : runAll p s = .next t) : s.Issues t := by
  induction p generalizing s with
  | nil => exact Host.Outcome.next.inj h ▸ .refl s
  | cons i rest ih =>
    unfold runAll at h
    split at h
    · rename_i u hu
      exact (exec_issues hu).trans (ih h)
    · cases h
    · cases h

/-! The invariant. -/

/-- What holds within a cycle, before its effects land: one cycle more to go than `State.Inv` allows. -/
structure State.MidCycle (s : State) : Prop where
  memory : Memory.wf s.mem = true
  program : Memory.wf s.pmem = true
  changedCode : risingAddresses s.codeStores = true
  nopBounded : s.nopLeft ≤ 8
  entryBounded : s.emptyLeft ≤ 6
  writesBounded : ∀ w ∈ s.writes, w.left ≤ 9
  branchesBounded : ∀ b ∈ s.branches, b.left ≤ 6
  satsBounded : ∀ p ∈ s.sats, p.left ≤ 2
  warnsBounded : ∀ w ∈ s.warns, w.left ≤ 9

theorem State.Inv.midCycle {s : State} (h : s.Inv) : s.MidCycle where
  memory := h.memory
  program := h.program
  changedCode := h.changedCode
  nopBounded := h.nopBounded
  entryBounded := h.entryBounded
  writesBounded w hw := Nat.le_succ_of_le (h.writesBounded w hw)
  branchesBounded b hb := Nat.le_succ_of_le (h.branchesBounded b hb)
  satsBounded p hp := Nat.le_succ_of_le (h.satsBounded p hp)
  warnsBounded w hw := Nat.le_succ_of_le (h.warnsBounded w hw)

/-- What instructions issue keeps it. -/
theorem State.MidCycle.of_issues {s t : State} (h : s.MidCycle) (k : s.Issues t) : t.MidCycle where
  memory := k.memory h.memory
  program := by rw [k.grows.frame]; exact h.program
  changedCode := k.changedCode h.changedCode
  nopBounded := k.nop.trans (max_le h.nopBounded (Nat.le_refl 8))
  entryBounded := by rw [k.grows.frame]; exact h.entryBounded
  writesBounded w hw := (k.writes w hw).elim (h.writesBounded w) id
  branchesBounded b hb := (k.branches b hb).elim (h.branchesBounded b) Nat.le_succ_of_le
  satsBounded p hp := (k.sats p hp).elim (h.satsBounded p) id
  warnsBounded w hw := (k.warns w hw).elim (h.warnsBounded w) id

/-- The first cycle of an interrupt entry: its branch has six cycles to go, one more than a branch instruction's. -/
theorem State.Inv.takeInterrupt_midCycle {s : State} (h : s.Inv) (n : Nat) : (s.takeInterrupt n).MidCycle := by
  have hb : ∀ b ∈ s.branches ++ [PendingBranch.mk (s.servicePacket n) 6], b.left ≤ 6 := by
    intro b hb
    rcases List.mem_append.1 hb with hb | hb
    · exact h.midCycle.branchesBounded b hb
    · rw [List.mem_singleton.1 hb]
  obtain ⟨pwrd, ht⟩ := s.takeInterrupt_frame n
  rw [ht]
  dsimp only
  split <;> exact ⟨h.memory, h.program, h.changedCode, Nat.zero_le 8, Nat.le_refl 6, h.midCycle.writesBounded, hb,
    h.midCycle.satsBounded, h.midCycle.warnsBounded⟩

theorem State.takeInterrupt_pc (s : State) (n : Nat) : (s.takeInterrupt n).pc = s.pc := by
  unfold State.takeInterrupt; dsimp only; split <;> rfl

theorem PendingWarn.age_left (w : PendingWarn) (regs : List RegName) (n : Nat) : (w.age regs n).left = w.left - 1 := by
  unfold PendingWarn.age; split <;> rfl

/-- `pc` stays a multiple of 4 if the sequential address is one: branch targets are checked, free ones aligned. -/
theorem nextPc_aligned {targets : List Word} {seq : Word} {n : Nat} (h : seq.toNat % 4 = 0) :
    (nextPc targets seq (freeTarget n)).toNat % 4 = 0 := by
  unfold nextPc
  split
  · exact h
  · split
    · assumption
    · exact freeTarget_aligned n
  · exact freeTarget_aligned n

theorem sequentialPc_aligned {pc : Word} (k : Nat) (h : pc.toNat % 4 = 0) : (sequentialPc pc k).toNat % 4 = 0 := by
  simp only [sequentialPc, BitVec.toNat_add, BitVec.toNat_ofNat]
  omega

/-- The end of a cycle leaves the invariant: everything in flight has come one cycle nearer. -/
theorem State.MidCycle.endCycle_inv {s : State} (h : s.MidCycle) (issues : List Issue) {seq : Word}
    (hs : seq.toNat % 4 = 0) : (s.endCycle issues seq).Inv where
  memory := by rw [State.endCycle_mem]; exact s.landExternal_keeps.1 h.memory
  program := by rw [State.endCycle_pmem]; exact h.program
  changedCode := by rw [State.endCycle_codeStores]; exact s.landExternal_keeps.2 h.changedCode
  pcAligned := by rw [State.endCycle_pc]; exact nextPc_aligned hs
  cycleClosed := ⟨s.endCycle_controls issues seq, s.endCycle_stored issues seq⟩
  historyBounded := by rw [State.endCycle_history]; exact List.length_take_le ..
  nopBounded := (s.endCycle_nopLeft_le issues seq).trans h.nopBounded
  entryBounded := by rw [State.endCycle_emptyLeft]; exact h.entryBounded
  writesBounded := by
    intro w hw
    rw [State.endCycle_writes] at hw
    obtain ⟨v, hv, -, -, hl⟩ := mem_ageWrites hw
    have := h.writesBounded v hv
    omega
  branchesBounded := by
    intro b hb
    rw [State.endCycle_branches] at hb
    obtain ⟨c, hc, rfl⟩ := List.mem_map.1 hb
    have := h.branchesBounded c (List.mem_filter.1 hc).1
    show c.left - 1 ≤ 5
    omega
  satsBounded := by
    intro p hp
    rw [State.endCycle_sats] at hp
    obtain ⟨q, hq, rfl⟩ := List.mem_map.1 hp
    have := h.satsBounded q (List.mem_filter.1 hq).1
    show q.left - 1 ≤ 1
    omega
  warnsBounded := by
    intro w hw
    rw [State.endCycle_warns] at hw
    obtain ⟨v, hv, -, j, -, -, rfl⟩ := mem_ageWarns hw
    have := h.warnsBounded v hv
    rw [PendingWarn.age_left]
    omega

theorem State.MidCycle.quiet_inv {s : State} (h : s.MidCycle) (hp : s.pc.toNat % 4 = 0) : s.quiet.Inv :=
  h.endCycle_inv [] hp

/-- Settles O51: each field of the reset state is empty, zero or absent. -/
theorem resetInvariant : Obligations.ResetInvariant where
  memory := rfl
  program := rfl
  changedCode := rfl
  pcAligned := rfl
  cycleClosed := ⟨rfl, rfl⟩
  historyBounded := Nat.zero_le 9
  nopBounded := Nat.zero_le 8
  entryBounded := Nat.zero_le 6
  writesBounded := List.forall_mem_nil _
  branchesBounded := List.forall_mem_nil _
  satsBounded := List.forall_mem_nil _
  warnsBounded := List.forall_mem_nil _

theorem State.warmReset_mem (s : State) : s.warmReset.mem = s.landExternal.mem := by
  rw [State.warmReset]

theorem State.warmReset_pmem (s : State) : s.warmReset.pmem = s.pmem := by
  rw [State.warmReset]

theorem State.warmReset_codeStores (s : State) : s.warmReset.codeStores = s.landExternal.codeStores := by
  rw [State.warmReset]

/-- A reset during a run leaves the reset state but for registers, device, inputs and memory. -/
theorem State.Inv.warmReset_inv {s : State} (h : s.Inv) : s.warmReset.Inv where
  memory := by rw [State.warmReset_mem]; exact s.landExternal_keeps.1 h.memory
  program := by rw [State.warmReset_pmem]; exact h.program
  changedCode := by rw [State.warmReset_codeStores]; exact s.landExternal_keeps.2 h.changedCode
  pcAligned := resetInvariant.pcAligned
  cycleClosed := resetInvariant.cycleClosed
  historyBounded := resetInvariant.historyBounded
  nopBounded := resetInvariant.nopBounded
  entryBounded := resetInvariant.entryBounded
  writesBounded := resetInvariant.writesBounded
  branchesBounded := resetInvariant.branchesBounded
  satsBounded := resetInvariant.satsBounded
  warnsBounded := resetInvariant.warnsBounded

/-- Settles O52: by the kinds of a step (`step_cases`). A cycle in which nothing issues ends a state whose countdowns the
invariant bounds; a packet issues effects within their latencies first (`runAll_issues`). -/
theorem stepKeepsInvariant : Obligations.StepKeepsInvariant := by
  intro s t hs h
  have hm := hs.midCycle
  rcases step_cases h with ⟨-, rfl⟩ | ⟨-, -, rfl⟩ | ⟨-, -, n, -, rfl⟩ | ⟨-, -, -, ⟨-, rfl⟩ | ⟨-, -, rfl⟩ | ⟨-, -, -, rfl⟩ |
    ⟨-, -, -, p, u, -, -, hu, rfl⟩⟩
  · exact hs.warmReset_inv
  · exact State.MidCycle.quiet_inv { hm with entryBounded := (Nat.sub_le ..).trans hm.entryBounded } hs.pcAligned
  · exact (hs.takeInterrupt_midCycle n).quiet_inv (by rw [State.takeInterrupt_pc]; exact hs.pcAligned)
  · exact hm.quiet_inv hs.pcAligned
  · exact State.MidCycle.quiet_inv { hm with nopBounded := (Nat.sub_le ..).trans hm.nopBounded } hs.pcAligned
  · exact hm.quiet_inv hs.pcAligned
  · exact (hm.of_issues (runAll_issues hu)).endCycle_inv _ (sequentialPc_aligned _ hs.pcAligned)

end Sys2Proof.Machine
end

section
/-! The end of a cycle in one equation (`State.endCycle_eq`, 40_execution_model.md R176): the state after the control
effects have landed, updated from the queues the cycle began with. -/

set_option Elab.async false

namespace Sys2Proof.Machine

open Sys2Proof.Claims

/-! Warning bits. -/

/-- The bits that pending warnings raise in one half of a configuration register. -/
def raisedBits (ws : List PendingWarn) (r : FpReg) (side : Side) : BitVec 11 :=
  ((ws.filter fun w => w.reg == r && w.side == side).map PendingWarn.bits).foldl (· ||| ·) 0#11

theorem foldl_or (x : BitVec 11) (l : List (BitVec 11)) : l.foldl (· ||| ·) x = x ||| l.foldl (· ||| ·) 0#11 := by
  rw [← List.foldl_assoc (op := (· ||| · : BitVec 11 → BitVec 11 → BitVec 11)), BitVec.or_zero]

theorem raisedBits_cons (w : PendingWarn) (ws : List PendingWarn) (r : FpReg) (side : Side) :
    raisedBits (w :: ws) r side = (if w.reg = r ∧ w.side = side then w.bits else 0#11) ||| raisedBits ws r side := by
  unfold raisedBits
  by_cases h : w.reg = r ∧ w.side = side
  · rw [List.filter_cons_of_pos (by simpa using h), if_pos h, List.map_cons, List.foldl_cons, foldl_or, BitVec.zero_or]
  · rw [List.filter_cons_of_neg (by simpa using h), if_neg h, BitVec.zero_or]

/-- A bit is raised when some warning for the half carries it. -/
theorem getLsbD_raisedBits {ws : List PendingWarn} {r : FpReg} {side : Side} {k : Nat} :
    (raisedBits ws r side).getLsbD k = true ↔ ∃ w ∈ ws, w.reg = r ∧ w.side = side ∧ w.bits.getLsbD k = true := by
  induction ws with
  | nil => simp [raisedBits]
  | cons w rest ih =>
    rw [raisedBits_cons, BitVec.getLsbD_or, Bool.or_eq_true, ih, List.exists_mem_cons_iff, ← and_assoc]
    by_cases h : w.reg = r ∧ w.side = side <;> simp [h]

theorem dueBits_eq (s : State) (r : FpReg) (side : Side) :
    dueBits s r side = raisedBits (s.warns.filter fun w => w.left == 0) r side := by
  have h (w : PendingWarn) : (w.left == 0 && w.reg == r && w.side == side) =
      ((w.reg == r && w.side == side) && w.left == 0) := by
    rw [Bool.and_assoc, Bool.and_comm]
  simp only [dueBits, raisedBits, List.filter_filter, h]

/-- A configuration register with the warning bits that are due raised in both halves (10_state.md R71, R72). -/
def State.landedConfig (s : State) (r : FpReg) (c : FpConfig) : FpConfig :=
  ⟨c.a ||| dueBits s r .a, c.b ||| dueBits s r .b⟩

theorem config_raise (t : State) (w : PendingWarn) (r : FpReg) :
    config (t.raise w) r = if w.reg = r then (config t r).raise w.side w.bits else config t r := by
  obtain ⟨left, reg, side, bits, mask, watch, n⟩ := w
  cases reg <;> cases r <;> rfl

theorem config_foldl_raise (ws : List PendingWarn) (t : State) (r : FpReg) :
    config (ws.foldl State.raise t) r =
      ⟨(config t r).a ||| raisedBits ws r .a, (config t r).b ||| raisedBits ws r .b⟩ := by
  induction ws generalizing t with
  | nil => simp [raisedBits]
  | cons w rest ih =>
    rw [List.foldl_cons, ih, config_raise, raisedBits_cons, raisedBits_cons]
    by_cases h : w.reg = r
    · cases hs : w.side <;> simp [h, FpConfig.raise, BitVec.or_assoc]
    · simp [h]

theorem config_landWarns (s t : State) (regs : List RegName) (n : Nat) (r : FpReg) (h : t.warns = s.warns) :
    config (t.landWarns regs n) r = s.landedConfig r (config t r) := by
  rw [State.landedConfig, dueBits_eq, dueBits_eq, ← h, ← config_foldl_raise]
  cases r <;> rfl

/-! The end of a cycle. -/

/-- The end of a cycle of `s` in which `issues` issued, `c` being the state once the control effects have landed. -/
def State.settle (s c : State) (issues : List Issue) (seq : Word) : State :=
  { c with
    fileA := s.landWrites.fileA
    fileB := s.landWrites.fileB
    pc := nextPc s.landingTargets seq (freeTarget (s.free + 64 + s.writes.length + s.warns.length))
    sat := s.landingSats.any PendingSat.value || (s.landingSats.isEmpty && c.sat)
    fadcr := s.landedConfig .fadcr c.fadcr
    faucr := s.landedConfig .faucr c.faucr
    fmcr := s.landedConfig .fmcr c.fmcr
    writes := ageWrites s.landingRegs s.writes (s.free + 64)
    sats := (s.sats.filter fun p => p.left != 0).map fun p => { p with left := p.left - 1 }
    warns := ageWarns s.landingRegs s.warns (s.free + 64 + s.writes.length)
    branches := (s.branches.filter fun b => b.left != 0).map fun b => { b with left := b.left - 1 }
    history := (issues :: s.history).take 9
    nopLeft := if s.landingTargets.isEmpty then c.nopLeft else 0
    idle := c.idle && s.landingTargets.isEmpty
    inputs := s.inputs.tail
    mem := s.landExternal.mem
    stored := []
    codeStores := s.landExternal.codeStores
    free := s.free + (65 + s.writes.length + s.warns.length) }

/-- Two states with the same fields are one state. -/
theorem State.eq_of_fields {s t : State}
    (device : s.device = t.device) (fileA : s.fileA = t.fileA) (fileB : s.fileB = t.fileB) (pc : s.pc = t.pc)
    (amr : s.amr = t.amr) (pwrd : s.pwrd = t.pwrd) (sat : s.sat = t.sat) (pcc : s.pcc = t.pcc) (dcc : s.dcc = t.dcc)
    (pgie : s.pgie = t.pgie) (gie : s.gie = t.gie) (ie : s.ie = t.ie) (nmie : s.nmie = t.nmie) (ifl : s.ifl = t.ifl)
    (nmif : s.nmif = t.nmif) (istb : s.istb = t.istb) (irp : s.irp = t.irp) (nrp : s.nrp = t.nrp)
    (fadcr : s.fadcr = t.fadcr) (faucr : s.faucr = t.faucr) (fmcr : s.fmcr = t.fmcr) (writes : s.writes = t.writes)
    (sats : s.sats = t.sats) (warns : s.warns = t.warns) (branches : s.branches = t.branches)
    (controls : s.controls = t.controls) (isrPend : s.isrPend = t.isrPend) (icrPend : s.icrPend = t.icrPend)
    (history : s.history = t.history) (nopLeft : s.nopLeft = t.nopLeft) (idle : s.idle = t.idle)
    (powerDown : s.powerDown = t.powerDown) (emptyLeft : s.emptyLeft = t.emptyLeft) (inputs : s.inputs = t.inputs)
    (mem : s.mem = t.mem) (pmem : s.pmem = t.pmem) (stored : s.stored = t.stored)
    (codeStores : s.codeStores = t.codeStores) (free : s.free = t.free) :
    s = t := by
  cases s; cases t; simp_all only

theorem State.landingTargets_congr {s t : State} (h : t.branches = s.branches) :
    t.landingTargets = s.landingTargets := by
  rw [State.landingTargets, State.landingTargets, h]

theorem State.landingSats_congr {s t : State} (h : t.sats = s.sats) : t.landingSats = s.landingSats := by
  rw [State.landingSats, State.landingSats, h]

/-- The end of a cycle: the control effects land first, the queues the cycle began with after them. -/
theorem State.endCycle_eq (s : State) (issues : List Issue) (seq : Word) :
    s.endCycle issues seq = s.settle s.latchFlags.landControls issues seq := by
  have hc (r : FpReg) := config_landWarns s s.latchFlags.landControls.landWrites.landSats s.landingRegs
    (s.free + 64 + s.writes.length) r (by simp)
  have hs : s.latchFlags.landControls.landWrites.landingSats = s.landingSats := State.landingSats_congr (by simp)
  have ht : (s.latchFlags.landControls.landWrites.landSats.landWarns s.landingRegs
      (s.free + 64 + s.writes.length)).landingTargets = s.landingTargets := State.landingTargets_congr (by simp)
  obtain ⟨ha, hb⟩ := s.endCycle_files issues seq
  apply State.eq_of_fields
  case fileA => exact ha
  case fileB => exact hb
  case pc => exact s.endCycle_pc issues seq
  case mem => exact s.endCycle_mem issues seq
  case codeStores => exact s.endCycle_codeStores issues seq
  case writes => exact s.endCycle_writes issues seq
  case branches => exact s.endCycle_branches issues seq
  case sats => exact s.endCycle_sats issues seq
  case warns => exact s.endCycle_warns issues seq
  case sat => simp [State.endCycle, State.settle, State.landSats, hs]
  case fadcr => simpa [State.endCycle, State.settle, config] using hc .fadcr
  case faucr => simpa [State.endCycle, State.settle, config] using hc .faucr
  case fmcr => simpa [State.endCycle, State.settle, config] using hc .fmcr
  case nopLeft => simp [State.endCycle, State.settle, State.landBranches, ht]
  case idle => simp [State.endCycle, State.settle, State.landBranches, ht]
  all_goals simp [State.endCycle, State.settle]

/-- The control effects of a cycle do not change what else lands at its end. -/
theorem State.settle_dropControls (s c : State) (issues : List Issue) (seq : Word) :
    ({ s with controls := [] } : State).settle c issues seq = s.settle c issues seq := by
  obtain ⟨ha, hb⟩ := State.landWrites_files (s := { s with controls := [] }) (t := s) rfl rfl rfl rfl
  unfold State.settle
  rw [ha, hb]
  rfl

/-- A flag that rises ends PD1 with any interrupt (60_exceptions.md R525). -/
def State.Wakes (s : State) : Prop := s.powerDown = some .pd1Any ∧ s.flagRises = true

theorem State.latchFlags_of_wakes {s : State} (h : s.Wakes) :
    s.latchFlags = { s.clearPowerDown with
      ifl := s.nextFlags, nmif := s.nmif || s.input.nmi, isrPend := 0#12, icrPend := 0#12 } := by
  unfold State.latchFlags
  rw [if_pos (show _ ∧ _ from h)]

theorem State.latchFlags_of_not_wakes {s : State} (h : ¬ s.Wakes) :
    s.latchFlags = { s with
      ifl := s.nextFlags, nmif := s.nmif || s.input.nmi, isrPend := 0#12, icrPend := 0#12 } := by
  unfold State.latchFlags
  rw [if_neg (show ¬(_ ∧ _) from h)]

theorem State.latchFlags_dropControls (s : State) :
    ({ s with controls := [] } : State).latchFlags = { s.latchFlags with controls := [] } := by
  by_cases h : s.Wakes
  · rw [State.latchFlags_of_wakes h, State.latchFlags_of_wakes (s := { s with controls := [] }) h]
    rfl
  · rw [State.latchFlags_of_not_wakes h, State.latchFlags_of_not_wakes (s := { s with controls := [] }) h]
    rfl

/-- The end of a cycle without its control effects. -/
theorem State.endCycle_dropControls (s : State) (issues : List Issue) (seq : Word) :
    ({ s with controls := [] } : State).endCycle issues seq =
      s.settle { s.latchFlags with controls := [] } issues seq := by
  rw [State.endCycle_eq, State.settle_dropControls, State.latchFlags_dropControls]
  rfl

/-- The end of a cycle with one control effect. -/
theorem State.endCycle_of_single {s : State} {e : ControlEffect} (h : s.controls = [e]) (issues : List Issue)
    (seq : Word) :
    s.endCycle issues seq = s.settle { s.latchFlags.applyControl e with controls := [] } issues seq := by
  rw [State.endCycle_eq, State.landControls_of_single (by rw [State.latchFlags_controls, h])]

/-- The end of a cycle with two control effects. -/
theorem State.endCycle_of_pair {s : State} {e f : ControlEffect} (h : s.controls = [e, f]) (issues : List Issue)
    (seq : Word) :
    s.endCycle issues seq =
      s.settle { (s.latchFlags.applyControl e).applyControl f with controls := [] } issues seq := by
  rw [State.endCycle_eq, State.landControls, State.latchFlags_controls, h]
  rfl

end Sys2Proof.Machine
end

section
/-! Control-register effects and interrupt flags at the end of a cycle (10_state.md R32 to R56, R484). -/

set_option Elab.async false

namespace Sys2Proof.Machine

open Sys2Proof.Claims

/-! What a control effect leaves unchanged. -/

theorem State.writeControl_nmie (s : State) {a : BitVec 5} (v : Word) (ha : a ≠ 4#5) :
    (s.writeControl a v).nmie = s.nmie := by
  rcases s.writeControl_cases a v with ⟨-, h⟩ | ⟨-, h⟩ | ⟨-, h⟩ | ⟨-, h⟩ | ⟨h, -⟩ | ⟨-, h⟩ | ⟨-, h⟩ | ⟨-, h⟩ | ⟨-, h⟩ |
    ⟨-, h⟩ | ⟨-, h⟩ | h
  case inr.inr.inr.inr.inl => exact absurd h ha
  all_goals simp [h]

theorem State.writeControl_isrPend (s : State) {a : BitVec 5} (v : Word) (ha : a ≠ 2#5) :
    (s.writeControl a v).isrPend = s.isrPend := by
  rcases s.writeControl_cases a v with ⟨-, h⟩ | ⟨-, h⟩ | ⟨h, -⟩ | ⟨-, h⟩ | ⟨-, h⟩ | ⟨-, h⟩ | ⟨-, h⟩ | ⟨-, h⟩ | ⟨-, h⟩ |
    ⟨-, h⟩ | ⟨-, h⟩ | h
  case inr.inr.inl => exact absurd h ha
  all_goals simp [h]

theorem State.writeControl_icrPend (s : State) {a : BitVec 5} (v : Word) (ha : a ≠ 3#5) :
    (s.writeControl a v).icrPend = s.icrPend := by
  rcases s.writeControl_cases a v with ⟨-, h⟩ | ⟨-, h⟩ | ⟨-, h⟩ | ⟨h, -⟩ | ⟨-, h⟩ | ⟨-, h⟩ | ⟨-, h⟩ | ⟨-, h⟩ | ⟨-, h⟩ |
    ⟨-, h⟩ | ⟨-, h⟩ | h
  case inr.inr.inr.inl => exact absurd h ha
  all_goals simp [h]

theorem State.applyControl_isrPend (s : State) {e : ControlEffect} (he : ∀ v, .write 2#5 v ≠ e) :
    (s.applyControl e).isrPend = s.isrPend := by
  cases e with
  | write a v => exact s.writeControl_isrPend v fun h => he v (h ▸ rfl)
  | restoreGie | setNmie => rfl
  | enterPower m => exact s.enterPower_isrPend m

theorem State.applyControl_icrPend (s : State) {e : ControlEffect} (he : ∀ v, .write 3#5 v ≠ e) :
    (s.applyControl e).icrPend = s.icrPend := by
  cases e with
  | write a v => exact s.writeControl_icrPend v fun h => he v (h ▸ rfl)
  | restoreGie | setNmie => rfl
  | enterPower m => exact s.enterPower_icrPend m

/-- What every control effect of a list keeps, the list keeps. -/
theorem foldl_applyControl_keeps {α : Type} (g : State → α) {l : List ControlEffect}
    (h : ∀ e ∈ l, ∀ s : State, g (s.applyControl e) = g s) (s : State) : g (l.foldl State.applyControl s) = g s := by
  induction l generalizing s with
  | nil => rfl
  | cons e rest ih =>
    rw [List.foldl_cons, ih fun f hf => h f (List.mem_cons_of_mem e hf), h e List.mem_cons_self]

/-! The interrupt flags. -/

@[simp] theorem State.endCycle_nmie (s : State) (issues : List Issue) (seq : Word) :
    (s.endCycle issues seq).nmie = s.latchFlags.landControls.nmie := by
  rw [State.endCycle_eq]; rfl

@[simp] theorem State.endCycle_isrPend (s : State) (issues : List Issue) (seq : Word) :
    (s.endCycle issues seq).isrPend = s.latchFlags.landControls.isrPend := by
  rw [State.endCycle_eq]; rfl

@[simp] theorem State.endCycle_icrPend (s : State) (issues : List Issue) (seq : Word) :
    (s.endCycle issues seq).icrPend = s.latchFlags.landControls.icrPend := by
  rw [State.endCycle_eq]; rfl

theorem State.landControls_isrPend_of_no_write {s : State} (h : ∀ v, .write 2#5 v ∉ s.controls) :
    s.landControls.isrPend = s.isrPend :=
  foldl_applyControl_keeps State.isrPend (fun _ he t => t.applyControl_isrPend fun v hv => h v (hv ▸ he)) s

theorem State.landControls_icrPend_of_no_write {s : State} (h : ∀ v, .write 3#5 v ∉ s.controls) :
    s.landControls.icrPend = s.icrPend :=
  foldl_applyControl_keeps State.icrPend (fun _ he t => t.applyControl_icrPend fun v hv => h v (hv ▸ he)) s

theorem getLsbD_nextFlags (s : State) (k : Nat) (hk : k < 12) :
    s.nextFlags.getLsbD k =
      if s.input.ints.getLsbD k || s.isrPend.getLsbD k then true
      else if s.icrPend.getLsbD k then false else s.ifl.getLsbD k := by
  simp only [State.nextFlags, BitVec.getLsbD_or, BitVec.getLsbD_and, BitVec.getLsbD_not, hk, decide_true, Bool.true_and]
  cases s.input.ints.getLsbD k || s.isrPend.getLsbD k <;> cases s.icrPend.getLsbD k <;> simp

/-- Settles O38: the flags are latched before the control effects of the cycle land, and only an MVC to ISR or ICR
leaves something pending for the next cycle. -/
theorem interruptFlags : Obligations.InterruptFlags := by
  intro s issues seq
  refine ⟨fun k hk => ?_, ?_, fun v h k hk => ?_, fun v h k hk => ?_, fun h => ?_, fun h => ?_⟩
  · rw [State.endCycle_ifl, getLsbD_nextFlags s k hk]
  · exact s.endCycle_nmif issues seq
  · rw [State.endCycle_isrPend, State.landControls_of_single (by rw [State.latchFlags_controls, h])]
    show (v.extractLsb' 4 12).getLsbD k = _
    rw [BitVec.getLsbD_extractLsb', Nat.add_comm]
    simp [hk]
  · rw [State.endCycle_icrPend, State.landControls_of_single (by rw [State.latchFlags_controls, h])]
    show (v.extractLsb' 4 12).getLsbD k = _
    rw [BitVec.getLsbD_extractLsb', Nat.add_comm]
    simp [hk]
  · rw [State.endCycle_isrPend, State.landControls_isrPend_of_no_write (by simpa using h), State.latchFlags_isrPend]
  · rw [State.endCycle_icrPend, State.landControls_icrPend_of_no_write (by simpa using h), State.latchFlags_icrPend]

/-! NMIE. -/

theorem State.interruptToTake_of_nmie_clear {s : State} (h : s.nmie = false) : s.interruptToTake = none := by
  simp [State.interruptToTake, h]

theorem State.takeInterrupt_nmie (s : State) (n : Nat) :
    (s.takeInterrupt n).nmie = if n = 1 then false else s.nmie := by
  unfold State.takeInterrupt
  dsimp only
  split <;> rfl

/-- Settles O41: one case for each control effect, and the two kinds of interrupt. -/
theorem nmieRule : Obligations.NmieRule := by
  have single {s : State} {e : ControlEffect} (h : s.controls = [e]) (issues : List Issue) (seq : Word) :
      (s.endCycle issues seq).nmie = (s.latchFlags.applyControl e).nmie := by
    rw [State.endCycle_of_single h]; rfl
  refine ⟨rfl, fun s => rfl, fun s issues seq => ⟨fun h => ?_, fun v h => ?_, fun a v ha h => ?_, fun h => ?_, fun h => ?_⟩,
    fun c s h => ?_, fun s => ?_, fun s => State.interruptToTake_of_nmie_clear, fun s n hn => ?_,
    fun s issues seq v m h => ?_⟩
  · rw [State.endCycle_nmie, State.landControls_of_nil (by rw [State.latchFlags_controls, h]), State.latchFlags_nmie]
  · rw [single h, ← s.latchFlags_nmie]; rfl
  · rw [single h, ← s.latchFlags_nmie]; exact State.writeControl_nmie _ v ha
  · rw [single h]; rfl
  · rw [single h, ← s.latchFlags_nmie]; rfl
  · exact ⟨s.returnFromNmi, guarded_of_true _ h, rfl⟩
  · rw [State.takeInterrupt_nmie, if_pos rfl]
  · rw [State.takeInterrupt_nmie, if_neg hn]
  · rw [State.endCycle_of_pair h, ← s.latchFlags_nmie]
    show ((s.latchFlags.writeControl 1#5 v).enterPower m).nmie = _
    rw [State.enterPower_nmie, State.writeControl_nmie _ v (by decide)]

/-! Writes to the control registers. -/

theorem extractLsb'_eq_ofNat (v : Word) (i n : Nat) : v.extractLsb' i n = BitVec.ofNat n (v.toNat / 2 ^ i) := by
  apply BitVec.eq_of_toNat_eq
  rw [BitVec.extractLsb'_toNat, BitVec.toNat_ofNat, Nat.shiftRight_eq_div_pow]

theorem extractLsb'_zero_eq_ofNat (v : Word) (n : Nat) : v.extractLsb' 0 n = BitVec.ofNat n v.toNat := by
  rw [extractLsb'_eq_ofNat, Nat.pow_zero, Nat.div_one]

theorem pwrdField_toNat (v : Word) : (v.extractLsb' 10 6).toNat = v.toNat / 2 ^ 10 % 64 := by
  rw [extractLsb'_eq_ofNat, BitVec.toNat_ofNat]

/-- The power-down mode of a PWRD field, if it is a legal nonzero one. -/
def PowerField.mode : PowerField → Option PowerMode
  | .down m => some m
  | .run | .reserved => none

theorem entersMode_eq (s : State) (v : Word) :
    entersMode s v = if s.device.pwrdSupported then (powerField (v.extractLsb' 10 6)).mode else none := by
  unfold entersMode
  rw [← pwrdField_toNat]
  generalize v.extractLsb' 10 6 = x
  cases s.device.pwrdSupported
  · rfl
  · revert x; decide

theorem State.enterPowerDown_eq (s : State) (v : Word) : s.enterPowerDown v = s.enterPower (entersMode s v) := by
  rw [entersMode_eq, State.enterPowerDown]
  cases powerField (v.extractLsb' 10 6) <;> cases s.device.pwrdSupported <;> rfl

/-- A saturation lands in this cycle, or none does. -/
theorem State.landingSats_isEmpty (s : State) : s.landingSats.isEmpty = !s.sats.any fun p => p.left == 0 := by
  rw [Bool.eq_iff_iff]
  simp [State.landingSats]

/-- SAT at the end of a cycle in which no saturation lands, and in one in which some does. -/
theorem State.settle_sat (s c : State) (issues : List Issue) (seq : Word) :
    (s.settle c issues seq).sat =
      if s.sats.any fun p => p.left == 0 then s.landingSats.any PendingSat.value else c.sat := by
  have he := s.landingSats_isEmpty
  show (s.landingSats.any PendingSat.value || (s.landingSats.isEmpty && c.sat)) = _
  split
  · rename_i h
    rw [he, h]; simp
  · rename_i h
    rw [Bool.not_eq_true] at h
    rw [h, Bool.not_false, List.isEmpty_iff] at he
    simp [he]

/-- The end of a cycle with a write to CSR after which the power-down mode `m` begins, if any. -/
theorem State.settle_writeCsr (s : State) (issues : List Issue) (seq v : Word) (m : Option PowerMode) :
    s.settle { (s.latchFlags.writeCsr v).enterPower m with controls := [] } issues seq =
      csrWritten s (s.settle { s.latchFlags with controls := [] } issues seq) v m := by
  apply State.eq_of_fields
  case pwrd => cases m <;> exact extractLsb'_eq_ofNat v 10 6
  case pcc => cases m <;> exact extractLsb'_eq_ofNat v 5 3
  case dcc => cases m <;> exact extractLsb'_eq_ofNat v 2 3
  case sat =>
    rw [State.settle_sat]
    show _ = if s.sats.any (fun p => p.left == 0) then
      (s.settle { s.latchFlags with controls := [] } issues seq).sat else _
    rw [State.settle_sat]
    split <;> cases m <;> simp [State.enterPower, State.writeCsr]
  case powerDown => cases m <;> simp [State.settle, csrWritten, State.enterPower]
  case nopLeft => cases m <;> simp [State.settle, csrWritten, State.enterPower]
  case idle => cases m <;> simp [State.settle, csrWritten, State.enterPower]
  all_goals cases m <;> rfl

/-- The power-down mode and PWRD after the flags are latched: a flag that rises ends PD1 with any interrupt. -/
theorem State.latchFlags_power (s : State) :
    (¬ s.Wakes ∧ s.latchFlags.powerDown = s.powerDown ∧ s.latchFlags.pwrd = s.pwrd) ∨
    (s.Wakes ∧ s.latchFlags.powerDown = none ∧
      s.latchFlags.pwrd = if s.device.pwrdClearedOnWake then 0#6 else s.pwrd) := by
  by_cases h : s.Wakes
  · rw [State.latchFlags_of_wakes h]
    exact Or.inr ⟨h, rfl, by simp [State.clearPowerDown, h.1]⟩
  · rw [State.latchFlags_of_not_wakes h]
    exact Or.inl ⟨h, rfl, rfl⟩

/-- Settles O40: one case for each control effect, over the end of the cycle without it (`State.endCycle_of_single`). -/
theorem controlWritesLand : Obligations.ControlWritesLand := by
  intro s issues seq v b hb
  rw [State.endCycle_dropControls] at hb
  have csr (m : Option PowerMode) : s.settle { (s.latchFlags.writeCsr v).enterPower m with controls := [] } issues seq =
      csrWritten s b v m := by rw [hb, State.settle_writeCsr]
  have mode : (s.latchFlags.writeCsr v).enterPowerDown v = (s.latchFlags.writeCsr v).enterPower (entersMode s v) := by
    rw [State.enterPowerDown_eq, entersMode_eq, entersMode_eq, State.writeCsr_device, State.latchFlags_device]
  subst hb
  refine ⟨fun h => ?_, ?_, ?_, fun h => ?_, fun h => ?_, fun h => ?_, fun h => ?_, fun m hm h => ?_, fun h => ?_, fun h => ?_,
    fun h => ?_, fun h => ?_, fun r h => ?_⟩
  · rw [State.endCycle_eq, State.landControls, State.latchFlags_controls, h]; rfl
  · exact ⟨s.latchFlags_device, s.latchFlags_amr, s.latchFlags_ie, s.latchFlags_istb, s.latchFlags_irp, s.latchFlags_nrp,
      s.latchFlags_gie, s.latchFlags_pgie, s.latchFlags_pcc, s.latchFlags_dcc, s.latchFlags_pmem⟩
  · exact s.latchFlags_power.imp And.right fun ⟨hw, hp⟩ => ⟨hw.1, hp⟩
  · rw [State.endCycle_of_single h, ← s.latchFlags_pgie]; rfl
  · rw [State.endCycle_of_single h]; rfl
  · rw [State.endCycle_of_single h, ← extractLsb'_zero_eq_ofNat]; rfl
  · rw [State.endCycle_of_single h, ← csr, ← mode]; rfl
  · rw [State.endCycle_of_pair h, ← csr]
    rw [hm] at mode
    show s.settle { ((s.latchFlags.writeCsr v).enterPowerDown v).enterPower m with controls := [] } issues seq = _
    rw [mode]; rfl
  · rw [State.endCycle_of_single h, ← extractLsb'_eq_ofNat, ← s.latchFlags_nmie]; rfl
  · rw [State.endCycle_of_single h, ← extractLsb'_eq_ofNat]; rfl
  · rw [State.endCycle_of_single h]; rfl
  · rw [State.endCycle_of_single h]; rfl
  · rw [State.endCycle_of_single h, ← extractLsb'_zero_eq_ofNat, ← extractLsb'_eq_ofNat]
    cases r <;> rfl

end Sys2Proof.Machine
end

section
/-! Status bits at the end of a cycle (10_state.md R41, R64 to R72) and power-down (60_exceptions.md R525). -/

set_option Elab.async false

namespace Sys2Proof.Machine

open Sys2Proof.Claims

/-! SAT. -/

/-- SAT at the end of a cycle: a saturation that lands decides, else what the control effects leave. -/
theorem State.endCycle_sat (s : State) (issues : List Issue) (seq : Word) :
    (s.endCycle issues seq).sat =
      if s.sats.any fun p => p.left == 0 then s.landingSats.any PendingSat.value
      else s.latchFlags.landControls.sat := by
  rw [State.endCycle_eq, State.settle_sat]

theorem State.endCycle_sat_of_due {s : State} (issues : List Issue) (seq : Word)
    (h : ∃ p ∈ s.sats, p.left = 0 ∧ p.value = true) : (s.endCycle issues seq).sat = true := by
  obtain ⟨p, hp, hl, hv⟩ := h
  have hd : (s.sats.any fun p => p.left == 0) = true := List.any_eq_true.2 ⟨p, hp, by simp [hl]⟩
  rw [State.endCycle_sat, if_pos hd, List.any_eq_true]
  exact ⟨p, List.mem_filter.2 ⟨hp, by simp [hl]⟩, hv⟩

theorem State.endCycle_sat_of_none_due {s : State} (issues : List Issue) (seq : Word) (h : ∀ p ∈ s.sats, p.left ≠ 0) :
    (s.endCycle issues seq).sat = s.latchFlags.landControls.sat := by
  rw [State.endCycle_sat, if_neg (by simpa using h)]

/-- An MVC to CSR can only clear SAT. -/
theorem State.landControls_sat_of_writeCsr {s : State} {v : Word} (h : s.controls = [.write 1#5 v]) :
    s.latchFlags.landControls.sat = (s.sat && v.getLsbD 9 && !s.device.satWrite1Clears) := by
  rw [State.landControls_of_single (e := .write 1#5 v) (by rw [State.latchFlags_controls, h]), ← s.latchFlags_sat,
    ← s.latchFlags_device]
  show ((s.latchFlags.writeCsr v).enterPowerDown v).sat = _
  rw [State.enterPowerDown_eq, State.enterPower_sat]
  rfl

theorem mem_endCycle_sats {s : State} {issues : List Issue} {seq : Word} {p : PendingSat} :
    p ∈ (s.endCycle issues seq).sats ↔ { p with left := p.left + 1 } ∈ s.sats := by
  rw [State.endCycle_sats, List.mem_map]
  constructor
  · rintro ⟨q, hq, rfl⟩
    obtain ⟨hm, hl⟩ := List.mem_filter.1 hq
    have hl : q.left - 1 + 1 = q.left := Nat.sub_add_cancel (Nat.pos_of_ne_zero (by simpa using hl))
    simpa [hl] using hm
  · intro h
    exact ⟨_, List.mem_filter.2 ⟨h, rfl⟩, rfl⟩

/-! Warning bits. -/

/-- Each bit of a half of a configuration register at the end of a cycle: what the control effects leave, and the
warnings that are due. -/
theorem getLsbD_config_endCycle (s : State) (issues : List Issue) (seq : Word) (r : FpReg) (side : Side) (k : Nat) :
    (half (config (s.endCycle issues seq) r) side).getLsbD k = true ↔
      (half (config s.latchFlags.landControls r) side).getLsbD k = true ∨
        ∃ w ∈ s.warns, w.left = 0 ∧ w.reg = r ∧ w.side = side ∧ w.bits.getLsbD k = true := by
  have hc : config (s.endCycle issues seq) r = s.landedConfig r (config s.latchFlags.landControls r) := by
    rw [State.endCycle_eq]
    cases r <;> rfl
  have hh : half (config (s.endCycle issues seq) r) side =
      half (config s.latchFlags.landControls r) side ||| dueBits s r side := by
    rw [hc]
    cases side <;> rfl
  rw [hh, BitVec.getLsbD_or, Bool.or_eq_true, dueBits_eq, getLsbD_raisedBits]
  simp [List.mem_filter, and_assoc]

theorem config_latchFlags (s : State) (r : FpReg) : config s.latchFlags r = config s r := by
  cases r
  · exact s.latchFlags_fadcr
  · exact s.latchFlags_faucr
  · exact s.latchFlags_fmcr

theorem config_landControls_of_write {s : State} {r : FpReg} {v : Word} (h : s.controls = [.write (configAddress r) v]) :
    config s.landControls r = FpConfig.ofBits v := by
  rw [State.landControls_of_single h]
  cases r <;> rfl

theorem getLsbD_half_ofBits (v : Word) (side : Side) {k : Nat} (hk : k < 11) :
    (half (FpConfig.ofBits v) side).getLsbD k = v.getLsbD (k + if side = .a then 0 else 16) := by
  cases side
  · simp [half, FpConfig.ofBits, hk]
  · simp [half, FpConfig.ofBits, hk, Nat.add_comm]

theorem disturbed_iff {regs watch : List RegName} {n : Nat} :
    disturbed regs watch n = true ↔ 0 < n ∧ ∃ r ∈ watch, r ∈ regs := by
  simp [disturbed]

theorem mem_landingRegs {s : State} {r : RegName} : r ∈ s.landingRegs ↔ Due s r := by
  simp [State.landingRegs, State.landing, Due, and_assoc]

/-- What becomes of warning bits that stay in flight. -/
theorem PendingWarn.age_cases (w : PendingWarn) (s : State) (n : Nat) :
    ((w.watchLeft = 0 ∨ ∀ r ∈ w.watch, ¬ Due s r) ∧
      w.age s.landingRegs n = { w with left := w.left - 1, watchLeft := w.watchLeft - 1 }) ∨
    ((0 < w.watchLeft ∧ ∃ r ∈ w.watch, Due s r) ∧
      w.age s.landingRegs n =
        ⟨w.left - 1, w.reg, w.side, (Config.freeWord n).extractLsb' 0 11 &&& w.mask, w.mask, [], 0⟩) := by
  have hd : disturbed s.landingRegs w.watch w.watchLeft = true ↔ 0 < w.watchLeft ∧ ∃ r ∈ w.watch, Due s r := by
    simp only [disturbed_iff, mem_landingRegs]
  unfold PendingWarn.age
  split
  · rename_i h
    exact Or.inr ⟨hd.1 h, rfl⟩
  · rename_i h
    rw [hd] at h
    refine Or.inl ⟨?_, rfl⟩
    by_cases hw : w.watchLeft = 0
    · exact Or.inl hw
    · exact Or.inr fun r hr hdue => h ⟨Nat.pos_of_ne_zero hw, r, hr, hdue⟩

/-- Warning bits that stay in flight are among those of the next cycle, with a number of their own for a free value. -/
theorem age_mem_endCycle_warns {s : State} {w : PendingWarn} (issues : List Issue) (seq : Word) (h : w ∈ s.warns)
    (hl : w.left ≠ 0) : ∃ j, s.free ≤ j ∧ j < (s.endCycle issues seq).free ∧
      w.age s.landingRegs j ∈ (s.endCycle issues seq).warns := by
  obtain ⟨j, h1, h2, hj⟩ := age_mem_ageWarns (regs := s.landingRegs) (n := s.free + 64 + s.writes.length) h hl
  rw [State.endCycle_free, State.endCycle_warns]
  exact ⟨j, by omega, by omega, hj⟩

/-- Every warning of the next cycle was one of this cycle. -/
theorem mem_endCycle_warns {s : State} {w : PendingWarn} {issues : List Issue} {seq : Word}
    (h : w ∈ (s.endCycle issues seq).warns) : ∃ v ∈ s.warns, v.left ≠ 0 ∧
      ∃ j, s.free ≤ j ∧ j < (s.endCycle issues seq).free ∧ w = v.age s.landingRegs j := by
  rw [State.endCycle_warns] at h
  obtain ⟨v, hv, hl, j, h1, h2, hj⟩ := mem_ageWarns h
  rw [State.endCycle_free]
  exact ⟨v, hv, hl, j, by omega, by omega, hj⟩

/-- Settles O37: SAT by whether a saturation is due, the warning bits by `getLsbD_config_endCycle`, those in flight by
`PendingWarn.age_cases`. -/
theorem statusBitsLand : Obligations.StatusBitsLand := by
  refine ⟨fun s issues seq => State.endCycle_sat_of_due issues seq, fun s issues seq hn => ⟨fun h => ?_, fun v h hv => ?_,
    fun v h => ?_⟩, fun s issues seq r side k hk h => ?_, fun s issues seq r side k v hk h => ?_,
    fun s issues seq p => mem_endCycle_sats, fun s issues seq => ⟨fun w hw k hk hd => ?_, fun w hw k hk h0 hd => ?_,
    fun w hw => ?_⟩⟩
  · rw [State.endCycle_sat_of_none_due issues seq hn,
      State.landControls_of_nil (by rw [State.latchFlags_controls, h]), State.latchFlags_sat]
  · rw [State.endCycle_sat_of_none_due issues seq hn, State.landControls_sat_of_writeCsr h, hv]
    simp
  · rw [State.endCycle_sat_of_none_due issues seq hn, State.landControls_sat_of_writeCsr h]
    simp only [Bool.and_eq_true]
    exact fun ⟨⟨hs, _⟩, _⟩ => hs
  · rw [getLsbD_config_endCycle, State.landControls_of_nil (by rw [State.latchFlags_controls, h]), config_latchFlags]
  · rw [getLsbD_config_endCycle, config_landControls_of_write (by rw [State.latchFlags_controls, h]),
      getLsbD_half_ofBits v side hk]
    cases side <;> rfl
  · obtain ⟨j, -, -, hj⟩ := age_mem_endCycle_warns issues seq hw (by omega)
    rcases w.age_cases s j with ⟨-, ha⟩ | ⟨⟨h0, r, hr, hdue⟩, -⟩
    · simpa [ha, hk] using hj
    · exact (hd.elim (by omega) fun hd => hd r hr hdue).elim
  · obtain ⟨j, h1, h2, hj⟩ := age_mem_endCycle_warns issues seq hw (by omega)
    rcases w.age_cases s j with ⟨hn, -⟩ | ⟨-, ha⟩
    · obtain ⟨r, hr, hdue⟩ := hd
      exact (hn.elim (by omega) fun hn => hn r hr hdue).elim
    · exact ⟨j, h1, h2, by simpa [ha, hk] using hj⟩
  · obtain ⟨v, hv, hl, j, h1, h2, rfl⟩ := mem_endCycle_warns hw
    refine ⟨v, hv, ?_⟩
    rcases v.age_cases s j with ⟨-, ha⟩ | ⟨-, ha⟩ <;> rw [ha]
    · exact ⟨(Nat.sub_add_cancel (Nat.pos_of_ne_zero hl)).symm, rfl, rfl, rfl, Or.inl rfl⟩
    · exact ⟨(Nat.sub_add_cancel (Nat.pos_of_ne_zero hl)).symm, rfl, rfl, rfl, Or.inr ⟨j, h1, h2, rfl⟩⟩

/-! Power-down. -/

theorem bitVec_ne_zero_iff {n : Nat} {x : BitVec n} : x ≠ 0#n ↔ ∃ k < n, x.getLsbD k = true := by
  rw [ne_eq, BitVec.eq_of_getLsbD_eq_iff]
  simp

/-- A flag that was 0 is 1 when the cycle ends. -/
theorem State.flagRises_iff (s : State) :
    s.flagRises = true ↔ (∃ k < 12, s.nextFlags.getLsbD k = true ∧ s.ifl.getLsbD k = false) ∨
      ((s.nmif || s.input.nmi) = true ∧ s.nmif = false) := by
  rw [State.flagRises, Bool.or_eq_true, bne_iff_ne, bitVec_ne_zero_iff]
  refine or_congr (exists_congr fun k => and_congr_right fun hk => ?_) ?_
  · simp [hk]
  · cases s.nmif <;> simp

/-- Without a control effect the power-down mode and PWRD change only with the flags. -/
theorem State.endCycle_power {s : State} (h : s.controls = []) (issues : List Issue) (seq : Word) :
    (s.endCycle issues seq).powerDown = s.latchFlags.powerDown ∧ (s.endCycle issues seq).pwrd = s.latchFlags.pwrd := by
  rw [State.endCycle_eq, State.landControls_of_nil (by rw [State.latchFlags_controls, h])]
  exact ⟨rfl, rfl⟩

theorem step_of_powerDown {s : State} {m : PowerMode} (hp : s.powerDown = some m) (hr : s.input.reset = false)
    (he : s.emptyLeft = 0) (hi : s.interruptToTake = none) : step s = .next s.quiet := by
  simp [step, nextCycle, State.runCycle, hp, hr, he, hi]

/-- The end of a cycle with a write to CSR alone. -/
theorem State.endCycle_powerDown_of_writeCsr {s : State} {v : Word} (h : s.controls = [.write 1#5 v])
    (issues : List Issue) (seq : Word) :
    (s.endCycle issues seq).powerDown = (entersMode s v).or s.latchFlags.powerDown := by
  obtain ⟨-, -, -, -, -, -, hcsr, -⟩ := controlWritesLand s issues seq v _ rfl
  rw [hcsr h, State.endCycle_dropControls]
  rfl

theorem State.landingTargets_of_none {s : State} (h : NoBranchLands s) : s.landingTargets = [] := by
  have h : (s.branches.filter fun b => b.left == 0) = [] :=
    List.filter_eq_nil_iff.2 fun b hb => by simpa using h b hb
  rw [State.landingTargets, h, List.map_nil]

theorem State.takeInterrupt_power (s : State) (n : Nat) :
    (s.takeInterrupt n).powerDown = s.clearPowerDown.powerDown ∧ (s.takeInterrupt n).pwrd = s.clearPowerDown.pwrd := by
  unfold State.takeInterrupt
  dsimp only
  split <;> exact ⟨rfl, rfl⟩

/-- The four legal nonzero PWRD values enter their modes where power-down is supported. -/
theorem entersMode_of_legal {s : State} {v : Word} {n : Nat} {m : PowerMode} (hs : s.device.pwrdSupported = true)
    (hn : v.toNat / 2 ^ 10 % 64 = n) (h : (n, m) ∈ [(9, .pd1Enabled), (17, .pd1Any), (26, .pd2), (28, .pd3)]) :
    entersMode s v = some m := by
  unfold entersMode
  rw [if_pos hs, hn]
  simp only [List.mem_cons, Prod.mk.injEq, List.not_mem_nil, or_false] at h
  obtain ⟨rfl, rfl⟩ | ⟨rfl, rfl⟩ | ⟨rfl, rfl⟩ | ⟨rfl, rfl⟩ := h <;> rfl

/-- Settles O48: in power-down a step is a quiet cycle, and the mode goes by whether a rising flag ends it
(`State.latchFlags_power`). -/
theorem powerDown : Obligations.PowerDown := by
  refine ⟨fun s issues seq v n m h hn hm => ⟨fun hs => ?_, fun hs hp => ?_⟩, fun s m hp hr he hc hi => ?_, fun s hp => ?_,
    fun s n => ?_⟩
  · rw [State.endCycle_powerDown_of_writeCsr h, entersMode_of_legal hs hn hm]
    rfl
  · have hw : ¬ s.Wakes := fun hw => by simp [hw.1] at hp
    rw [State.endCycle_powerDown_of_writeCsr h, State.latchFlags_of_not_wakes hw, entersMode, hs]
    exact hp
  · obtain ⟨hpd, hpw⟩ := s.endCycle_power hc [] s.pc
    refine ⟨s.quiet, step_of_powerDown hp hr he hi, fun hx => ?_, ?_, fun hb => ?_, ?_⟩
    · rw [State.quiet, State.endCycle_mem, State.landExternal_of_none (State.external_of_base hx)]
    · rw [State.quiet, State.endCycle_history]; rfl
    · rw [State.quiet, State.endCycle_pc, State.landingTargets_of_none hb]; rfl
    · rw [State.quiet, hpd, hpw, State.endCycle_ifl, State.endCycle_nmif, ← State.flagRises_iff]
      rcases s.latchFlags_power with ⟨hw, h1, h2⟩ | ⟨hw, h1, h2⟩ <;> rw [h1, h2]
      · rw [hp]
        refine ⟨fun _ => rfl, fun _ => rfl, fun h => (by cases h), fun hm => ?_⟩
        exact ⟨fun h => (by cases h), fun hf => (hw ⟨hm ▸ hp, hf⟩).elim⟩
      · have hm : m = .pd1Any := Option.some.inj (hp.symm.trans hw.1)
        exact ⟨fun h => (h hm).elim, fun h => (by cases h), fun _ => rfl, fun _ => ⟨fun _ => hw.2, fun _ => rfl⟩⟩
  · have hn : s.interruptible = false := by
      rcases hp with hp | hp <;> simp [State.interruptible, hp]
    simp [State.interruptToTake, hn]
  · obtain ⟨h1, h2⟩ := s.takeInterrupt_power n
    rw [h1, h2]
    refine ⟨rfl, ?_⟩
    simp only [State.clearPowerDown, Bool.and_eq_true]

end Sys2Proof.Machine
end

section
/-! MVC: what reading and writing each control register gives (10_state.md R31 to R70, 43_compare_move.md R305). -/

set_option Elab.async false

namespace Sys2Proof.Machine

open Sys2Proof.Claims

/-! Operands. -/

theorem toNat_append_eq_add {m n : Nat} (x : BitVec m) (y : BitVec n) :
    (x ++ y).toNat = x.toNat * 2 ^ n + y.toNat := by
  rw [BitVec.toNat_append, ← Nat.shiftLeft_add_eq_or_of_lt y.isLt, Nat.shiftLeft_eq]

theorem cross_eq_crossSide (side : Side) (x : Bool) : cross side x = crossSide side x := by
  cases side <;> cases x <;> rfl

theorem State.srcX_eq (s : State) (side : Side) (x : Bool) (r : Reg) : s.srcX side x r = s.reg ⟨cross side x, r⟩ := by
  rw [cross_eq_crossSide, State.srcX]

theorem word_toNat (w : Word) : word w.toNat = w := by
  rw [word, BitVec.ofInt_natCast, BitVec.ofNat_toNat, BitVec.setWidth_eq]

/-! The highest-priority interrupt (10_state.md R59). -/

theorem lowestFrom_eq_find? (bits : BitVec 12) (n fuel : Nat) :
    lowestFrom bits n fuel = (List.range' n fuel).find? bits.getLsbD := by
  induction fuel generalizing n with
  | zero => rfl
  | succ fuel ih =>
    rw [lowestFrom, List.range'_succ, List.find?_cons, ih]
    cases bits.getLsbD n <;> rfl

theorem lowestInt_eq (bits : BitVec 12) : lowestInt bits = ((List.range 12).find? bits.getLsbD).map (· + 4) := by
  rw [lowestInt, lowestFrom_eq_find?, List.range_eq_range']

theorem State.hpeint_toNat (s : State) : s.hpeint.toNat = firstInterrupt s := by
  have hf : (s.ifl &&& s.ie).getLsbD = fun k => s.ifl.getLsbD k && s.ie.getLsbD k := by
    funext k; exact BitVec.getLsbD_and
  unfold State.hpeint firstInterrupt
  simp only [Bool.and_eq_true, lowestInt_eq, hf]
  split
  · rfl
  · cases h : (List.range 12).find? fun k => s.ifl.getLsbD k && s.ie.getLsbD k with
    | none => rfl
    | some k =>
      have hk : k < 12 := List.mem_range.1 (List.mem_of_find?_eq_some h)
      show (k + 4) % 32 = k + 4
      omega

/-! The readable registers as the sums of their fields. -/

theorem controlValue_amr (s : State) : controlValue s 0 = some (0#6 ++ s.amr : Word).toNat := by
  simp only [controlValue, toNat_append_eq_add, BitVec.toNat_ofNat]
  simp

theorem controlValue_csr (s : State) : controlValue s 1 = some s.csr.toNat := by
  simp only [controlValue, State.csr, toNat_append_eq_add, BitVec.toNat_ofBool]
  cases s.device.variant <;> cases s.device.endian <;> simp [Variant.cpuId, Endian.enBit] <;> ring

theorem controlValue_ifr (s : State) : controlValue s 2 = some s.ifr.toNat := by
  simp only [controlValue, State.ifr, toNat_append_eq_add, BitVec.toNat_ofBool, BitVec.toNat_ofNat, Option.some.injEq]
  omega

theorem controlValue_ier (s : State) : controlValue s 4 = some s.ier.toNat := by
  simp only [controlValue, State.ier, toNat_append_eq_add, BitVec.toNat_ofBool, BitVec.toNat_ofNat, Option.some.injEq]
  omega

theorem controlValue_istp (s : State) : controlValue s 5 = some s.istp.toNat := by
  simp only [controlValue, State.istp, toNat_append_eq_add, State.hpeint_toNat, BitVec.toNat_ofNat, Option.some.injEq]
  omega

theorem controlValue_pce1 (s : State) : controlValue s 16 = some s.pce1.toNat := by
  simp only [controlValue, State.pce1, toNat_append_eq_add, BitVec.extractLsb'_toNat, BitVec.toNat_ofNat,
    Nat.shiftRight_eq_div_pow, Option.some.injEq]
  omega

theorem FpConfig.bits_toNat (c : FpConfig) : c.bits.toNat = configValue c := by
  simp only [configValue, FpConfig.bits, toNat_append_eq_add, BitVec.toNat_ofNat]
  omega

/-! Reserved bits read as 0 (10_state.md R33). -/

theorem amr_reserved (s : State) : (0#6 ++ s.amr : Word) &&& reservedBits 0 = 0#32 := by
  show (0#6 ++ s.amr : Word) &&& (0x3F#6 ++ 0#26) = 0#6 ++ 0#26
  rw [BitVec.and_append, BitVec.and_zero, BitVec.zero_and]

theorem ifr_reserved (s : State) : s.ifr &&& reservedBits 2 = 0#32 := by
  show (0#16 ++ s.ifl ++ 0#2 ++ BitVec.ofBool s.nmif ++ 0#1 : Word) &&&
    (0xFFFF#16 ++ 0#12 ++ 3#2 ++ 0#1 ++ 0#1) = 0#16 ++ 0#12 ++ 0#2 ++ 0#1 ++ 0#1
  simp only [BitVec.and_append, BitVec.and_zero, BitVec.zero_and]

theorem ier_reserved (s : State) : s.ier &&& reservedBits 4 = 0#32 := by
  show (0#16 ++ s.ie ++ 0#2 ++ BitVec.ofBool s.nmie ++ 1#1 : Word) &&&
    (0xFFFF#16 ++ 0#12 ++ 3#2 ++ 0#1 ++ 0#1) = 0#16 ++ 0#12 ++ 0#2 ++ 0#1 ++ 0#1
  simp only [BitVec.and_append, BitVec.and_zero, BitVec.zero_and]

theorem FpConfig.bits_reserved (c : FpConfig) : c.bits &&& 0xF800F800#32 = 0#32 := by
  show (0#5 ++ c.b ++ 0#5 ++ c.a : Word) &&& (31#5 ++ 0#11 ++ 31#5 ++ 0#11) = 0#5 ++ 0#11 ++ 0#5 ++ 0#11
  simp only [BitVec.and_append, BitVec.and_zero, BitVec.zero_and]

theorem mem_readableControl (a : BitVec 5) :
    a ∈ readableControl ↔ a.toNat ∈ [0, 1, 2, 4, 5, 6, 7, 16, 18, 19, 20] := by
  revert a; decide

theorem mem_writableControl (a : BitVec 5) :
    a ∈ writableControl ↔ a.toNat ∈ [0, 1, 2, 3, 4, 5, 6, 7, 18, 19, 20] := by
  revert a; decide

theorem mem_of_controlValue {s : State} {k v : Nat} (h : controlValue s k = some v) :
    k ∈ [0, 1, 2, 4, 5, 6, 7, 16, 18, 19, 20] := by
  unfold controlValue at h
  split at h
  case h_12 => cases h
  all_goals decide

theorem State.control_of_not_readable (s : State) {a : BitVec 5} (h : a ∉ readableControl) : s.control a = none := by
  simp only [readableControl, List.mem_cons, List.not_mem_nil, or_false, not_or] at h
  obtain ⟨h0, h1, h2, h4, h5, h6, h7, h16, h18, h19, h20⟩ : a ≠ 0#5 ∧ a ≠ 1#5 ∧ a ≠ 2#5 ∧ a ≠ 4#5 ∧ a ≠ 5#5 ∧ a ≠ 6#5 ∧
    a ≠ 7#5 ∧ a ≠ 16#5 ∧ a ≠ 18#5 ∧ a ≠ 19#5 ∧ a ≠ 20#5 := h
  simp [State.control, *]

/-- The word that a read of a readable address gives: the register's fields, its reserved bits 0. -/
theorem control_of_controlValue {s : State} {a : BitVec 5} {v : Nat} (h : controlValue s a.toNat = some v) :
    ∃ w, s.control a = some w ∧ w.toNat = v ∧ w &&& reservedBits a.toNat = 0#32 := by
  have value {k : Nat} {w : Word} (ha : a.toNat = k) (hk : controlValue s k = some w.toNat) : w.toNat = v :=
    Option.some.inj (hk.symm.trans (ha ▸ h))
  have known : a ∈ readableControl := (mem_readableControl a).2 (mem_of_controlValue h)
  simp only [readableControl, List.mem_cons, List.not_mem_nil, or_false] at known
  rcases known with rfl | rfl | rfl | rfl | rfl | rfl | rfl | rfl | rfl | rfl | rfl
  · exact ⟨0#6 ++ s.amr, rfl, value rfl (controlValue_amr s), amr_reserved s⟩
  · exact ⟨s.csr, rfl, value rfl (controlValue_csr s), BitVec.and_zero⟩
  · exact ⟨s.ifr, rfl, value rfl (controlValue_ifr s), ifr_reserved s⟩
  · exact ⟨s.ier, rfl, value rfl (controlValue_ier s), ier_reserved s⟩
  · exact ⟨s.istp, rfl, value rfl (controlValue_istp s), BitVec.and_zero⟩
  · exact ⟨s.irp, rfl, value rfl rfl, BitVec.and_zero⟩
  · exact ⟨s.nrp, rfl, value rfl rfl, BitVec.and_zero⟩
  · exact ⟨s.pce1, rfl, value rfl (controlValue_pce1 s), BitVec.and_zero⟩
  · exact ⟨_, rfl, value rfl (congrArg some s.fadcr.bits_toNat.symm), s.fadcr.bits_reserved⟩
  · exact ⟨_, rfl, value rfl (congrArg some s.faucr.bits_toNat.symm), s.faucr.bits_reserved⟩
  · exact ⟨_, rfl, value rfl (congrArg some s.fmcr.bits_toNat.symm), s.fmcr.bits_reserved⟩

/-! MVC from a control register. -/

theorem exec_mvcRead_of_control {o : MvcRead} {s : State} {w : Word} (hc : s.holds o.cond = true)
    (h : s.control o.creg = some w) : exec (.mvcRead o) s = .next (queue s [lands .b o.dst 0 w]) := by
  show guarded o.cond s _ = _
  rw [guarded_of_true _ hc, h]
  rfl

/-- Settles O17: the word an address reads as is the sum of its register's fields (`control_of_controlValue`). -/
theorem controlRegisterReads : Obligations.ControlRegisterReads := by
  intro o s v hc h
  obtain ⟨w, hw, rfl, -⟩ := control_of_controlValue h
  exact ⟨w.isLt, by rw [word_toNat]; exact exec_mvcRead_of_control hc hw⟩

/-! What a write takes from its value. -/

section
variable {v w m : Word} (h : (v ^^^ w) &&& ~~~m = 0#32)
include h

/-- Two values that agree outside a mask agree in each bit outside it. -/
theorem getLsbD_eq_of_masked {k : Nat} (hk : k < 32) (hm : m.getLsbD k = false) : v.getLsbD k = w.getLsbD k := by
  have hx := congrArg (·.getLsbD k) h
  simp only [BitVec.getLsbD_and, BitVec.getLsbD_xor, BitVec.getLsbD_not, hk, hm, BitVec.getLsbD_zero, decide_true,
    Bool.not_false, Bool.and_true] at hx
  exact bne_eq_false_iff_eq.1 hx

theorem eq_of_masked (hm : m = 0#32) : v = w :=
  BitVec.eq_of_getLsbD_eq fun k hk => getLsbD_eq_of_masked h hk (by simp [hm])

/-- They agree in a field that the mask does not touch. -/
theorem extractLsb'_eq_of_masked {i n : Nat} (hin : i + n ≤ 32) (hm : m.extractLsb' i n = 0#n) :
    v.extractLsb' i n = w.extractLsb' i n := by
  apply BitVec.eq_of_getLsbD_eq
  intro k hk
  have hmk := congrArg (·.getLsbD k) hm
  simp only [BitVec.getLsbD_extractLsb', hk, decide_true, Bool.true_and, BitVec.getLsbD_zero] at hmk ⊢
  exact getLsbD_eq_of_masked h (by omega) hmk

end

/-- The addresses of the registers with reserved bits, and the others. -/
theorem reservedForWrite_cases (a : BitVec 5) :
    a = 0#5 ∨ a = 2#5 ∨ a = 3#5 ∨ a = 4#5 ∨ a = 18#5 ∨ a = 19#5 ∨ a = 20#5 ∨ reservedForWrite a.toNat = 0#32 := by
  revert a; decide

theorem FpConfig.ofBits_eq_of_masked {v w : Word} (h : (v ^^^ w) &&& ~~~0xF800F800#32 = 0#32) :
    FpConfig.ofBits v = FpConfig.ofBits w := by
  rw [FpConfig.ofBits, extractLsb'_eq_of_masked h (by decide) (by decide),
    extractLsb'_eq_of_masked (i := 16) h (by decide) (by decide), FpConfig.ofBits]

/-- A write stores no reserved bit. -/
theorem State.applyControl_eq_of_masked (s : State) {a : BitVec 5} {v w : Word}
    (h : (v ^^^ w) &&& ~~~reservedForWrite a.toNat = 0#32) :
    s.applyControl (.write a v) = s.applyControl (.write a w) := by
  rcases reservedForWrite_cases a with rfl | rfl | rfl | rfl | rfl | rfl | rfl | h0
  · show ({ s with amr := v.extractLsb' 0 26 } : State) = _
    rw [extractLsb'_eq_of_masked h (by decide) (by decide)]; rfl
  · show ({ s with isrPend := v.extractLsb' 4 12 } : State) = _
    rw [extractLsb'_eq_of_masked h (by decide) (by decide)]; rfl
  · show ({ s with icrPend := v.extractLsb' 4 12 } : State) = _
    rw [extractLsb'_eq_of_masked h (by decide) (by decide)]; rfl
  · show ({ s with ie := v.extractLsb' 4 12, nmie := s.nmie || v.getLsbD 1 } : State) = _
    rw [extractLsb'_eq_of_masked h (by decide) (by decide), getLsbD_eq_of_masked h (by decide) (by decide)]; rfl
  · show ({ s with fadcr := FpConfig.ofBits v } : State) = _
    rw [FpConfig.ofBits_eq_of_masked h]; rfl
  · show ({ s with faucr := FpConfig.ofBits v } : State) = _
    rw [FpConfig.ofBits_eq_of_masked h]; rfl
  · show ({ s with fmcr := FpConfig.ofBits v } : State) = _
    rw [FpConfig.ofBits_eq_of_masked h]; rfl
  · rw [eq_of_masked h h0]

/-- Settles O39: reads by `control_of_controlValue`, writes by the fields each address stores. -/
theorem reservedControlBits : Obligations.ReservedControlBits := by
  refine ⟨fun s o v h hc => ?_, fun s a v w h => s.applyControl_eq_of_masked h⟩
  obtain ⟨w, hw, rfl, hr⟩ := control_of_controlValue h
  rw [BitVec.ofNat_toNat, BitVec.setWidth_eq]
  exact ⟨hr, exec_mvcRead_of_control hc hw⟩

/-! MVC to a control register. -/

theorem powerField_eq_reserved (v : Word) :
    powerField (v.extractLsb' 10 6) = .reserved ↔ v.toNat / 2 ^ 10 % 64 ∉ [0x00, 0x09, 0x11, 0x1A, 0x1C] := by
  rw [← pwrdField_toNat]
  generalize v.extractLsb' 10 6 = x
  revert x; decide

theorem State.reservedPower_iff (s : State) (v : Word) :
    s.reservedPower v = true ↔
      s.device.pwrdSupported = true ∧ v.toNat / 2 ^ 10 % 64 ∉ [0x00, 0x09, 0x11, 0x1A, 0x1C] := by
  rw [State.reservedPower, Bool.and_eq_true, beq_iff_eq, powerField_eq_reserved]

/-- Settles O18: by whether the address is one the spec defines, and whether the value written is a reserved PWRD. -/
theorem controlRegisterWrites : Obligations.ControlRegisterWrites := by
  have csr (a : BitVec 5) : a = 1#5 ↔ a.toNat = 1 := by revert a; decide
  refine ⟨fun o s hc hr => ⟨s.freeWord, ?_⟩, fun o s hc hw => ?_, fun o s hc hw hp => ?_, fun o s hc h1 hs hp =>
    ⟨freePower s.free, ?_⟩⟩
  · show guarded o.cond s _ = _
    rw [guarded_of_true _ hc, s.control_of_not_readable (mt (mem_readableControl _).1 hr)]
    rfl
  · show guarded o.cond s _ = _
    rw [guarded_of_true _ hc, if_pos (mt (mem_writableControl _).1 hw)]
  · have hn : ¬(o.creg = 1#5 ∧ s.reservedPower (s.srcX .b o.x o.src2) = true) := by
      rw [csr, State.reservedPower_iff, State.srcX_eq]
      exact fun ⟨h1, hs, hv⟩ => hv (hp h1 hs)
    show guarded o.cond s _ = _
    rw [guarded_of_true _ hc, if_neg (not_not.2 ((mem_writableControl _).2 hw)), if_neg hn, State.srcX_eq]
    rfl
  · have hr : o.creg = 1#5 ∧ s.reservedPower (s.srcX .b o.x o.src2) = true := by
      rw [csr, State.reservedPower_iff, State.srcX_eq]
      exact ⟨h1, hs, hp⟩
    have hw : o.creg ∈ writableControl := by rw [hr.1]; decide
    show guarded o.cond s _ = _
    rw [guarded_of_true _ hc, if_neg (not_not.2 hw), if_pos hr, State.srcX_eq]
    simp only [State.putControl, State.draw, List.append_assoc, List.cons_append, List.nil_append]

end Sys2Proof.Machine
end

section
/-! Results the spec leaves undefined: a free value is drawn and nothing else changes (93_implementation_defined.md U3,
U14, U15). -/

set_option Elab.async false

namespace Sys2Proof.Machine

open Sys2Proof.Claims

/-- An instruction whose result is open draws a free word for it. -/
theorem issueOpen_of_none {c : Cond} {side : Side} {dst : Reg} {v : Option Word} {s : State} (hc : s.holds c = true)
    (hv : v = none) :
    ∃ w, issueOpen c side dst v s = .next { queue s [lands side dst 0 w] with free := s.free + 1 } := by
  subst hv
  exact ⟨s.freeWord, guarded_of_true _ hc⟩

theorem execSshl_of_undefined {o : Bin Reg Reg Reg} {s : State} (hc : s.holds o.cond = true)
    (h : 31 < (s.reg ⟨o.side, o.src1⟩).toNat) :
    ∃ v b, execSshl o s = .next
      { queue s [lands o.side o.dst 0 v] with sats := s.sats ++ [⟨1, b⟩], free := s.free + 2 } := by
  refine ⟨s.freeWord, freeBit (s.free + 1), ?_⟩
  rw [execSshl, State.src, if_neg (Nat.not_le_of_lt h), guarded_of_true _ hc]
  rfl

/-! The reserved AMR mode (10_state.md R35). -/

theorem addressMode_eq (s : State) (side : Side) (r : Reg) : addressMode s side r = (amrMode s.amr ⟨side, r⟩).toNat := by
  have hn : ∀ r : Reg, (4 ≤ r.toNat ∧ r.toNat ≤ 7 ↔ r.extractLsb' 2 3 = 0b001#3) ∧
      (r.extractLsb' 2 3 = 0b001#3 → (r.extractLsb' 0 2).toNat = r.toNat - 4) := by decide
  obtain ⟨hiff, hlow⟩ := hn r
  unfold addressMode amrMode
  dsimp only
  by_cases h : r.extractLsb' 2 3 = 0b001#3
  · rw [if_pos (hiff.2 h), if_pos h, hlow h, BitVec.extractLsb'_toNat, Nat.shiftRight_eq_div_pow]
    cases side <;> rfl
  · rw [if_neg (mt hiff.1 h), if_neg h]
    rfl

theorem State.amrStep_of_reserved {s : State} {side : Side} {r : Reg} (h : addressMode s side r = 3) (b o : Word)
    (subtract : Bool) : s.amrStep ⟨side, r⟩ b o subtract = none := by
  rw [addressMode_eq] at h
  have hm : amrMode s.amr ⟨side, r⟩ = 3#2 := BitVec.eq_of_toNat_eq h
  simp [State.amrStep, hm]

/-! Bit fields (42_logic_shift_bitfield.md R269 to R272). -/

theorem clearField_of_gt {v : Word} {b e : BitVec 5} (h : ¬ b ≤ e) : clearField v b e = none := if_neg h

theorem setField_of_gt {v : Word} {b e : BitVec 5} (h : ¬ b ≤ e) : setField v b e = none := if_neg h

theorem ifOrdered_of_gt {v : Word} {b e : BitVec 5} (h : ¬ b ≤ e) : ifOrdered b e v = none := if_neg h

/-- A register form is undefined where upper bits of src1 are set or its field is not ordered. -/
theorem ifFieldBits_of_undefined {v : Word} {r : Option Word} (h : 1024 ≤ v.toNat ∨ v.toNat % 32 < v.toNat / 32)
    (hr : ¬ startBits v ≤ endBits v → r = none) : ifFieldBits v r = none := by
  unfold ifFieldBits
  split
  · rename_i hz
    apply hr
    have hz := congrArg BitVec.toNat hz
    simp only [BitVec.extractLsb'_toNat, Nat.shiftRight_eq_div_pow, BitVec.toNat_ofNat] at hz
    simp only [BitVec.le_def, startBits, endBits, BitVec.extractLsb'_toNat, Nat.shiftRight_eq_div_pow]
    omega
  · rfl

/-- Settles O3: each of these instructions is an open one (`issueOpen_of_none`) whose result the model gives as none. -/
theorem undefinedResultsAreFree : Obligations.UndefinedResultsAreFree := by
  refine ⟨fun o s hc h => execSshl_of_undefined hc h, ?_, ?_, ?_, ?_, ?_, ?_, ?_, ?_, ?_, ?_, ?_, ?_, ?_, ?_,
    fun o s hc h => ?clrConst, fun o s hc h => ?setConst, fun o s hc h => ?clr, fun o s hc h => ?set,
    fun o s hc h => ?ext, fun o s hc h => ?extu⟩
  case clrConst => exact issueOpen_of_none hc (clearField_of_gt (Nat.not_le_of_lt h))
  case setConst => exact issueOpen_of_none hc (setField_of_gt (Nat.not_le_of_lt h))
  case clr => exact issueOpen_of_none hc (ifFieldBits_of_undefined h clearField_of_gt)
  case set => exact issueOpen_of_none hc (ifFieldBits_of_undefined h setField_of_gt)
  case ext => exact issueOpen_of_none hc (ifFieldBits_of_undefined h ifOrdered_of_gt)
  case extu => exact issueOpen_of_none hc (ifFieldBits_of_undefined h ifOrdered_of_gt)
  all_goals exact fun o s hc h => issueOpen_of_none hc (State.amrStep_of_reserved h _ _ _)

end Sys2Proof.Machine
end

section
/-! The floating-point instructions: operands, rounding mode, landing cycles and warning register
(40_execution_model.md R173, R177; 10_state.md R64 to R72). -/

set_option Elab.async false

namespace Sys2Proof.Machine

open Sys2Proof.Claims

/-! Issuing. -/

section
variable {c : Cond} {side : Side} {left : Nat} {cfg : FpReg} {mask : BitVec 11} {r r' : FpResult}
  {watch watch' : List RegName} {n : Nat} {s : State}

/-- A 32-bit result and its warnings are queued for one cycle. -/
theorem issueFp32_of_true {dst : Reg} (hc : s.holds c = true) (hr : r = r') (hw : watch = watch' := by rfl) :
    issueFp32 c side dst left cfg mask r watch n s = .next (fpWord s side dst left cfg mask r' watch' n) := by
  subst hr hw
  exact guarded_of_true _ hc

/-- A 64-bit result is queued as two words, its warnings with the high one. -/
theorem issueFp64_of_true {dst : Pair} (hc : s.holds c = true) (hr : r = r') (hw : watch = watch' := by rfl) :
    issueFp64 c side dst left cfg mask r watch n s = .next (fpPair s side dst left cfg mask r' watch' n) := by
  subst hr hw
  have hlow : (BitVec.ofNat 64 r.bits).extractLsb' 0 32 = BitVec.ofNat 32 r.bits := by
    apply BitVec.eq_of_toNat_eq
    simp only [BitVec.extractLsb'_toNat, BitVec.toNat_ofNat, Nat.shiftRight_eq_div_pow]
    omega
  have hhigh : (BitVec.ofNat 64 r.bits).extractLsb' 32 32 = BitVec.ofNat 32 (r.bits / 2 ^ 32) := by
    apply BitVec.eq_of_toNat_eq
    simp only [BitVec.extractLsb'_toNat, BitVec.toNat_ofNat, Nat.shiftRight_eq_div_pow]
    omega
  rw [issueFp64, guarded_of_true _ hc, State.putDouble, hlow, hhigh]
  simp only [State.putWatched, State.putWarn, List.append_assoc, List.cons_append, List.nil_append]
  rfl

end

/-! Operands and modes. -/

section
variable (s : State) (side : Side) (x : Bool)

theorem State.fpMode_fadcr : s.fpMode .fadcr side = mode s.device (half s.fadcr side) := by
  cases side <;> rfl

theorem State.fpMode_fmcr : s.fpMode .fmcr side = mode s.device (half s.fmcr side) := by
  cases side <;> rfl

theorem State.srcDouble_toNat (p : Pair) : (s.srcDouble side p).toNat = pairBits s side p := by
  rw [State.srcDouble, toNat_append_eq_add, pairBits, lowName, highName]
  omega

theorem State.ofNat_pairBits (p : Pair) : BitVec.ofNat 64 (pairBits s side p) = s.srcDouble side p := by
  rw [← State.srcDouble_toNat, BitVec.ofNat_toNat, BitVec.setWidth_eq]

theorem State.sp_src (r : Reg) : sp (s.src side r) = unpack single (s.reg ⟨side, r⟩).toNat := rfl

theorem State.sp_srcX (r : Reg) : sp (s.srcX side x r) = unpack single (s.reg ⟨cross side x, r⟩).toNat := by
  rw [State.srcX_eq, sp]

theorem State.dp_srcDouble (p : Pair) : dp (s.srcDouble side p) = unpack double (pairBits s side p) := by
  rw [dp, State.srcDouble_toNat]

theorem State.dp_srcDoubleX (p : Pair) :
    dp (s.srcDoubleX side x p) = unpack double (pairBits s (cross side x) p) := by
  rw [State.srcDoubleX, State.dp_srcDouble, cross_eq_crossSide]

theorem pairNames_crossSide (p q : Pair) :
    pairNames side (crossSide side x) p q = pairRegs side p ++ pairRegs (cross side x) q := by
  rw [cross_eq_crossSide]; rfl

theorem pairNames_crossSide_left (p q : Pair) :
    pairNames (crossSide side x) side p q = pairRegs (cross side x) p ++ pairRegs side q := by
  rw [cross_eq_crossSide]; rfl

end

/-- The reverse subtract is the sum of the first source with its sign inverted and the second. -/
theorem Fp.negate_eq_inverted (a : Fp) : a.negate = inverted a := by
  cases a <;> rfl

/-- Settles O19: each form issues the sum or difference of its operands. -/
theorem floatSumTiming : Obligations.FloatSumTiming := by
  refine ⟨fun o s hc => ?_, fun o s hc => ?_, fun o s hc => ?_, fun o s hc => ?_, fun o s hc => ?_, fun o s hc => ?_,
    fun o s hc => ?_, fun o s hc => ?_, fun o s hc => ?_, fun o s hc => ?_, fun o s hc => ?_, fun o s hc => ?_⟩
  · exact issueFp32_of_true hc (by rw [State.fpMode_fadcr, State.sp_src, State.sp_srcX])
  · exact issueFp32_of_true hc (by rw [State.fpMode_fadcr, State.sp_src, State.sp_srcX])
  · exact issueFp32_of_true hc (by rw [State.fpMode_fadcr, State.sp_src, State.sp_srcX])
  · exact issueFp32_of_true hc (by rw [State.fpMode_fadcr, State.sp_src, State.sp_srcX])
  · exact issueFp32_of_true hc (by rw [subEither, State.fpMode_fadcr, State.sp_src, State.sp_srcX]; rfl)
  · exact issueFp64_of_true hc (by rw [State.fpMode_fadcr, State.dp_srcDouble, State.dp_srcDoubleX])
      (pairNames_crossSide ..)
  · exact issueFp64_of_true hc (by rw [State.fpMode_fadcr, State.dp_srcDouble, State.dp_srcDoubleX])
      (pairNames_crossSide ..)
  · exact issueFp64_of_true hc (by rw [State.fpMode_fadcr, State.dp_srcDouble, State.dp_srcDoubleX])
      (pairNames_crossSide ..)
  · exact issueFp64_of_true hc (by rw [State.fpMode_fadcr, State.dp_srcDouble, State.dp_srcDoubleX])
      (pairNames_crossSide_left ..)
  · exact issueFp64_of_true hc (by rw [subEither, State.fpMode_fadcr, State.dp_srcDouble, State.dp_srcDoubleX]; rfl)
      (pairNames_crossSide ..)
  · exact issueFp32_of_true hc
      (by rw [subEither, State.fpMode_fadcr, State.sp_src, State.sp_srcX, Fp.negate_eq_inverted]; rfl)
  · exact issueFp64_of_true hc
      (by rw [subEither, State.fpMode_fadcr, State.dp_srcDouble, State.dp_srcDoubleX, Fp.negate_eq_inverted]; rfl)
      (pairNames_crossSide ..)

/-- Settles O20: each form issues the product of its operands. -/
theorem floatProductTiming : Obligations.FloatProductTiming := by
  refine ⟨fun o s hc => ?_, fun o s hc => ?_, fun o s hc => ?_, fun o s hc => ?_⟩
  · exact issueFp32_of_true hc (by rw [State.fpMode_fmcr, State.sp_src, State.sp_srcX])
  · exact issueFp64_of_true hc (by rw [State.fpMode_fmcr, State.dp_srcDouble, State.dp_srcDoubleX])
      (pairNames_crossSide ..)
  · exact issueFp64_of_true hc (by rw [State.fpMode_fmcr, State.sp_src, State.dp_srcDoubleX])
      (by rw [cross_eq_crossSide]; rfl)
  · exact issueFp64_of_true hc (by rw [State.fpMode_fmcr, State.sp_src, State.sp_srcX])

/-- Settles O21: each form issues the value of its operands; the tables read the source's own bits. -/
theorem floatAuxiliaryTiming : Obligations.FloatAuxiliaryTiming := by
  refine ⟨fun o s hc => ?_, fun o s hc => ?_, fun o s hc => ?_, fun o s hc => ?_, fun o s hc => ?_, fun o s hc => ?_,
    fun o s hc => ?_, fun o s hc => ?_, fun o s hc => ?_, fun o s hc => ?_, fun o s hc => ?_, fun o s hc => ?_⟩
  · exact issueFp32_of_true hc (by rw [State.sp_srcX, State.srcX_eq])
  · exact issueFp64_of_true hc (by rw [State.dp_srcDouble, State.srcDouble_toNat])
  · exact issueFp32_of_true hc (by rw [State.sp_srcX, State.srcX_eq])
  · exact issueFp64_of_true hc (by rw [State.dp_srcDouble, State.ofNat_pairBits])
  · exact issueFp32_of_true hc (by rw [State.sp_srcX, State.srcX_eq])
  · exact issueFp64_of_true hc (by rw [State.dp_srcDouble, State.ofNat_pairBits])
  · exact issueFp32_of_true hc (by rw [State.sp_src, State.sp_srcX]; rfl)
  · exact issueFp32_of_true hc (by rw [State.dp_srcDouble, State.dp_srcDoubleX]; rfl) (pairNames_crossSide ..)
  · exact issueFp32_of_true hc (by rw [State.sp_src, State.sp_srcX]; rfl)
  · exact issueFp32_of_true hc (by rw [State.dp_srcDouble, State.dp_srcDoubleX]; rfl) (pairNames_crossSide ..)
  · exact issueFp32_of_true hc (by rw [State.sp_src, State.sp_srcX]; rfl)
  · exact issueFp32_of_true hc (by rw [State.dp_srcDouble, State.dp_srcDoubleX]; rfl) (pairNames_crossSide ..)

/-- Settles O22: each form issues its operand's value, rounded by RMODE, truncated, or exact. -/
theorem floatConversionTiming : Obligations.FloatConversionTiming := by
  refine ⟨fun o s hc => ?_, fun o s hc => ?_, fun o s hc => ?_, fun o s hc => ?_, fun o s hc => ?_, fun o s hc => ?_,
    fun o s hc => ?_, fun o s hc => ?_, fun o s hc => ?_, fun o s hc => ?_⟩
  · exact issueFp32_of_true hc (by rw [State.fpMode_fadcr, State.dp_srcDouble])
  · exact issueFp32_of_true hc (by rw [State.dp_srcDouble]; rfl)
  · exact issueFp32_of_true hc (by rw [State.fpMode_fadcr, State.sp_srcX])
  · exact issueFp32_of_true hc (by rw [State.sp_srcX]; rfl)
  · exact issueFp64_of_true hc (by rw [State.fpMode_fadcr, State.srcX_eq])
  · exact issueFp64_of_true hc (by rw [State.fpMode_fadcr, State.srcX_eq])
  · exact issueFp32_of_true hc (by rw [State.fpMode_fadcr, State.srcX_eq])
  · exact issueFp32_of_true hc (by rw [State.fpMode_fadcr, State.srcX_eq])
  · exact issueFp32_of_true hc (by rw [State.fpMode_fadcr, State.dp_srcDouble])
  · exact issueFp64_of_true hc (by rw [State.sp_srcX]; rfl)

end Sys2Proof.Machine
end

section
/-! The decoder reads back what the encoder writes (30_encoding.md R130 to R149). Both are followed row by row: `rowOf` is
the row that a word's bits 12-2 select, and for each shape of row one lemma says that a word of that shape is read back. -/

set_option Elab.async false

namespace Sys2Proof

/-! The row of a word (30_encoding.md R148). -/

/-- The row that bits 12-2 select: the formats' tests and opfields in the decoder's order. -/
def rowOf (b : BitVec 11) : Word → Except Reject Instr :=
  if b.extractLsb' 0 2 = 0b01#2 then findRow lsRows (b.extractLsb' 6 1 ++ b.extractLsb' 2 3)
  else if b.extractLsb' 0 2 = 0b11#2 then findRow lskRows (b.extractLsb' 2 3)
  else if b.extractLsb' 0 3 = 0b110#3 then findRow lRows (b.extractLsb' 3 7)
  else if b.extractLsb' 0 4 = 0b1000#4 then findRow sRows (b.extractLsb' 4 6)
  else if b.extractLsb' 0 4 = 0b1100#4 then
    if b.getLsbD 9 then fun _ => .error .unassigned else findRow mxRows (b.extractLsb' 4 5)
  else if b.extractLsb' 0 4 = 0b1010#4 then decConst16 (if b.getLsbD 4 then .mvkh else .mvk)
  else if b.extractLsb' 0 4 = 0b0010#4 then findRow sfRows (b.extractLsb' 4 2)
  else if b.extractLsb' 0 5 = 0b10000#5 then findRow dRows (b.extractLsb' 5 6)
  else if b.extractLsb' 0 5 = 0b10100#5 then decConst16 .addk
  else if b.extractLsb' 0 5 = 0b00100#5 then decDisp
  else if b.extractLsb' 5 5 = 0#5 then decNop
  else findRow mRows (b.extractLsb' 5 5)

theorem extractLsb'_formatBits {start len : Nat} (w : Word) (h : start + len ≤ 11) :
    (w.extractLsb' 2 11).extractLsb' start len = w.extractLsb' (2 + start) len := by
  apply BitVec.eq_of_getLsbD_eq
  intro i hi
  simp only [BitVec.getLsbD_extractLsb', Nat.add_assoc]
  have : start + i < 11 := by omega
  simp [this]

theorem getLsbD_formatBits {k : Nat} (w : Word) (h : k < 11) :
    (w.extractLsb' 2 11).getLsbD k = w.getLsbD (2 + k) := by
  simp [h]

/-- The decoder reads a word by the row of its bits 12-2. -/
theorem decode_eq_rowOf (w : Word) : decode w = rowOf (w.extractLsb' 2 11) w := by
  simp only [decode, rowOf, extractLsb'_formatBits, getLsbD_formatBits, ite_apply, Nat.reduceAdd, Nat.reduceLeDiff,
    Nat.reduceLT]

/-! The fields of an encoded word. -/

@[simp] theorem except_ok_bind {ε α β : Type} (a : α) (f : α → Except ε β) : (Except.ok a >>= f) = f a := rfl

@[simp] theorem Cond.ofBits_bits (c : Cond) : Cond.ofBits c.bits = .ok c := by
  rcases c with _ | r | r
  · rfl
  · cases r <;> rfl
  · cases r <;> rfl

@[simp] theorem Side.ofBit_bit (s : Side) : Side.ofBit s.bit[0] = s := by cases s <;> rfl

@[simp] theorem getElem_crossBit (x : Bool) : (crossBit x)[0] = x := by cases x <;> rfl

@[simp] theorem pairField_even (p : Pair) : pairField (Pair.even p) = .ok p := by revert p; decide

@[simp] theorem ucst4Field_zeroExtended (k : Ucst4) : ucst4Field (0#1 ++ k) = .ok k := by revert k; decide

@[simp] theorem modeField_modeBits (m : AddrMode) (f : Offset) :
    decMem.modeField (assembleMem.modeBits m f) (assembleMem.offsetBits f) = .ok (m, f) := by
  cases m <;> cases f <;> rfl

theorem pBit_append (x : BitVec 31) (p : Bool) : pBit (x ++ BitVec.ofBool p) = p := by
  rw [pBit, BitVec.getLsbD_append, if_pos (by decide)]
  cases p <;> rfl

/-- The two lowest fields of three, as one. -/
theorem extractLsb'_append_append {l m n : Nat} (x : BitVec l) (y : BitVec m) (z : BitVec n) :
    (x ++ y ++ z).extractLsb' 0 (m + n) = y ++ z := by
  apply BitVec.eq_of_getLsbD_eq
  intro i hi
  simp only [BitVec.getLsbD_extractLsb', BitVec.getLsbD_append, hi, Nat.zero_add]
  split
  · rfl
  · rw [if_pos (by omega)]; rfl

section
variable (c : Cond) (dst src2 src1 : BitVec 5) (x : BitVec 1) (low : BitVec 10) (s : Side) (p : Bool)

@[simp] theorem formatBits_assemble : (assemble c dst src2 src1 x low s p).extractLsb' 2 11 = x ++ low := by
  rw [assemble, BitVec.extractLsb'_append_eq_of_le (by decide), BitVec.extractLsb'_append_eq_of_le (by decide)]
  exact extractLsb'_append_append ..

@[simp] theorem condBits_assemble : condBits (assemble c dst src2 src1 x low s p) = c.bits := by
  simp (disch := decide) only [condBits, assemble, BitVec.extractLsb'_append_eq_of_le, Nat.reduceSub,
    BitVec.extractLsb'_eq_self]

@[simp] theorem dstBits_assemble : dstBits (assemble c dst src2 src1 x low s p) = dst := by
  simp (disch := decide) only [dstBits, assemble, BitVec.extractLsb'_append_eq_of_le, Nat.reduceSub,
    BitVec.extractLsb'_append_eq_right]

@[simp] theorem src2Bits_assemble : src2Bits (assemble c dst src2 src1 x low s p) = src2 := by
  simp (disch := decide) only [src2Bits, assemble, BitVec.extractLsb'_append_eq_of_le, Nat.reduceSub,
    BitVec.extractLsb'_append_eq_right]

@[simp] theorem src1Bits_assemble : src1Bits (assemble c dst src2 src1 x low s p) = src1 := by
  simp (disch := decide) only [src1Bits, assemble, BitVec.extractLsb'_append_eq_of_le, Nat.reduceSub,
    BitVec.extractLsb'_append_eq_right]

@[simp] theorem xBit_assemble : xBit (assemble c dst src2 src1 x low s p) = x[0] := by
  simp (disch := decide) only [xBit, assemble, BitVec.getLsbD_append, if_neg, if_pos, Nat.reduceSub]
  exact BitVec.getLsbD_eq_getElem _

@[simp] theorem getElem_one_assemble : (assemble c dst src2 src1 x low s p)[1] = s.bit[0] := by
  simp (disch := decide) only [← BitVec.getLsbD_eq_getElem, assemble, BitVec.getLsbD_append, if_neg, if_pos,
    Nat.reduceSub]

@[simp] theorem sideBit_assemble : sideBit (assemble c dst src2 src1 x low s p) = s := by
  simp [sideBit]

end

/-- The instruction has a word for each p-bit, and the word decodes to what it assembles to. -/
def Encodes (i : Instr) : Prop := ∀ p, ∃ w, encode p i = some w ∧ decode w = .ok i.expand ∧ pBit w = p

/-- A word of the formats L, S, D, M and Mx is read back if its row reads it back. -/
theorem encodes_assemble {i : Instr} {c : Cond} {dst src2 src1 : BitVec 5} {x : BitVec 1} {low : BitVec 10} {s : Side}
    {f : Word → Except Reject Instr} (he : ∀ p, encode p i = some (assemble c dst src2 src1 x low s p))
    (hrow : rowOf (x ++ low) = f) (hf : ∀ p, f (assemble c dst src2 src1 x low s p) = .ok i.expand) : Encodes i := by
  intro p
  refine ⟨_, he p, ?_, pBit_append ..⟩
  rw [decode_eq_rowOf, formatBits_assemble, hrow, hf p]

section
variable {α β γ : Type} {f1 : BitVec 5 → Except Reject α} {f2 : BitVec 5 → Except Reject β}
  {fd : BitVec 5 → Except Reject γ} {dst src2 src1 : BitVec 5} {low : BitVec 10} {i : Instr}

theorem encodes_bin {k : Bin α β γ → Instr} {o : Bin α β γ}
    (he : ∀ p, encode p i = some (assemble o.cond dst src2 src1 (crossBit o.x) low o.side p))
    (hrow : ∀ x, rowOf (crossBit x ++ low) = decBin f1 f2 fd k) (hi : i.expand = k o)
    (h1 : f1 src1 = .ok o.src1) (h2 : f2 src2 = .ok o.src2) (hd : fd dst = .ok o.dst) : Encodes i :=
  encodes_assemble he (hrow o.x) fun p => by simp [decBin, h1, h2, hd, hi]

theorem encodes_binN {k : BinN α β γ → Instr} {o : BinN α β γ} {x : BitVec 1}
    (he : ∀ p, encode p i = some (assemble o.cond dst src2 src1 x low o.side p))
    (hrow : rowOf (x ++ low) = decBinN f1 f2 fd k) (hi : i.expand = k o)
    (h1 : f1 src1 = .ok o.src1) (h2 : f2 src2 = .ok o.src2) (hd : fd dst = .ok o.dst) : Encodes i :=
  encodes_assemble he hrow fun p => by simp [decBinN, h1, h2, hd, hi]

theorem encodes_un {k : Un β γ → Instr} {o : Un β γ}
    (he : ∀ p, encode p i = some (assemble o.cond dst src2 src1 (crossBit o.x) low o.side p))
    (hrow : ∀ x, rowOf (crossBit x ++ low) = decUn f2 fd k) (hi : i.expand = k o)
    (h2 : f2 src2 = .ok o.src2) (hd : fd dst = .ok o.dst) : Encodes i :=
  encodes_assemble he (hrow o.x) fun p => by simp [decUn, h2, hd, hi]

theorem encodes_unZero {k : Un β γ → Instr} {o : Un β γ}
    (he : ∀ p, encode p i = some (assemble o.cond dst src2 0#5 (crossBit o.x) low o.side p))
    (hrow : ∀ x, rowOf (crossBit x ++ low) = decUnZero f2 fd k) (hi : i.expand = k o)
    (h2 : f2 src2 = .ok o.src2) (hd : fd dst = .ok o.dst) : Encodes i :=
  encodes_assemble he (hrow o.x) fun p => by simp [decUnZero, decUn, h2, hd, hi]

theorem encodes_unN {k : UnN β γ → Instr} {o : UnN β γ}
    (he : ∀ p, encode p i = some (assemble o.cond dst src2 src1 0#1 low o.side p))
    (hrow : rowOf (0#1 ++ low) = decUnN f2 fd k) (hi : i.expand = k o)
    (h2 : f2 src2 = .ok o.src2) (hd : fd dst = .ok o.dst) : Encodes i :=
  encodes_assemble he hrow fun p => by simp [decUnN, h2, hd, hi]

theorem encodes_unNZero {k : UnN β γ → Instr} {o : UnN β γ}
    (he : ∀ p, encode p i = some (assemble o.cond dst src2 0#5 0#1 low o.side p))
    (hrow : rowOf (0#1 ++ low) = decUnNZero f2 fd k) (hi : i.expand = k o)
    (h2 : f2 src2 = .ok o.src2) (hd : fd dst = .ok o.dst) : Encodes i :=
  encodes_assemble he hrow fun p => by simp [decUnNZero, decUnN, h2, hd, hi]

end

/-! The formats with other fields (30_encoding.md R140 to R147). -/

theorem fields_assembleMem {γ : Type} (o : Mem γ) (data : BitVec 5) (r : BitVec 1) (ldst : BitVec 3) (p : Bool) :
    let w := assembleMem o data r ldst p
    w.extractLsb' 2 2 = 0b01#2 ∧ w.extractLsb' 8 1 = r ∧ w.extractLsb' 4 3 = ldst ∧ condBits w = o.cond.bits ∧
      dstBits w = data ∧ src2Bits w = o.base ∧ src1Bits w = assembleMem.offsetBits o.offset ∧
      w.extractLsb' 9 4 = assembleMem.modeBits o.mode o.offset ∧ w[7] = o.unit.bit[0] ∧
      w[1] = o.side.bit[0] := by
  simp (disch := decide) only [← BitVec.getLsbD_eq_getElem, assembleMem, condBits, dstBits, src2Bits, src1Bits,
    BitVec.extractLsb'_append_eq_of_le, BitVec.extractLsb'_append_eq_right, BitVec.extractLsb'_eq_self,
    BitVec.getLsbD_append, if_neg, if_pos, Nat.reduceSub, and_self]

theorem fields_assembleMemK (o : MemK) (ldst : BitVec 3) (p : Bool) :
    let w := assembleMemK o ldst p
    w.extractLsb' 2 2 = 0b11#2 ∧ w.extractLsb' 4 3 = ldst ∧ condBits w = o.cond.bits ∧ dstBits w = o.data ∧
      w.extractLsb' 8 15 = o.ucst15 ∧ w[7] = (BitVec.ofBool o.fromB15)[0] ∧
      w[1] = o.side.bit[0] := by
  simp (disch := decide) only [← BitVec.getLsbD_eq_getElem, assembleMemK, condBits, dstBits,
    BitVec.extractLsb'_append_eq_of_le,
    BitVec.extractLsb'_append_eq_right, BitVec.extractLsb'_eq_self, BitVec.getLsbD_append, if_neg, if_pos,
    Nat.reduceSub, and_self]

theorem fields_assembleField (o : FieldOp) (op : BitVec 2) (p : Bool) :
    let w := assembleField o op p
    w.extractLsb' 2 4 = 0b0010#4 ∧ w.extractLsb' 6 2 = op ∧ condBits w = o.cond.bits ∧ dstBits w = o.dst ∧
      src2Bits w = o.src2 ∧ src1Bits w = o.csta ∧ w.extractLsb' 8 5 = o.cstb ∧ w[1] = o.side.bit[0] := by
  simp (disch := decide) only [← BitVec.getLsbD_eq_getElem, assembleField, condBits, dstBits, src2Bits, src1Bits,
    BitVec.extractLsb'_append_eq_of_le, BitVec.extractLsb'_append_eq_right, BitVec.extractLsb'_eq_self,
    BitVec.getLsbD_append, if_neg, if_pos, Nat.reduceSub, and_self]

theorem fields_assembleConst16 (o : Const16) (low : BitVec 5) (p : Bool) :
    let w := assembleConst16 o low p
    w.extractLsb' 2 5 = low ∧ condBits w = o.cond.bits ∧ dstBits w = o.dst ∧ w.extractLsb' 7 16 = o.cst ∧
      w[1] = o.side.bit[0] := by
  simp (disch := decide) only [← BitVec.getLsbD_eq_getElem, assembleConst16, condBits, dstBits,
    BitVec.extractLsb'_append_eq_of_le,
    BitVec.extractLsb'_append_eq_right, BitVec.extractLsb'_eq_self, BitVec.getLsbD_append, if_neg, if_pos,
    Nat.reduceSub, and_self]

/-- Format SB (30_encoding.md R145). -/
theorem fields_disp (o : Disp) (p : Bool) :
    let w : Word := o.cond.bits ++ o.scst21 ++ 0b00100#5 ++ o.side.bit ++ BitVec.ofBool p
    w.extractLsb' 2 5 = 0b00100#5 ∧ condBits w = o.cond.bits ∧ w.extractLsb' 7 21 = o.scst21 ∧
      w[1] = o.side.bit[0] := by
  simp (disch := decide) only [← BitVec.getLsbD_eq_getElem, condBits, BitVec.extractLsb'_append_eq_of_le,
    BitVec.extractLsb'_append_eq_right, BitVec.extractLsb'_eq_self, BitVec.getLsbD_append, if_neg, if_pos,
    Nat.reduceSub, and_self]

/-! The formats that bits 3-2, 5-2 or 6-2 name (30_encoding.md R148). -/

theorem decode_of_ls {w : Word} (h : w.extractLsb' 2 2 = 0b01#2) :
    decode w = findRow lsRows (w.extractLsb' 8 1 ++ w.extractLsb' 4 3) w := if_pos h

theorem decode_of_lsk {w : Word} (h : w.extractLsb' 2 2 = 0b11#2) :
    decode w = findRow lskRows (w.extractLsb' 4 3) w := by
  simp [decode, h]

theorem extractLsb'_of_low {k m n : Nat} {w : Word} {b : BitVec n} (h : w.extractLsb' k n = b) (hm : m ≤ n) :
    w.extractLsb' k m = b.extractLsb' 0 m := by
  subst h
  apply BitVec.eq_of_getLsbD_eq
  intro i hi
  have : i < n := by omega
  simp [BitVec.getLsbD_extractLsb', this]

theorem decode_of_sf {w : Word} (h : w.extractLsb' 2 4 = 0b0010#4) :
    decode w = findRow sfRows (w.extractLsb' 6 2) w := by
  simp [decode, h, extractLsb'_of_low h (by decide : 2 ≤ 4), extractLsb'_of_low h (by decide : 3 ≤ 4)]

/-- What the tests of the decoder see of bits 6-2. -/
theorem formatTests_of_low {w : Word} {b : BitVec 5} (h : w.extractLsb' 2 5 = b) :
    w.extractLsb' 2 2 = b.extractLsb' 0 2 ∧ w.extractLsb' 2 3 = b.extractLsb' 0 3 ∧
      w.extractLsb' 2 4 = b.extractLsb' 0 4 ∧ w[6] = b[4] := by
  refine ⟨extractLsb'_of_low h (by decide), extractLsb'_of_low h (by decide), extractLsb'_of_low h (by decide), ?_⟩
  subst h
  simp

theorem decode_of_addk {w : Word} (h : w.extractLsb' 2 5 = 0b10100#5) : decode w = decConst16 .addk w := by
  obtain ⟨h2, h3, h4, -⟩ := formatTests_of_low h
  simp [decode, h, h2, h3, h4]

theorem decode_of_mvk {w : Word} (h : w.extractLsb' 2 5 = 0b01010#5) : decode w = decConst16 .mvk w := by
  obtain ⟨h2, h3, h4, h6⟩ := formatTests_of_low h
  simp [decode, h2, h3, h4, h6]

theorem decode_of_mvkh {w : Word} (h : w.extractLsb' 2 5 = 0b11010#5) : decode w = decConst16 .mvkh w := by
  obtain ⟨h2, h3, h4, h6⟩ := formatTests_of_low h
  simp [decode, h2, h3, h4, h6]

theorem decode_of_disp {w : Word} (h : w.extractLsb' 2 5 = 0b00100#5) : decode w = decDisp w := by
  obtain ⟨h2, h3, h4, -⟩ := formatTests_of_low h
  simp [decode, h, h2, h3, h4]

/-! The instructions of these formats encode. -/

theorem encodes_mem {γ : Type} {fd : BitVec 5 → Except Reject γ} {k : Mem γ → Instr} {o : Mem γ} {data : BitVec 5}
    {r : BitVec 1} {ldst : BitVec 3} {i : Instr} (he : ∀ p, encode p i = some (assembleMem o data r ldst p))
    (hrow : findRow lsRows (r ++ ldst) = decMem fd k) (hi : i.expand = k o) (hd : fd data = .ok o.data) :
    Encodes i := by
  refine fun p => ⟨_, he p, ?_, pBit_append ..⟩
  obtain ⟨hformat, hr, hldst, hc, hdst, hbase, hoff, hmode, hunit, hside⟩ := fields_assembleMem o data r ldst p
  simp [decode_of_ls hformat, hr, hldst, hrow, decMem, hdst, hd, hmode, hoff, hc, hbase, hunit, sideBit, hside, hi]

theorem encodes_memK {k : MemK → Instr} {i : Instr} {o : MemK} {ldst : BitVec 3}
    (he : ∀ p, encode p i = some (assembleMemK o ldst p)) (hrow : findRow lskRows ldst = decMemK k)
    (hi : i.expand = k o) : Encodes i := by
  refine fun p => ⟨_, he p, ?_, pBit_append ..⟩
  obtain ⟨hformat, hldst, hc, hdst, hcst, hbase, hside⟩ := fields_assembleMemK o ldst p
  simp [decode_of_lsk hformat, hldst, hrow, decMemK, hdst, hc, hcst, hbase, sideBit, hside, hi]

theorem encodes_field {k : FieldOp → Instr} {i : Instr} {o : FieldOp} {op : BitVec 2}
    (he : ∀ p, encode p i = some (assembleField o op p)) (hrow : findRow sfRows op = decField k)
    (hi : i.expand = k o) : Encodes i := by
  refine fun p => ⟨_, he p, ?_, pBit_append ..⟩
  obtain ⟨hformat, hop, hc, hdst, hsrc2, hcsta, hcstb, hside⟩ := fields_assembleField o op p
  simp [decode_of_sf hformat, hop, hrow, decField, hdst, hc, hsrc2, hcsta, hcstb, sideBit, hside, hi]

theorem encodes_const16 {k : Const16 → Instr} {i : Instr} {o : Const16} {low : BitVec 5}
    (he : ∀ p, encode p i = some (assembleConst16 o low p))
    (hrow : ∀ {w : Word}, w.extractLsb' 2 5 = low → decode w = decConst16 k w)
    (hi : i.expand = k o) : Encodes i := by
  refine fun p => ⟨_, he p, ?_, pBit_append ..⟩
  obtain ⟨hformat, hc, hdst, hcst, hside⟩ := fields_assembleConst16 o low p
  simp [hrow hformat, decConst16, hdst, hc, hcst, sideBit, hside, hi]

theorem encodes_bDisp (o : Disp) : Encodes (.bDisp o) := by
  refine fun p => ⟨_, rfl, ?_, pBit_append ..⟩
  obtain ⟨hformat, hc, hcst, hside⟩ := fields_disp o p
  simp [decode_of_disp hformat, decDisp, hc, hcst, sideBit, hside, Instr.expand]

theorem encodes_nop (k : BitVec 3) : Encodes (.nop k) := by
  intro p
  refine ⟨_, rfl, ?_, pBit_append ..⟩
  revert k p; decide

theorem encodes_nop9 : Encodes .nop9 := fun p => ⟨_, rfl, by cases p <;> rfl, pBit_append ..⟩

theorem encodes_idle : Encodes .idle := fun p => ⟨_, rfl, by cases p <;> rfl, pBit_append ..⟩

theorem encodes_bReg (o : BranchReg) : Encodes (.bReg o) :=
  encodes_assemble (f := decBranchReg) (fun _ => rfl) (Bool.rec rfl rfl o.x) fun p => by
    simp [decBranchReg, Side.bit, Instr.expand]

theorem encodes_bIrp (c : Cond) : Encodes (.bIrp c) :=
  encodes_assemble (f := decReturn) (fun _ => rfl) rfl fun p => by
    simp [decReturn, Side.bit, Instr.expand]

theorem encodes_bNrp (c : Cond) : Encodes (.bNrp c) :=
  encodes_assemble (f := decReturn) (fun _ => rfl) rfl fun p => by
    simp [decReturn, Side.bit, Instr.expand]

theorem encodes_mvcRead (o : MvcRead) : Encodes (.mvcRead o) :=
  encodes_assemble (f := decMvcRead) (fun _ => rfl) rfl fun p => by
    simp [decMvcRead, Side.bit, Instr.expand]

theorem encodes_mvcWrite (o : MvcWrite) : Encodes (.mvcWrite o) :=
  encodes_assemble (f := decMvcWrite) (fun _ => rfl) (Bool.rec rfl rfl o.x) fun p => by
    simp [decMvcWrite, Side.bit, Instr.expand]

/-- The instructions that the spec gives no encoding for (30_encoding.md R151). -/
inductive Unencodable : Instr → Prop
  | addspS (o : Bin Reg Reg Reg) : Unencodable (.addspS o)
  | adddpS (o : Bin Pair Pair Pair) : Unencodable (.adddpS o)
  | subspS (o : SubForm Reg) : Unencodable (.subspS o)
  | subdpS (o : SubForm Pair) : Unencodable (.subdpS o)

theorem Unencodable.encode_eq_none {i : Instr} (h : Unencodable i) (p : Bool) : encode p i = none := by
  cases h <;> rfl

theorem Unencodable.exists_form {i : Instr} (h : Unencodable i) :
    ∃ o q r, i = .addspS o ∨ i = .adddpS q ∨ i = .subspS ⟨o, r⟩ ∨ i = .subdpS ⟨q, r⟩ := by
  have b : Bin Reg Reg Reg := ⟨.always, .a, false, 0#5, 0#5, 0#5⟩
  have q : Bin Pair Pair Pair := ⟨.always, .a, false, 0#4, 0#4, 0#4⟩
  cases h with
  | addspS o => exact ⟨o, q, false, .inl rfl⟩
  | adddpS o => exact ⟨b, o, false, .inr (.inl rfl)⟩
  | subspS o => exact ⟨o.toBin, q, o.reverse, .inr (.inr (.inl rfl))⟩
  | subdpS o => exact ⟨b, o.toBin, o.reverse, .inr (.inr (.inr rfl))⟩

/-- By the shapes of the rows; a pseudo-instruction encodes as the instruction it assembles to. The arguments say which
word the encoder gives, which row reads it, which instruction that row makes, and that each operand field is read back. -/
theorem encodes_or_unencodable (i : Instr) : Encodes i ∨ Unencodable i := by
  cases i with
  | addL o | addspL o | andL o | cmpeq o | cmpgt o | cmpgtu o | cmplt o | cmpltu o | lmbd o | orL o | sadd o | ssub o
  | ssubX o | subL o | subLX o | subc o | subspL o | subspLX o | xorL o | addS o | add2 o | andS o | clrReg o | cmpeqsp o
  | cmpgtsp o | cmpltsp o | extReg o | extuReg o | orS o | setReg o | shl o | shr o | shru o | sshl o | subS o | sub2 o
  | xorS o | mpy o | mpyu o | mpyus o | mpysu o | mpyh o | mpyhu o | mpyhus o | mpyhsu o | mpyhl o | mpyhlu o | mpyhuls o
  | mpyhslu o | mpylh o | mpylhu o | mpyluhs o | mpylshu o | smpy o | smpyhl o | smpylh o | smpyh o | mpysp o | mpyi o
  | addLC o | andLC o | cmpeqC o | cmpgtC o | cmpltC o | lmbdC o | orLC o | saddC o | ssubC o | subLC o | xorLC o
  | addSC o | andSC o | orSC o | shlC o | shrC o | shruC o | sshlC o | subSC o | xorSC o | mpyC o | mpysuC o | mpyiC o =>
    exact .inl (encodes_bin (fun _ => rfl) (Bool.rec rfl rfl) rfl rfl rfl rfl)
  | addLWide o | adduWide o | subLWide o | subLWideX o | subuWide o | subuWideX o | shlWide o | mpyid o | shlWideC o
  | mpyidC o | mpysp2dp o =>
    exact .inl (encodes_bin (fun _ => rfl) (Bool.rec rfl rfl) rfl rfl rfl (pairField_even _))
  | addLLong o | adduLong o | saddLong o | mpyspdp o =>
    exact .inl (encodes_bin (fun _ => rfl) (Bool.rec rfl rfl) rfl rfl (pairField_even _) (pairField_even _))
  | adddpL o | subdpL o | subdpLX o | mpydp o =>
    exact .inl (encodes_bin (fun _ => rfl) (Bool.rec rfl rfl) rfl (pairField_even _) (pairField_even _)
      (pairField_even _))
  | cmpeqLong o | cmpgtLong o | cmpgtuLong o | cmpltLong o | cmpltuLong o =>
    exact .inl (encodes_bin (fun _ => rfl) (Bool.rec rfl rfl) rfl rfl (pairField_even _) rfl)
  | cmpeqdp o | cmpgtdp o | cmpltdp o =>
    exact .inl (encodes_bin (fun _ => rfl) (Bool.rec rfl rfl) rfl (pairField_even _) (pairField_even _) rfl)
  | cmpgtuC o | cmpltuC o =>
    exact .inl (encodes_bin (fun _ => rfl) (Bool.rec rfl rfl) rfl (ucst4Field_zeroExtended _) rfl rfl)
  | cmpgtuLongC o | cmpltuLongC o =>
    exact .inl (encodes_binN (fun _ => rfl) rfl rfl (ucst4Field_zeroExtended _) (pairField_even _) rfl)
  | addLLongC o | saddLongC o | ssubLongC o | subLLongC o | shlLongC o | shrLongC o | shruLongC o | shlLong o | shrLong o
  | shruLong o =>
    exact .inl (encodes_binN (fun _ => rfl) rfl rfl rfl (pairField_even _) (pairField_even _))
  | cmpeqLongC o | cmpgtLongC o | cmpltLongC o =>
    exact .inl (encodes_binN (fun _ => rfl) rfl rfl rfl (pairField_even _) rfl)
  | addD o | subD o | addab o | addah o | addaw o | addad o | subab o | subah o | subaw o | addDC o | subDC o | addabC o
  | addahC o | addawC o | addadC o | subabC o | subahC o | subawC o =>
    exact .inl (encodes_binN (fun _ => rfl) rfl rfl rfl rfl rfl)
  | abs o | intsp o | intspu o | norm o | spint o | sptrunc o =>
    exact .inl (encodes_unZero (fun _ => rfl) (Bool.rec rfl rfl) rfl rfl rfl)
  | intdp o | intdpu o =>
    exact .inl (encodes_unZero (fun _ => rfl) (Bool.rec rfl rfl) rfl rfl (pairField_even _))
  | absLong o => exact .inl (encodes_unNZero (fun _ => rfl) rfl rfl (pairField_even _) (pairField_even _))
  | dpint o | dpsp o | dptrunc o | normLong o | sat o =>
    exact .inl (encodes_unNZero (fun _ => rfl) rfl rfl (pairField_even _) rfl)
  | abssp o | rcpsp o | rsqrsp o => exact .inl (encodes_un (fun _ => rfl) (Bool.rec rfl rfl) rfl rfl rfl)
  | spdp o => exact .inl (encodes_un (fun _ => rfl) (Bool.rec rfl rfl) rfl rfl (pairField_even _))
  | absdp o | rcpdp o | rsqrdp o => exact .inl (encodes_unN (fun _ => rfl) rfl rfl (pairField_even _) (pairField_even _))
  | bReg o => exact .inl (encodes_bReg o)
  | bIrp c => exact .inl (encodes_bIrp c)
  | bNrp c => exact .inl (encodes_bNrp c)
  | mvcRead o => exact .inl (encodes_mvcRead o)
  | mvcWrite o => exact .inl (encodes_mvcWrite o)
  | extuConst o | extConst o | setConst o | clrConst o => exact .inl (encodes_field (fun _ => rfl) rfl rfl)
  | addk o => exact .inl (encodes_const16 (fun _ => rfl) decode_of_addk rfl)
  | mvk o | mvkl o => exact .inl (encodes_const16 (fun _ => rfl) decode_of_mvk rfl)
  | mvkh o | mvklh o => exact .inl (encodes_const16 (fun _ => rfl) decode_of_mvkh rfl)
  | bDisp o => exact .inl (encodes_bDisp o)
  | ldhu o | ldbu o | ldb o | stb o | ldh o | sth o | ldw o | stw o =>
    exact .inl (encodes_mem (fun _ => rfl) rfl rfl rfl)
  | lddw o => exact .inl (encodes_mem (fun _ => rfl) rfl rfl (pairField_even _))
  | ldhuK o | ldbuK o | ldbK o | stbK o | ldhK o | sthK o | ldwK o | stwK o =>
    exact .inl (encodes_memK (fun _ => rfl) rfl rfl)
  | nop k => exact .inl (encodes_nop k)
  | nop9 => exact .inl encodes_nop9
  | idle => exact .inl encodes_idle
  | mv o =>
    cases o with
    | l o | s o => exact .inl (encodes_bin (fun _ => rfl) (Bool.rec rfl rfl) rfl rfl rfl rfl)
    | lLong o => exact .inl (encodes_binN (fun _ => rfl) rfl rfl rfl (pairField_even _) (pairField_even _))
    | d o => exact .inl (encodes_binN (fun _ => rfl) rfl rfl rfl rfl rfl)
  | neg o =>
    cases o with
    | l o | s o => exact .inl (encodes_bin (fun _ => rfl) (Bool.rec rfl rfl) rfl rfl rfl rfl)
    | lLong o => exact .inl (encodes_binN (fun _ => rfl) rfl rfl rfl (pairField_even _) (pairField_even _))
  | not o =>
    cases o with
    | l o | s o => exact .inl (encodes_bin (fun _ => rfl) (Bool.rec rfl rfl) rfl rfl rfl rfl)
  | zero o =>
    cases o with
    | l o | sSub o => exact .inl (encodes_bin (fun _ => rfl) (Bool.rec rfl rfl) rfl rfl rfl rfl)
    | lLong o => exact .inl (encodes_bin (fun _ => rfl) (Bool.rec rfl rfl) rfl rfl rfl (pairField_even _))
    | d o => exact .inl (encodes_binN (fun _ => rfl) rfl rfl rfl rfl rfl)
    | sMvk o => exact .inl (encodes_const16 (fun _ => rfl) decode_of_mvk rfl)
  | addspS o => exact .inr (.addspS o)
  | adddpS o => exact .inr (.adddpS o)
  | subspS o => exact .inr (.subspS o)
  | subdpS o => exact .inr (.subdpS o)

/-- Settles O53: every instruction encodes, or is one of the four that the spec gives no encoding for. -/
theorem decodeEncode : Obligations.DecodeEncode := by
  refine ⟨fun p i w hw => ?_, fun p i => ?_⟩
  · rcases encodes_or_unencodable i with h | h
    · obtain ⟨v, hv, hdecode, hp⟩ := h p
      rw [Option.some.inj (hw.symm.trans hv)]
      exact ⟨hdecode, hp⟩
    · rw [h.encode_eq_none p] at hw
      cases hw
  · rcases encodes_or_unencodable i with h | h
    · obtain ⟨v, hv, -⟩ := h p
      exact .inl (Option.isSome_iff_exists.2 ⟨v, hv⟩)
    · exact .inr h.exists_form

/-- Settles O54: the decoder evaluated on each word. -/
theorem decodeWords : Obligations.DecodeWords :=
  ⟨rfl, rfl, rfl, rfl, rfl, rfl, rfl, rfl, rfl, rfl, rfl, rfl, rfl⟩

end Sys2Proof
end

section
/-! What the rows of the decoder answer, and the condition in bits 31-28 (30_encoding.md R130 to R132). -/

set_option Elab.async false

namespace Sys2Proof.Encoding

open Sys2Proof.Machine Sys2Proof.Claims

/-! What each row answers. -/

theorem except_bind_eq_ok {ε α β : Type} {x : Except ε α} {f : α → Except ε β} {b : β} :
    x >>= f = .ok b ↔ ∃ a, x = .ok a ∧ f a = .ok b := by
  cases x with
  | error e => exact ⟨fun h => (nomatch h), fun ⟨_, h, _⟩ => (nomatch h)⟩
  | ok a => exact ⟨fun h => ⟨a, rfl, h⟩, fun ⟨_, ha, h⟩ => Except.ok.inj ha ▸ h⟩

section
variable {α β γ : Type} {f1 : BitVec 5 → Except Reject α} {f2 : BitVec 5 → Except Reject β}
  {fd : BitVec 5 → Except Reject γ} {w : Word} {i : Instr}

theorem decBin_eq_ok {k : Bin α β γ → Instr} : decBin f1 f2 fd k w = .ok i ↔
    ∃ a, f1 (src1Bits w) = .ok a ∧ ∃ b, f2 (src2Bits w) = .ok b ∧ ∃ d, fd (dstBits w) = .ok d ∧
      ∃ c, Cond.ofBits (condBits w) = .ok c ∧ k ⟨c, sideBit w, xBit w, a, b, d⟩ = i := by
  simp only [decBin, except_bind_eq_ok, Except.ok.injEq]

theorem decBinN_eq_ok {k : BinN α β γ → Instr} : decBinN f1 f2 fd k w = .ok i ↔
    ∃ a, f1 (src1Bits w) = .ok a ∧ ∃ b, f2 (src2Bits w) = .ok b ∧ ∃ d, fd (dstBits w) = .ok d ∧
      ∃ c, Cond.ofBits (condBits w) = .ok c ∧ k ⟨c, sideBit w, a, b, d⟩ = i := by
  simp only [decBinN, except_bind_eq_ok, Except.ok.injEq]

theorem decUn_eq_ok {k : Un β γ → Instr} : decUn f2 fd k w = .ok i ↔
    ∃ b, f2 (src2Bits w) = .ok b ∧ ∃ d, fd (dstBits w) = .ok d ∧
      ∃ c, Cond.ofBits (condBits w) = .ok c ∧ k ⟨c, sideBit w, xBit w, b, d⟩ = i := by
  simp only [decUn, except_bind_eq_ok, Except.ok.injEq]

theorem decUnN_eq_ok {k : UnN β γ → Instr} : decUnN f2 fd k w = .ok i ↔
    ∃ b, f2 (src2Bits w) = .ok b ∧ ∃ d, fd (dstBits w) = .ok d ∧
      ∃ c, Cond.ofBits (condBits w) = .ok c ∧ k ⟨c, sideBit w, b, d⟩ = i := by
  simp only [decUnN, except_bind_eq_ok, Except.ok.injEq]

theorem decUn_of_zero {k : Un β γ → Instr} (h : decUnZero f2 fd k w = .ok i) : decUn f2 fd k w = .ok i := by
  unfold decUnZero at h
  split at h
  · exact h
  · cases h

theorem decUnN_of_zero {k : UnN β γ → Instr} (h : decUnNZero f2 fd k w = .ok i) : decUnN f2 fd k w = .ok i := by
  unfold decUnNZero at h
  split at h
  · exact h
  · cases h

theorem decMem_eq_ok {k : Mem γ → Instr} : decMem fd k w = .ok i ↔
    ∃ d, fd (dstBits w) = .ok d ∧ ∃ m, decMem.modeField (w.extractLsb' 9 4) (src1Bits w) = .ok m ∧
      ∃ c, Cond.ofBits (condBits w) = .ok c ∧
        k ⟨c, Side.ofBit (w.getLsbD 7), sideBit w, m.1, src2Bits w, m.2, d⟩ = i := by
  simp only [decMem, except_bind_eq_ok, Except.ok.injEq]

end

/-! Conditions (30_encoding.md R130 to R132). -/

/-- The condition of every instruction of the row is the one in bits 31-28. -/
def CarriesCondition (f : Word → Except Reject Instr) : Prop :=
  ∀ w i, f w = .ok i → Conditional i → Cond.ofBits (condBits w) = .ok i.condition

section
variable {α β γ : Type} {f1 : BitVec 5 → Except Reject α} {f2 : BitVec 5 → Except Reject β}
  {fd : BitVec 5 → Except Reject γ}

/-- What every row ends with: the condition is read, and the instruction has it. -/
theorem condition_of_bind {w : Word} {i : Instr} {g : Cond → Instr}
    (h : (Cond.ofBits (condBits w) >>= fun c => .ok (g c)) = .ok i) (hg : ∀ c, (g c).condition = c) :
    Cond.ofBits (condBits w) = .ok i.condition := by
  obtain ⟨c, hc, hi⟩ := except_bind_eq_ok.1 h
  rw [hc, ← Except.ok.inj hi, hg]

theorem CarriesCondition.bin {k : Bin α β γ → Instr} (h : ∀ o, (k o).condition = o.cond) :
    CarriesCondition (decBin f1 f2 fd k) := by
  intro w i hw _
  obtain ⟨_, _, _, _, _, _, c, hc, rfl⟩ := decBin_eq_ok.1 hw
  rw [hc, h]

theorem CarriesCondition.binN {k : BinN α β γ → Instr} (h : ∀ o, (k o).condition = o.cond) :
    CarriesCondition (decBinN f1 f2 fd k) := by
  intro w i hw _
  obtain ⟨_, _, _, _, _, _, c, hc, rfl⟩ := decBinN_eq_ok.1 hw
  rw [hc, h]

theorem CarriesCondition.un {k : Un β γ → Instr} (h : ∀ o, (k o).condition = o.cond) :
    CarriesCondition (decUn f2 fd k) := by
  intro w i hw _
  obtain ⟨_, _, _, _, c, hc, rfl⟩ := decUn_eq_ok.1 hw
  rw [hc, h]

theorem CarriesCondition.unN {k : UnN β γ → Instr} (h : ∀ o, (k o).condition = o.cond) :
    CarriesCondition (decUnN f2 fd k) := by
  intro w i hw _
  obtain ⟨_, _, _, _, c, hc, rfl⟩ := decUnN_eq_ok.1 hw
  rw [hc, h]

theorem CarriesCondition.unZero {k : Un β γ → Instr} (h : ∀ o, (k o).condition = o.cond) :
    CarriesCondition (decUnZero f2 fd k) := fun w i hw => CarriesCondition.un h w i (decUn_of_zero hw)

theorem CarriesCondition.unNZero {k : UnN β γ → Instr} (h : ∀ o, (k o).condition = o.cond) :
    CarriesCondition (decUnNZero f2 fd k) := fun w i hw => CarriesCondition.unN h w i (decUnN_of_zero hw)

theorem CarriesCondition.mem {k : Mem γ → Instr} (h : ∀ o, (k o).condition = o.cond) :
    CarriesCondition (decMem fd k) := by
  intro w i hw _
  obtain ⟨_, _, _, _, c, hc, rfl⟩ := decMem_eq_ok.1 hw
  rw [hc, h]

end

theorem CarriesCondition.memK {k : MemK → Instr} (h : ∀ o, (k o).condition = o.cond) :
    CarriesCondition (decMemK k) := fun _ _ hw _ => condition_of_bind hw fun _ => h _

theorem CarriesCondition.field {k : FieldOp → Instr} (h : ∀ o, (k o).condition = o.cond) :
    CarriesCondition (decField k) := fun _ _ hw _ => condition_of_bind hw fun _ => h _

theorem CarriesCondition.const16 {k : Const16 → Instr} (h : ∀ o, (k o).condition = o.cond) :
    CarriesCondition (decConst16 k) := fun _ _ hw _ => condition_of_bind hw fun _ => h _

theorem CarriesCondition.disp : CarriesCondition decDisp := fun _ _ hw _ => condition_of_bind hw fun _ => rfl

theorem CarriesCondition.branchReg : CarriesCondition decBranchReg := by
  intro w i hw _
  unfold decBranchReg at hw
  split at hw
  · exact condition_of_bind hw fun _ => rfl
  · cases hw

theorem CarriesCondition.branchReturn : CarriesCondition decReturn := by
  intro w i hw _
  unfold decReturn at hw
  split at hw
  · split at hw
    · exact condition_of_bind hw fun _ => rfl
    · split at hw
      · exact condition_of_bind hw fun _ => rfl
      · cases hw
  · cases hw

theorem CarriesCondition.mvcRead : CarriesCondition decMvcRead := by
  intro w i hw _
  unfold decMvcRead at hw
  split at hw
  · exact condition_of_bind hw fun _ => rfl
  · cases hw

theorem CarriesCondition.mvcWrite : CarriesCondition decMvcWrite := by
  intro w i hw _
  unfold decMvcWrite at hw
  split at hw
  · exact condition_of_bind hw fun _ => rfl
  · cases hw

/-- NOP and IDLE have no condition field. -/
theorem CarriesCondition.nop : CarriesCondition decNop := by
  intro w i hw ⟨hnop, hnop9, hidle⟩
  unfold decNop at hw
  split at hw
  · split at hw
    · exact absurd (Except.ok.inj hw).symm (hnop _)
    · split at hw
      · exact absurd (Except.ok.inj hw).symm hnop9
      · split at hw
        · exact absurd (Except.ok.inj hw).symm hidle
        · cases hw
  · cases hw

theorem CarriesCondition.unassigned : CarriesCondition fun _ => .error .unassigned := fun _ _ h _ => nomatch h

/-- A row found in a table has what all of its rows have. -/
theorem findRow_of_forall {n : Nat} {rows : List (BitVec n × (Word → Except Reject Instr))}
    {P : Word → Instr → Prop} (h : ∀ r ∈ rows, ∀ w i, r.2 w = .ok i → P w i) (op : BitVec n) (w : Word) (i : Instr)
    (hw : findRow rows op w = .ok i) : P w i := by
  unfold findRow at hw
  split at hw
  · rename_i f hf
    obtain ⟨l, l', hl, -⟩ := List.lookup_eq_some_iff.1 hf
    exact h (op, f) (by simp [hl]) w i hw
  · cases hw

theorem lRows_carryCondition : ∀ r ∈ lRows, CarriesCondition r.2 := by
  simp only [lRows, lRows1, lRows2, List.cons_append, List.nil_append, List.forall_mem_cons, List.not_mem_nil,
    false_implies, implies_true, and_true]
  and_intros
  all_goals with_reducible apply_rules [CarriesCondition.bin, CarriesCondition.binN, CarriesCondition.unZero,
    CarriesCondition.unNZero]

theorem sRows_carryCondition : ∀ r ∈ sRows, CarriesCondition r.2 := by
  simp only [sRows, sRows1, sRows2, List.cons_append, List.nil_append, List.forall_mem_cons, List.not_mem_nil,
    false_implies, implies_true, and_true]
  and_intros
  all_goals with_reducible apply_rules [CarriesCondition.bin, CarriesCondition.binN, CarriesCondition.un, CarriesCondition.unN,
    CarriesCondition.branchReg, CarriesCondition.branchReturn, CarriesCondition.mvcRead, CarriesCondition.mvcWrite]

theorem dRows_carryCondition : ∀ r ∈ dRows, CarriesCondition r.2 := by
  simp only [dRows, List.forall_mem_cons, List.not_mem_nil, false_implies, implies_true, and_true]
  and_intros
  all_goals with_reducible apply_rules [CarriesCondition.binN]

theorem mRows_carryCondition : ∀ r ∈ mRows, CarriesCondition r.2 := by
  simp only [mRows, List.forall_mem_cons, List.not_mem_nil, false_implies, implies_true, and_true]
  and_intros
  all_goals with_reducible apply_rules [CarriesCondition.bin]

theorem mxRows_carryCondition : ∀ r ∈ mxRows, CarriesCondition r.2 := by
  simp only [mxRows, List.forall_mem_cons, List.not_mem_nil, false_implies, implies_true, and_true]
  and_intros
  all_goals exact CarriesCondition.bin fun _ => rfl

theorem lsRows_carryCondition : ∀ r ∈ lsRows, CarriesCondition r.2 := by
  simp only [lsRows, List.forall_mem_cons, List.not_mem_nil, false_implies, implies_true, and_true]
  and_intros
  all_goals exact CarriesCondition.mem fun _ => rfl

theorem lskRows_carryCondition : ∀ r ∈ lskRows, CarriesCondition r.2 := by
  simp only [lskRows, List.forall_mem_cons, List.not_mem_nil, false_implies, implies_true, and_true]
  and_intros
  all_goals exact CarriesCondition.memK fun _ => rfl

theorem sfRows_carryCondition : ∀ r ∈ sfRows, CarriesCondition r.2 := by
  simp only [sfRows, List.forall_mem_cons, List.not_mem_nil, false_implies, implies_true, and_true]
  and_intros
  all_goals exact CarriesCondition.field fun _ => rfl

/-- The decoder's tests keep it. -/
theorem CarriesCondition.ite {p : Prop} [Decidable p] {f g : Word → Except Reject Instr} (hf : CarriesCondition f)
    (hg : CarriesCondition g) : CarriesCondition (if p then f else g) := by
  split
  · exact hf
  · exact hg

theorem rowOf_carriesCondition (b : BitVec 11) : CarriesCondition (rowOf b) :=
  .ite (findRow_of_forall lsRows_carryCondition _) <|
  .ite (findRow_of_forall lskRows_carryCondition _) <|
  .ite (findRow_of_forall lRows_carryCondition _) <|
  .ite (findRow_of_forall sRows_carryCondition _) <|
  .ite (.ite .unassigned (findRow_of_forall mxRows_carryCondition _)) <|
  .ite (.const16 fun _ => by split <;> rfl) <|
  .ite (findRow_of_forall sfRows_carryCondition _) <|
  .ite (findRow_of_forall dRows_carryCondition _) <|
  .ite (.const16 fun _ => rfl) <|
  .ite .disp <|
  .ite .nop (findRow_of_forall mRows_carryCondition _)

theorem condition_of_decode {w : Word} {i : Instr} (h : decode w = .ok i) (hc : Conditional i) :
    Cond.ofBits (condBits w) = .ok i.condition :=
  rowOf_carriesCondition _ w i (decode_eq_rowOf w ▸ h) hc

theorem conditionField_of_ofBits {b : BitVec 4} {c : Cond} (h : Cond.ofBits b = .ok c) : b.toNat = conditionField c := by
  have hall : ∀ b : BitVec 4, (Cond.ofBits b).toOption.all (fun c => b.toNat == conditionField c) = true := by decide
  simpa [h, Except.toOption] using hall b

theorem conditionField_not_reserved (c : Cond) : conditionField c ∉ [1, 12, 13, 14, 15] := by
  rcases c with _ | r | r
  · decide
  · cases r <;> decide
  · cases r <;> decide

theorem holds_iff_conditionTrue (s : State) (c : Cond) : s.holds c = true ↔ ConditionTrue s c := by
  rcases c with _ | r | r
  · exact iff_of_true rfl trivial
  · cases r <;> exact bne_iff_ne
  · cases r <;> exact beq_iff_eq

theorem conditionField_of_decode {w : Word} {i : Instr} (h : decode w = .ok i) (hc : Conditional i) :
    w.toNat / 2 ^ 28 = conditionField i.condition := by
  rw [← conditionField_of_ofBits (condition_of_decode h hc), condBits, BitVec.extractLsb'_toNat,
    Nat.shiftRight_eq_div_pow]
  omega

/-- Settles O24: every row reads its condition from bits 31-28 (`rowOf_carriesCondition`). -/
theorem conditionField : Obligations.ConditionField := by
  refine ⟨fun w i => conditionField_of_decode, fun w i h hc => ?_, holds_iff_conditionTrue⟩
  rw [conditionField_of_decode h hc]
  exact conditionField_not_reserved _

end Sys2Proof.Encoding
end

section
/-! Words that are no instruction, and instructions that a C67x lacks (30_encoding.md R142, R150 to R153). -/

set_option Elab.async false

namespace Sys2Proof.Encoding

open Sys2Proof.Machine Sys2Proof.Claims

/-! Words that are no instruction (30_encoding.md R142, R150, R153). -/

/-- No word with the bit set is an instruction of the row. -/
def RefusesBit (n : Nat) (f : Word → Except Reject Instr) : Prop := ∀ w i, w.getLsbD n = true → f w ≠ .ok i

theorem pairField_ne_ok_of_odd {f : BitVec 5} (h : f.getLsbD 0 = true) (p : Pair) : pairField f ≠ .ok p := by
  rw [pairField, if_pos h]
  exact fun h => nomatch h

section
variable {w : Word} {p : Pair}

theorem src1Bits_ne_pair (h : w.getLsbD 13 = true) : pairField (src1Bits w) ≠ .ok p :=
  pairField_ne_ok_of_odd (by simpa [src1Bits] using h) p

theorem src2Bits_ne_pair (h : w.getLsbD 18 = true) : pairField (src2Bits w) ≠ .ok p :=
  pairField_ne_ok_of_odd (by simpa [src2Bits] using h) p

theorem dstBits_ne_pair (h : w.getLsbD 23 = true) : pairField (dstBits w) ≠ .ok p :=
  pairField_ne_ok_of_odd (by simpa [dstBits] using h) p

end

section
variable {α β γ : Type} {f1 : BitVec 5 → Except Reject α} {f2 : BitVec 5 → Except Reject β}
  {fd : BitVec 5 → Except Reject γ}

theorem RefusesBit.bin_src1 {k : Bin Pair β γ → Instr} : RefusesBit 13 (decBin pairField f2 fd k) := fun _ _ hb hw =>
  let ⟨_, h1, _⟩ := decBin_eq_ok.1 hw
  src1Bits_ne_pair hb h1

theorem RefusesBit.bin_src2 {k : Bin α Pair γ → Instr} : RefusesBit 18 (decBin f1 pairField fd k) := fun _ _ hb hw =>
  let ⟨_, _, _, h2, _⟩ := decBin_eq_ok.1 hw
  src2Bits_ne_pair hb h2

theorem RefusesBit.bin_dst {k : Bin α β Pair → Instr} : RefusesBit 23 (decBin f1 f2 pairField k) := fun _ _ hb hw =>
  let ⟨_, _, _, _, _, hd, _⟩ := decBin_eq_ok.1 hw
  dstBits_ne_pair hb hd

theorem RefusesBit.binN_src2 {k : BinN α Pair γ → Instr} : RefusesBit 18 (decBinN f1 pairField fd k) :=
  fun _ _ hb hw =>
  let ⟨_, _, _, h2, _⟩ := decBinN_eq_ok.1 hw
  src2Bits_ne_pair hb h2

theorem RefusesBit.binN_dst {k : BinN α β Pair → Instr} : RefusesBit 23 (decBinN f1 f2 pairField k) :=
  fun _ _ hb hw =>
  let ⟨_, _, _, _, _, hd, _⟩ := decBinN_eq_ok.1 hw
  dstBits_ne_pair hb hd

theorem RefusesBit.un_dst {k : Un β Pair → Instr} : RefusesBit 23 (decUn f2 pairField k) := fun _ _ hb hw =>
  let ⟨_, _, _, hd, _⟩ := decUn_eq_ok.1 hw
  dstBits_ne_pair hb hd

theorem RefusesBit.unZero_dst {k : Un β Pair → Instr} : RefusesBit 23 (decUnZero f2 pairField k) := fun w i hb hw =>
  RefusesBit.un_dst w i hb (decUn_of_zero hw)

theorem RefusesBit.unN_src2 {k : UnN Pair γ → Instr} : RefusesBit 18 (decUnN pairField fd k) := fun _ _ hb hw =>
  let ⟨_, h2, _⟩ := decUnN_eq_ok.1 hw
  src2Bits_ne_pair hb h2

theorem RefusesBit.unN_dst {k : UnN β Pair → Instr} : RefusesBit 23 (decUnN f2 pairField k) := fun _ _ hb hw =>
  let ⟨_, _, _, hd, _⟩ := decUnN_eq_ok.1 hw
  dstBits_ne_pair hb hd

theorem RefusesBit.unNZero_src2 {k : UnN Pair γ → Instr} : RefusesBit 18 (decUnNZero pairField fd k) :=
  fun w i hb hw => RefusesBit.unN_src2 w i hb (decUnN_of_zero hw)

theorem RefusesBit.unNZero_dst {k : UnN β Pair → Instr} : RefusesBit 23 (decUnNZero f2 pairField k) :=
  fun w i hb hw => RefusesBit.unN_dst w i hb (decUnN_of_zero hw)

theorem RefusesBit.mem_data {k : Mem Pair → Instr} : RefusesBit 23 (decMem pairField k) := fun _ _ hb hw =>
  let ⟨_, hd, _⟩ := decMem_eq_ok.1 hw
  dstBits_ne_pair hb hd

end

theorem formatBits_eq (w : Word) : w.extractLsb' 2 11 = crossBit (xBit w) ++ BitVec.ofNat 10 (w.toNat / 4 % 1024) := by
  have hlow : w.extractLsb' 2 10 = BitVec.ofNat 10 (w.toNat / 4 % 1024) := by
    apply BitVec.eq_of_toNat_eq
    simp [BitVec.extractLsb'_toNat, Nat.shiftRight_eq_div_pow]
  rw [← hlow]
  apply BitVec.eq_of_getLsbD_eq
  intro i hi
  rw [BitVec.getLsbD_append]
  split
  · rename_i h
    simp [h, hi]
  · have : i = 10 := by omega
    subst this
    simp [xBit, crossBit]

/-- No word with these bits 11-2 and the bit `n` set is an instruction, whatever bit 12 is. -/
def RowsRefuseBit (n op : Nat) : Prop := ∀ x, RefusesBit n (rowOf (crossBit x ++ BitVec.ofNat 10 op))

theorem decode_ne_ok_of_rows {n : Nat} {rows ops : List Nat} (hrows : ∀ op ∈ rows, RowsRefuseBit n op)
    (hops : ∀ op ∈ ops, op ∈ rows) (w : Word) (i : Instr) (hop : w.toNat / 4 % 1024 ∈ ops) (hb : w.getLsbD n = true) :
    decode w ≠ .ok i := by
  rw [decode_eq_rowOf, formatBits_eq]
  exact hrows _ (hops _ hop) _ w i hb

/-- The rows with a pair in src1: the double-precision forms with two sources. -/
theorem rowsRefuse_src1 : ∀ op ∈ [0x0C6, 0x0CE, 0x0EE, 0x288, 0x298, 0x2A8, 0x1C0], RowsRefuseBit 13 op := by
  simp only [List.forall_mem_cons, List.not_mem_nil, false_implies, implies_true, and_true]
  and_intros
  all_goals exact Bool.rec .bin_src1 .bin_src1

/-- The rows with a pair in src2, by the shape of the row. -/
theorem rowsRefuse_src2 : ∀ op ∈
    [0x10E, 0x14E, 0x0C6, 0x28E, 0x22E, 0x26E, 0x2AE, 0x2EE, 0x18E, 0x0CE, 0x0EE, 0x288, 0x298, 0x2A8, 0x1C0, 0x16C] ++
    [0x106, 0x286, 0x226, 0x266, 0x2A6, 0x2E6, 0x186, 0x166, 0x126, 0x318, 0x308, 0x358, 0x348, 0x258, 0x248] ++
    [0x2C8, 0x2D8, 0x2E8] ++ [0x1C6, 0x046, 0x04E, 0x00E, 0x306, 0x206], RowsRefuseBit 18 op := by
  simp only [List.forall_mem_append, List.forall_mem_cons, List.not_mem_nil, false_implies, implies_true, and_true]
  refine ⟨⟨⟨?bin, ?binN⟩, ?unN⟩, ?unNZero⟩
  case bin => and_intros; all_goals exact Bool.rec .bin_src2 .bin_src2
  case binN => and_intros; all_goals exact Bool.rec .binN_src2 .binN_src2
  case unN => and_intros; all_goals exact Bool.rec .unN_src2 .unN_src2
  case unNZero => and_intros; all_goals exact Bool.rec .unNZero_src2 .unNZero_src2

/-- The rows with a pair in dst, by the shape of the row. -/
theorem rowsRefuse_dst : ∀ op ∈
    [0x11E, 0x10E, 0x15E, 0x14E, 0x0C6, 0x13E, 0x1BE, 0x17E, 0x1FE, 0x18E, 0x0CE, 0x0EE, 0x138, 0x128, 0x1C0, 0x100,
      0x180, 0x16C, 0x17C] ++
    [0x106, 0x186, 0x166, 0x126, 0x318, 0x308, 0x358, 0x348, 0x258, 0x248] ++ [0x028] ++ [0x1CE, 0x1DE] ++
    [0x2C8, 0x2D8, 0x2E8] ++ [0x1C6], RowsRefuseBit 23 op := by
  simp only [List.forall_mem_append, List.forall_mem_cons, List.not_mem_nil, false_implies, implies_true, and_true]
  refine ⟨⟨⟨⟨⟨?bin, ?binN⟩, ?un⟩, ?unZero⟩, ?unN⟩, ?unNZero⟩
  case bin => and_intros; all_goals exact Bool.rec .bin_dst .bin_dst
  case binN => and_intros; all_goals exact Bool.rec .binN_dst .binN_dst
  case un => exact Bool.rec .un_dst .un_dst
  case unZero => and_intros; all_goals exact Bool.rec .unZero_dst .unZero_dst
  case unN => and_intros; all_goals exact Bool.rec .unN_dst .unN_dst
  case unNZero => exact Bool.rec .unNZero_dst .unNZero_dst

/-! Loads and stores. -/

theorem lsFormat_of_toNat {w : Word} (h : w.toNat / 4 % 4 = 1) : w.extractLsb' 2 2 = 0b01#2 :=
  BitVec.eq_of_toNat_eq (by simpa [BitVec.extractLsb'_toNat, Nat.shiftRight_eq_div_pow] using h)

theorem modeField_eq_ok {m : BitVec 4} {f : BitVec 5} {a : AddrMode × Offset} (h : decMem.modeField m f = .ok a) :
    m.toNat ∉ [2, 3, 6, 7] := by
  have hall : ∀ m f, (decMem.modeField m f).toOption.isSome = true → m.toNat ∉ [2, 3, 6, 7] := by decide
  exact hall m f (by rw [h]; rfl)

theorem mode_of_decMem {γ : Type} {fd : BitVec 5 → Except Reject γ} {k : Mem γ → Instr} {w : Word} {i : Instr}
    (h : decMem fd k w = .ok i) : w.toNat / 2 ^ 9 % 16 ∉ [2, 3, 6, 7] := by
  obtain ⟨_, _, _, hm, _⟩ := decMem_eq_ok.1 h
  have := modeField_eq_ok hm
  rwa [BitVec.extractLsb'_toNat, Nat.shiftRight_eq_div_pow] at this

theorem lsRows_mode : ∀ r ∈ lsRows, ∀ w i, r.2 w = .ok i → w.toNat / 2 ^ 9 % 16 ∉ [2, 3, 6, 7] := by
  simp only [lsRows, List.forall_mem_cons, List.not_mem_nil, false_implies, implies_true, and_true]
  and_intros
  all_goals exact fun _ _ => mode_of_decMem

theorem decode_ne_ok_of_reservedMode (w : Word) (i : Instr) (hf : w.toNat / 4 % 4 = 1)
    (hm : w.toNat / 2 ^ 9 % 16 ∈ [2, 3, 6, 7]) : decode w ≠ .ok i := by
  rw [decode_of_ls (lsFormat_of_toNat hf)]
  exact fun h => findRow_of_forall (P := fun w _ => w.toNat / 2 ^ 9 % 16 ∉ [2, 3, 6, 7]) lsRows_mode _ w i h hm

theorem RefusesBit.unassigned {n : Nat} : RefusesBit n fun _ => .error .unassigned := fun _ _ _ h => nomatch h

/-- With r = 1 the only row is LDDW. -/
theorem refusesBit_lddw (ldst : BitVec 3) : RefusesBit 23 (findRow lsRows (1#1 ++ ldst)) := by
  have hall : ∀ b : BitVec 3, b = 6#3 ∨ b = 0#3 ∨ b = 1#3 ∨ b = 2#3 ∨ b = 3#3 ∨ b = 4#3 ∨ b = 5#3 ∨ b = 7#3 := by decide
  rcases hall ldst with rfl | rfl | rfl | rfl | rfl | rfl | rfl | rfl
  · exact .mem_data
  all_goals exact .unassigned

theorem decode_ne_ok_of_oddLddw (w : Word) (i : Instr) (hf : w.toNat / 4 % 4 = 1) (hr : w.getLsbD 8 = true)
    (hd : w.getLsbD 23 = true) : decode w ≠ .ok i := by
  have h8 : w.extractLsb' 8 1 = 1#1 := by
    apply BitVec.eq_of_getLsbD_eq
    intro j hj
    have : j = 0 := by omega
    subst this
    simpa using hr
  rw [decode_of_ls (lsFormat_of_toNat hf), h8]
  exact refusesBit_lddw _ w i hd

/-! Availability (30_encoding.md R152). -/

/-- Instructions that name the same registers are available together: if all of these are below 16. -/
theorem available_of_specifiers {L : List Instr} {l : List Reg} {P : Prop}
    (hs : L.map (fun i => (i.specifiers, i.plusOnly)) = List.replicate L.length (l, false))
    (hl : (∀ r ∈ l, r.toNat < 16) ↔ P) : ∀ i ∈ L, i.available .c67x = true ↔ P := by
  intro i hi
  obtain ⟨hspec, hplus⟩ := Prod.mk.inj (List.map_eq_replicate_iff.1 hs i hi)
  rw [Instr.available_c67x_iff, hspec, hplus, hl]
  exact and_iff_left rfl

theorem pair_lt_and_iff (p : Pair) (P : Prop) :
    ((Pair.even p).toNat < 16 ∧ (Pair.odd p).toNat < 16 ∧ P) ↔ p.toNat < 8 ∧ P := by
  rw [← and_assoc, Pair.even_toNat, Pair.odd_toNat]
  exact and_congr_left' (by omega)

theorem pair_lt_iff (p : Pair) : ((Pair.even p).toNat < 16 ∧ (Pair.odd p).toNat < 16) ↔ p.toNat < 8 := by
  simpa using pair_lt_and_iff p True

theorem addressRegs_lt_iff {γ : Type} (o : Mem γ) (l : List Reg) :
    (∀ r ∈ o.addressRegs ++ l, r.toNat < 16) ↔
      o.base.toNat < 16 ∧ (∀ r, o.offset = .reg r → r.toNat < 16) ∧ ∀ r ∈ l, r.toNat < 16 := by
  rw [List.forall_mem_append, ← and_assoc]
  refine and_congr_left' ?_
  unfold Mem.addressRegs
  split
  · rename_i k hk
    simp [hk]
  · rename_i r hr
    simp [hr]

theorem available_c67xPlus (i : Instr) : i.available .c67xPlus = true := by
  simp only [Instr.available, Bool.and_eq_true, List.all_eq_true, decide_eq_true_eq, Bool.or_eq_true]
  exact ⟨fun r _ => r.isLt, .inl rfl⟩


/-- Settles O29. On a C67x, each list of instructions is one shape of operands (`available_of_specifiers`). -/
theorem refusedEncodings : Obligations.RefusedEncodings := by
  refine ⟨decode_ne_ok_of_reservedMode, decode_ne_ok_of_rows rowsRefuse_src1 (by decide),
    decode_ne_ok_of_rows rowsRefuse_src2 (by decide), decode_ne_ok_of_rows rowsRefuse_dst (by decide),
    decode_ne_ok_of_oddLddw, ?plusOnly, ?_, ?_, ?_, ?_, ?_, ?_, ?_, ?_, ?_, ?_, ?_, ?_, ?_, ?_, ?_, ?_, ?_, ?_, ?_, ?_,
    ?_, ?_, ?_, ?_, ?_, ?_, ?_, ?_, ?_, ?_, ?_, ?_, ?_, ?noOperands, available_c67xPlus⟩
  case plusOnly =>
    intro a b c d r
    simp [Instr.available, Instr.plusOnly]
  case noOperands =>
    intro d c k
    simp [Instr.available, Instr.plusOnly, Instr.specifiers]
  all_goals
    intro o
    refine available_of_specifiers rfl ?_
    simp only [Instr.specifiers, MvForm.specifiers, ZeroForm.specifiers, addressRegs_lt_iff,
      List.forall_mem_cons, List.not_mem_nil, false_implies, implies_true, and_true,
      pair_lt_and_iff, pair_lt_iff]

end Sys2Proof.Encoding
end

section
/-! Conditions (30_encoding.md R133) and execute packets (R122 to R127; 40_execution_model.md R176, R184). -/

set_option Elab.async false

namespace Sys2Proof.Machine

open Sys2Proof.Claims

/-! A false condition (30_encoding.md R133). -/

theorem execSshl_of_false {o : Bin Reg Reg Reg} {s : State} (h : s.holds o.cond = false) : execSshl o s = .next s := by
  unfold execSshl
  split
  · exact guarded_of_false _ h
  · exact guarded_of_false _ h

theorem exec_of_false {i : Instr} {s : State} (h : s.holds i.condition = false) : exec i s = .next s := by
  cases i
  case nop | nop9 | idle => cases h
  case sshl o => exact execSshl_of_false h
  case mv o => cases o <;> exact guarded_of_false _ h
  case neg o => cases o <;> exact guarded_of_false _ h
  case not o => cases o <;> exact guarded_of_false _ h
  case zero o => cases o <;> exact guarded_of_false _ h
  all_goals exact guarded_of_false _ h

/-! A cycle that fetches. -/

theorem step_of_fetches {s : State} (h : Fetches s) : step s = s.fetchAndIssue := by
  obtain ⟨hr, he, hi, hp, hn, hidle⟩ := h
  simp [step, nextCycle, State.runCycle, hr, he, hi, hp, hn, hidle]

theorem step_of_packet {s : State} {p : List Instr} (h : Fetches s) (hp : s.packet = .ok p) :
    step s = s.issuePacket p := by
  rw [step_of_fetches h, State.fetchAndIssue, hp]

theorem step_of_packet_error {s : State} {r : Refusal} (h : Fetches s) (hp : s.packet = .error r) :
    step s = .refused r := by
  rw [step_of_fetches h, State.fetchAndIssue, hp]

theorem issuePacket_of_refusal {s : State} {p : List Instr} {r : Refusal}
    (h : packetRefusal s.history (p.map issueOf) = some r) : s.issuePacket p = .refused r := by
  rw [State.issuePacket, h]

section
variable {s : State} {p : List Instr} (hr : packetRefusal s.history (p.map issueOf) = none)
include hr

theorem issuePacket_of_next {t : State} (h : runAll (memoryOrder p) s = .next t) :
    s.issuePacket p = .next (t.endCycle (p.map issueOf) (sequentialPc s.pc p.length)) := by
  rw [State.issuePacket, hr]
  dsimp only
  rw [h]

theorem issuePacket_of_fault {f : Fault} (h : runAll (memoryOrder p) s = .fault f) : s.issuePacket p = .fault f := by
  rw [State.issuePacket, hr]
  dsimp only
  rw [h]

theorem issuePacket_of_refused {r : Refusal} (h : runAll (memoryOrder p) s = .refused r) :
    s.issuePacket p = .refused r := by
  rw [State.issuePacket, hr]
  dsimp only
  rw [h]

end

theorem issuePacket_history {s t : State} {p : List Instr} (h : s.issuePacket p = .next t) :
    t.history = (p.map issueOf :: s.history).take 9 := by
  unfold State.issuePacket at h
  split at h
  · cases h
  · split at h
    · rename_i u hu
      rw [← Host.Outcome.next.inj h, State.endCycle_history, (runAll_issues hu).grows.frame]
    · cases h
    · cases h

/-- Settles O23: every meaning is guarded by its condition (`exec_of_false`), and the resource rules see every instruction
of the packet. -/
theorem conditionFalse : Obligations.ConditionFalse := by
  refine ⟨fun i s => exec_of_false, fun s p hf hp => ⟨fun r hr => ?_, fun t ht => ?_⟩⟩
  · rw [step_of_packet hf hp, issuePacket_of_refusal hr]
  · exact issuePacket_history ((step_of_packet hf hp).symm.trans ht)

/-! One unit used twice (40_execution_model.md R184). -/

theorem allDistinct_iff {α : Type} [DecidableEq α] (l : List α) : allDistinct l = true ↔ l.Nodup := by
  induction l with
  | nil => simp [allDistinct]
  | cons x rest ih => simp [allDistinct, ih]

theorem not_nodup_filterMap {α β : Type} {f : α → Option β} {l : List α} {j k : Nat} {u : β} (hj : j < l.length)
    (hk : k < l.length) (hjk : j < k) (hfj : f l[j] = some u) (hfk : f l[k] = some u) : ¬ (l.filterMap f).Nodup := by
  intro h
  rw [List.Nodup, List.pairwise_filterMap] at h
  exact List.pairwise_iff_getElem.1 h j k hj hk hjk u hfj u hfk rfl

theorem unitsDistinct_eq_false {p : List Instr} {j k : Nat} {u : FUnit} (hj : j < p.length) (hk : k < p.length)
    (hjk : j < k) (huj : (issueOf p[j]).unit = some u) (huk : (issueOf p[k]).unit = some u) :
    unitsDistinct (p.map issueOf) = false := by
  rw [← Bool.not_eq_true, unitsDistinct, allDistinct_iff, List.filterMap_map]
  exact not_nodup_filterMap hj hk hjk huj huk

/-- Settles O33: the rule on units is the first one checked. -/
theorem unitUsedTwice : Obligations.UnitUsedTwice := by
  intro s p j k u hj hk hjk hf hp huj huk
  rw [step_of_packet hf hp]
  apply issuePacket_of_refusal
  simp [packetRefusal, unitsDistinct_eq_false hj hk hjk huj huk]

/-! Execute packets. -/

theorem runAll_singleton (i : Instr) (s : State) : runAll [i] s = exec i s := by
  unfold runAll
  split <;> simp_all [runAll]

theorem memoryOrder_singleton (i : Instr) : memoryOrder [i] = [i] := by
  unfold memoryOrder
  cases h : isStore i <;> simp [h]

section
variable {s : State} {a : Word} {i : Instr} {n : Nat}

theorem fetchInstr_of_decode (hd : decode (s.fetchWord a) = .ok i) (ha : i.available s.device.variant = true) :
    s.fetchInstr a = .ok (i, pBit (s.fetchWord a)) := by
  simp [State.fetchInstr, hd, ha]

theorem packetFrom_of_last (h : s.fetchInstr a = .ok (i, false)) : s.packetFrom a (n + 1) = .ok [i] := by
  simp [State.packetFrom, h]

end

/-- Settles O26: the packet is the one instruction. -/
theorem stepRunsDecodedInstruction : Obligations.StepRunsDecodedInstruction := by
  intro s i hf hd ha hb hr
  have hp : s.packet = .ok [i] := packetFrom_of_last (hb ▸ fetchInstr_of_decode hd ha)
  have hrun : runAll (memoryOrder [i]) s = exec i s := by rw [memoryOrder_singleton, runAll_singleton]
  rw [step_of_packet hf hp]
  exact ⟨fun t ht => issuePacket_of_next hr (hrun.trans ht), fun f hx => issuePacket_of_fault hr (hrun.trans hx),
    fun r hx => issuePacket_of_refused hr (hrun.trans hx)⟩

/-- The address `j` words on is the last of its fetch packet. -/
theorem lastInFetchPacket_add_iff (a : Word) (j : Nat) :
    lastInFetchPacket (a + BitVec.ofNat 32 (4 * j)) = true ↔ (a.toNat / 4 + j) % 8 = 7 := by
  rw [lastInFetchPacket, beq_iff_eq, ← BitVec.toNat_inj, BitVec.extractLsb'_toNat, Nat.shiftRight_eq_div_pow,
    BitVec.toNat_add, BitVec.toNat_ofNat, BitVec.toNat_ofNat]
  omega

/-- A packet may go on past the word `j` words on: the variant's packets span fetch packets, or the word is not the last
of one (30_encoding.md R125). -/
def State.GoesOn (s : State) (a : Word) (j : Nat) : Prop :=
  s.device.variant = .c67xPlus ∨ (a.toNat / 4 + j) % 8 ≠ 7

theorem State.GoesOn.not_crossing {s : State} {a : Word} {j : Nat} (h : s.GoesOn a j) :
    (lastInFetchPacket (a + BitVec.ofNat 32 (4 * j)) && !s.device.variant.packetsSpan) = false := by
  rcases h with h | h
  · simp [h, Variant.packetsSpan]
  · simp [mt (lastInFetchPacket_add_iff a j).1 h]

theorem add_word_add (a : Word) (j : Nat) :
    a + 4#32 + BitVec.ofNat 32 (4 * j) = a + BitVec.ofNat 32 (4 * (j + 1)) := by
  rw [BitVec.add_assoc, Nat.mul_succ, Nat.add_comm (4 * j), BitVec.ofNat_add]

theorem State.GoesOn.next {s : State} {a : Word} {j : Nat} (h : s.GoesOn a (j + 1)) : s.GoesOn (a + 4#32) j := by
  refine h.imp_right fun h => ?_
  rw [BitVec.toNat_add]
  simp only [BitVec.toNat_ofNat]
  omega

section
variable {s : State} {a : Word} {n m : Nat}

theorem packetFrom_cons {i : Instr} {l : List Instr} (h : s.fetchInstr a = .ok (i, true)) (hg : s.GoesOn a 0)
    (hl : s.packetFrom (a + 4#32) n = .ok l) : s.packetFrom a (n + 1) = .ok (i :: l) := by
  have hc := hg.not_crossing
  simp only [Nat.mul_zero, BitVec.add_zero] at hc
  simp [State.packetFrom, h, hc, hl]

theorem packetFrom_cons_error {i : Instr} {e : Refusal} (h : s.fetchInstr a = .ok (i, true)) (hg : s.GoesOn a 0)
    (he : s.packetFrom (a + 4#32) n = .error e) : s.packetFrom a (n + 1) = .error e := by
  have hc := hg.not_crossing
  simp only [Nat.mul_zero, BitVec.add_zero] at hc
  simp [State.packetFrom, h, hc, he]

end

theorem packetFrom_eq_ok (s : State) (l : List Instr) : ∀ (a : Word) (n : Nat), l ≠ [] → l.length ≤ n →
    (∀ j (h : j < l.length), s.fetchInstr (a + BitVec.ofNat 32 (4 * j)) = .ok (l[j], decide (j + 1 < l.length))) →
    (∀ j, j + 1 < l.length → s.GoesOn a j) → s.packetFrom a n = .ok l := by
  induction l with
  | nil => exact fun a n hne => absurd rfl hne
  | cons i rest ih =>
    intro a n _ hn hfetch hgo
    obtain ⟨n, rfl⟩ : ∃ k, n = k + 1 := ⟨n - 1, by simp at hn; omega⟩
    have h0 := hfetch 0 (by simp)
    simp only [Nat.mul_zero, BitVec.add_zero, List.getElem_cons_zero] at h0
    cases rest with
    | nil => exact packetFrom_of_last h0
    | cons i' rest =>
      refine packetFrom_cons (by simpa using h0) (hgo 0 (by simp)) (ih _ _ (by simp) (by simpa using hn) ?_ ?_)
      · intro j hj
        rw [add_word_add, hfetch (j + 1) (by simpa using hj)]
        simp
      · exact fun j hj => (hgo (j + 1) (by simpa using hj)).next

/-- What the rest of a packet is refused for, the packet is refused for. -/
theorem packetFrom_error_of_words (s : State) (m : Nat) (e : Refusal) : ∀ (n : Nat) (a : Word),
    (∀ j < n, ∃ i, s.fetchInstr (a + BitVec.ofNat 32 (4 * j)) = .ok (i, true)) → (∀ j < n, s.GoesOn a j) →
    s.packetFrom (a + BitVec.ofNat 32 (4 * n)) m = .error e → s.packetFrom a (m + n) = .error e := by
  intro n
  induction n with
  | zero => intro a _ _ h; simpa using h
  | succ n ih =>
    intro a hfetch hgo h
    obtain ⟨i, h0⟩ := hfetch 0 (by omega)
    refine packetFrom_cons_error (by simpa using h0) (hgo 0 (by omega)) (ih _ (fun j hj => ?_) (fun j hj => ?_) ?_)
    · rw [add_word_add]; exact hfetch (j + 1) (by omega)
    · exact (hgo (j + 1) (by omega)).next
    · rwa [add_word_add]

theorem packet_error_of_words {s : State} {n : Nat} {e : Refusal} (hn : n < 8)
    (hgo : s.device.variant = .c67xPlus ∨ ∀ j < n, (s.pc.toNat / 4 + j) % 8 ≠ 7)
    (hfetch : ∀ j < n, ∃ i, s.fetchInstr (s.pc + BitVec.ofNat 32 (4 * j)) = .ok (i, true))
    (h : ∀ m, s.packetFrom (s.pc + BitVec.ofNat 32 (4 * n)) (m + 1) = .error e) : s.packet = .error e := by
  obtain ⟨m, hm⟩ : ∃ m, 8 = m + 1 + n := ⟨7 - n, by omega⟩
  rw [State.packet, hm]
  exact packetFrom_error_of_words s _ e n s.pc hfetch (fun j hj => hgo.imp_right fun h => h j hj) (h m)

theorem packetFrom_of_fetch_error {s : State} {a : Word} {e : Refusal} {m : Nat} (h : s.fetchInstr a = .error e) :
    s.packetFrom a (m + 1) = .error e := by
  simp [State.packetFrom, h]

theorem fetchInstr_of_reject {s : State} {a : Word} {e : Reject} (h : decode (s.fetchWord a) = .error e) :
    s.fetchInstr a = .error (Reject.refusal e) := by
  simp [State.fetchInstr, h]

theorem fetchInstr_of_unavailable {s : State} {a : Word} {i : Instr} (h : decode (s.fetchWord a) = .ok i)
    (ha : i.available s.device.variant = false) : s.fetchInstr a = .error .notOnThisVariant := by
  simp [State.fetchInstr, h, ha]

/-- Settles O28: by induction on the words before the one that ends or refuses the packet. -/
theorem executePackets : Obligations.ExecutePackets := by
  refine ⟨fun s l hne hlen hfetch hgo => ?ok, fun s hv hfetch => ?tooLong, fun s n hv hn hlast hfetch => ?crosses,
    fun s n e hn hgo hfetch hd => ?reject, fun s n i hn hgo hfetch hd ha => ?variant,
    fun s r hf hp => step_of_packet_error hf hp⟩
  case ok => exact packetFrom_eq_ok s l s.pc 8 hne hlen hfetch fun j hj => hgo.imp_right fun h => h j hj
  case tooLong => exact packetFrom_error_of_words s 0 _ 8 s.pc hfetch (fun _ _ => .inl hv) rfl
  case crosses =>
    refine packet_error_of_words hn (.inr fun j hj => by omega) (fun j hj => hfetch j (by omega)) fun m => ?_
    obtain ⟨i, hi⟩ := hfetch n (Nat.le_refl n)
    simp [State.packetFrom, hi, (lastInFetchPacket_add_iff s.pc n).2 hlast, hv, Variant.packetsSpan]
  case reject =>
    refine packet_error_of_words hn hgo hfetch fun m => ?_
    rw [packetFrom_of_fetch_error (fetchInstr_of_reject hd)]
    cases e <;> rfl
  case variant =>
    exact packet_error_of_words hn hgo hfetch fun m => packetFrom_of_fetch_error (fetchInstr_of_unavailable hd ha)

end Sys2Proof.Machine
end

section
/-! The constant moves and the pseudo-instructions (43_compare_move.md R300 to R308, 30_encoding.md R165). -/

set_option Elab.async false

namespace Sys2Proof.Machine

open Sys2Proof.Claims

/-! Values as exact integers. -/

theorem word_natCast (n : Nat) : word n = BitVec.ofNat 32 n := BitVec.ofInt_natCast ..

theorem word_low (n : Int) : word n = (BitVec.ofInt 40 n).extractLsb' 0 32 := by
  apply BitVec.eq_of_toNat_eq
  simp only [word, BitVec.extractLsb'_toNat, BitVec.toNat_ofInt, Nat.shiftRight_eq_div_pow]
  omega

theorem word_high (n : Int) : word (n / 2 ^ 32 % 256) = ((BitVec.ofInt 40 n).extractLsb' 32 8).setWidth 32 := by
  apply BitVec.eq_of_toNat_eq
  simp only [word, BitVec.extractLsb'_toNat, BitVec.toNat_ofInt, BitVec.toNat_setWidth, Nat.shiftRight_eq_div_pow]
  omega

theorem State.srcLong_toNat (s : State) (side : Side) (p : Pair) : (s.srcLong side p).toNat = ulong s side p := by
  rw [State.srcLong, toNat_append_eq_add, BitVec.extractLsb'_toNat, ulong, lowName, highName]
  omega

theorem State.srcLong_eq (s : State) (side : Side) (p : Pair) : s.srcLong side p = BitVec.ofInt 40 (slong s side p) := by
  have h := BitVec.toInt_eq_toNat_bmod (s.srcLong side p)
  rw [State.srcLong_toNat] at h
  exact (BitVec.ofInt_toInt.symm).trans (congrArg (BitVec.ofInt 40) h)

/-! Issuing one result. -/

section
variable {c : Cond} {side : Side} {left : Nat} {s : State}

/-- A true condition: the word is queued. -/
theorem issueWord_of_true {dst : Reg} {v v' : Word} (hc : s.holds c = true) (hv : v = v') :
    issueWord c side dst left v s = .next (queue s [lands side dst left v']) := by
  rw [hv]
  exact guarded_of_true _ hc

/-- A true condition: both words of a long are queued. -/
theorem issueLong_of_true {dst : Pair} {v : Long} {n : Int} (hc : s.holds c = true) (hv : v = BitVec.ofInt 40 n) :
    issueLong c side dst v s = .next (queue s (landsLong side dst n)) := by
  rw [issueLong, guarded_of_true _ hc, landsLong, word_low, word_high, ← hv]
  simp [State.putLong, State.putWord, queue, lands]

end

/-! Constants. -/

theorem word_toInt (v : BitVec 16) : v.signExtend 32 = word v.toInt := rfl

theorem signExtend_low (v : Word) : (v.extractLsb' 0 16).signExtend 32 = word (Int.bmod v.toInt 65536) := by
  have h : (v.extractLsb' 0 16).toInt = Int.bmod v.toInt 65536 := by
    rw [BitVec.toInt_eq_toNat_bmod, BitVec.extractLsb'_toNat, BitVec.toInt_eq_toNat_bmod, Int.bmod_bmod_of_dvd (by decide)]
    simpa using Int.emod_bmod v.toNat 65536
  rw [word_toInt, h]

theorem append_lsb16 (k : BitVec 16) (v : Word) :
    k ++ lsb16 v = word ((k.toNat * 65536 + v.toNat % 65536 : Nat)) := by
  apply BitVec.eq_of_toNat_eq
  rw [word_natCast, toNat_append_eq_add, lsb16, BitVec.extractLsb'_toNat, BitVec.toNat_ofNat]
  omega

theorem neg_eq_word (v : Word) : scst 0#5 - v = word (-v.toInt) := by
  rw [word, BitVec.ofInt_neg, BitVec.ofInt_toInt]
  simp [scst]

theorem ones_xor (v : Word) : scst 0b11111#5 ^^^ v = ~~~v := by
  exact BitVec.allOnes_xor

theorem exec_expand (i : Instr) (s : State) : exec i.expand s = exec i s := by
  cases i
  case mv o => cases o <;> rfl
  case neg o => cases o <;> rfl
  case not o => cases o <;> rfl
  case zero o => cases o <;> rfl
  all_goals rfl

/-- Settles O11. -/
theorem movesAndPseudoInstructions : Obligations.MovesAndPseudoInstructions := by
  refine ⟨fun o s hc => ?mvk, fun o s hc => ?mvkl, fun o s hc => ?mvkh, fun o s hc => ?mvklh, fun o s hc => ?mvL,
    fun o s hc => ?mvS, fun o s hc => ?mvD, fun o s hc => ?mvLong, fun o s hc => ?negL, fun o s hc => ?negS,
    fun o s hc => ?negLong, fun o s hc => ?notL, fun o s hc => ?notS, fun o s hc => ?zeroL, fun o s hc => ?zeroD,
    fun o s hc => ?zeroMvk, fun o s hc => ?zeroSub, fun o s hc => ?zeroLong, exec_expand⟩
  case mvk => exact issueWord_of_true hc rfl
  case mvkl => exact issueWord_of_true hc (signExtend_low o.cst)
  case mvkh => exact issueWord_of_true hc (append_lsb16 ..)
  case mvklh => exact issueWord_of_true hc ((append_lsb16 ..).trans (by simp [State.src]))
  case mvL | mvS => exact issueWord_of_true hc (by rw [State.srcX_eq]; exact BitVec.zero_add _)
  case mvD => exact issueWord_of_true hc (BitVec.add_zero _)
  case mvLong => exact issueLong_of_true hc ((BitVec.zero_add _).trans (s.srcLong_eq ..))
  case negL | negS => exact issueWord_of_true hc (by rw [State.srcX_eq, neg_eq_word])
  case negLong =>
    refine issueLong_of_true hc ?_
    rw [State.srcLong_eq, BitVec.ofInt_neg]
    exact BitVec.zero_sub _
  case notL | notS => exact issueWord_of_true hc (by rw [State.srcX_eq, ones_xor])
  case zeroL | zeroD | zeroSub => exact issueWord_of_true hc (BitVec.sub_self _)
  case zeroMvk => exact issueWord_of_true hc rfl
  case zeroLong => exact issueLong_of_true hc (BitVec.sub_self _)

end Sys2Proof.Machine
end

section
/-! What a meaning may change (40_execution_model.md R171, R176): effects are only queued, and only a store changes
memory. -/

set_option Elab.async false

namespace Sys2Proof.Machine

/-- Data memory and its two records: the addresses stored to, and the code that is no longer known. -/
def State.memories (s : State) : Memory × List Nat × List Nat := (s.mem, s.stored, s.codeStores)

section
variable {c : Cond} {side : Side} {s t : State}

/-- A guarded effect leaves memory alone if the effect does. -/
theorem guarded_memories {u : State} (h : guarded c s (.next u) = .next t) (hu : u.memories = s.memories) :
    t.memories = s.memories := by
  rcases guarded_next h with ⟨-, rfl⟩ | ⟨-, h⟩
  · rfl
  · exact Host.Outcome.next.inj h ▸ hu

theorem State.noteOverflow_memories (s : State) (left : Nat) (clamped : Bool) :
    (s.noteOverflow left clamped).memories = s.memories := by
  cases clamped <;> rfl

theorem State.drawFor_memories (s : State) (v : Option Word) : (s.drawFor v).memories = s.memories := by
  cases v <;> rfl

theorem State.updateBase_memories {γ : Type} (s : State) (o : Mem γ) (sh : Nat) :
    (s.updateBase o sh).memories = s.memories := by
  unfold State.updateBase
  split <;> exact s.drawFor_memories _

theorem State.finishLoad_memories (s : State) (side : Side) (dst : Reg) (extend : Nat → Word) (r : Option Nat) :
    (s.finishLoad side dst extend r).memories = s.memories := by
  cases r <;> rfl

theorem State.finishLoadPair_memories (s : State) (side : Side) (dst : Pair) (r : Option Nat) :
    (s.finishLoadPair side dst r).memories = s.memories := by
  cases r <;> simp [State.finishLoadPair, State.memories]

theorem issueSat32_memories {dst : Reg} {left : Nat} {v : Int} (h : issueSat32 c side dst left v s = .next t) :
    t.memories = s.memories :=
  guarded_memories h (State.noteOverflow_memories ..)

theorem issueSat40_memories {dst : Pair} {v : Int} (h : issueSat40 c side dst v s = .next t) :
    t.memories = s.memories :=
  guarded_memories h (State.noteOverflow_memories ..)

theorem issueOpen_memories {dst : Reg} {v : Option Word} (h : issueOpen c side dst v s = .next t) :
    t.memories = s.memories := by
  rcases issueOpen_next h with ⟨-, rfl⟩ | ⟨-, w, rfl, -⟩
  · rfl
  · exact s.drawFor_memories v

theorem execSshl_memories {o : Bin Reg Reg Reg} (h : execSshl o s = .next t) : t.memories = s.memories := by
  unfold execSshl at h
  split at h
  · exact issueSat32_memories h
  · exact guarded_memories h (by simp [State.memories])

theorem execMvcWrite_memories {o : MvcWrite} (h : execMvcWrite o s = .next t) : t.memories = s.memories := by
  rcases execMvcWrite_next h with ⟨-, rfl⟩ | ⟨-, -, ⟨rfl, -⟩ | ⟨rfl, -⟩⟩
  · rfl
  · rfl
  · simp [State.memories]

theorem issueLoad_memories {o : Mem Reg} {sh : Nat} {extend : Nat → Word} (h : issueLoad o sh extend s = .next t) :
    t.memories = s.memories :=
  guarded_memories h ((State.finishLoad_memories ..).trans (s.updateBase_memories o sh))

theorem issueLoadK_memories {o : MemK} {sh : Nat} {extend : Nat → Word} (h : issueLoadK o sh extend s = .next t) :
    t.memories = s.memories :=
  guarded_memories h (s.finishLoad_memories ..)

theorem execLddw_memories {o : Mem Pair} (h : execLddw o s = .next t) : t.memories = s.memories :=
  guarded_memories h ((State.finishLoadPair_memories ..).trans (s.updateBase_memories o 3))

end

/-- Every instruction but the six stores leaves memory alone. The instructions without a case of their own here queue one
result or one branch when their condition is true. -/
theorem exec_memories {i : Instr} {s t : State} (h : exec i s = .next t) (hi : (issueOf i).timing ≠ .store) :
    t.memories = s.memories := by
  cases i
  case stb | sth | stw | stbK | sthK | stwK => exact absurd rfl hi
  case sadd | saddC | sat | ssub | ssubX | ssubC | sshlC | smpy | smpyhl | smpylh | smpyh => exact issueSat32_memories h
  case saddLong | saddLongC | ssubLongC => exact issueSat40_memories h
  case sshl => exact execSshl_memories h
  case clrReg | extReg | extuReg | setReg | mvcRead | setConst | clrConst | addab | addabC | addah | addahC | addaw
    | addawC | addad | addadC | subab | subabC | subah | subahC | subaw | subawC => exact issueOpen_memories h
  case mvcWrite => exact execMvcWrite_memories h
  case ldhu | ldbu | ldb | ldh | ldw => exact issueLoad_memories h
  case ldhuK | ldbuK | ldbK | ldhK | ldwK => exact issueLoadK_memories h
  case lddw => exact execLddw_memories h
  case nop | nop9 | idle => exact Host.Outcome.next.inj h ▸ rfl
  case mv o => cases o <;> exact guarded_memories h rfl
  case neg o => cases o <;> exact guarded_memories h rfl
  case not o => cases o <;> exact guarded_memories h rfl
  case zero o => cases o <;> exact guarded_memories h rfl
  all_goals exact guarded_memories h rfl

/-- Settles O25: what an instruction issues only grows the queues (`exec_issues`), and memory changes by a store alone
(`exec_memories`). -/
theorem meaningsOnlyQueue : Obligations.MeaningsOnlyQueue := by
  intro i s t h
  obtain ⟨hframe, hwrites, hsats, hwarns, hbranches, hcontrols, hnop, hfree⟩ := (exec_issues h).grows
  refine ⟨hframe, hwrites, hsats, hwarns, hbranches, hcontrols, hnop, hfree, fun hi => ?_⟩
  have hm := exec_memories h hi
  simpa only [State.memories, Prod.mk.injEq] using hm

end Sys2Proof.Machine
end

section
/-! Register writes at the end of a cycle (40_execution_model.md R171, R176, R177, R193). -/

set_option Elab.async false

namespace Sys2Proof.Machine

open Sys2Proof.Claims

/-- The writes on a register that are due at the end of this cycle. -/
def State.dueOn (s : State) (n : RegName) : List PendingWrite := s.writes.filter fun w => w.left == 0 && w.reg == n

theorem mem_dueOn {s : State} {n : RegName} {w : PendingWrite} :
    w ∈ s.dueOn n ↔ w ∈ s.writes ∧ w.left = 0 ∧ w.reg = n := by
  simp [State.dueOn]

theorem State.filter_landing (s : State) (n : RegName) : (s.landing.filter fun w => w.reg == n) = s.dueOn n := by
  simp only [State.landing, State.dueOn, List.filter_filter, Bool.and_comm]

theorem State.count_landingRegs (s : State) (n : RegName) : s.landingRegs.count n = (s.dueOn n).length := by
  rw [← State.filter_landing, State.landingRegs, List.count, List.countP_map, List.countP_eq_length_filter]
  rfl

/-- A register at the end of a cycle: the last of the writes due on it, with the value it leaves. -/
theorem State.endCycle_reg_eq (s : State) (issues : List Issue) (seq : Word) (n : RegName) :
    (s.endCycle issues seq).reg n =
      match (s.dueOn n).getLast? with
      | none => s.reg n
      | some w => s.landedValue w := by
  rw [State.endCycle_reg, ← State.filter_landing]
  exact State.reg_foldl_setReg s s.landing s n

theorem RegName.index_lt (n : RegName) : n.index < 64 := by
  have := n.num.isLt
  unfold RegName.index
  split <;> omega

section
variable {s : State} {issues : List Issue} {seq : Word} {n : RegName} {w : PendingWrite}

theorem endCycle_reg_of_none_due (h : ∀ w ∈ s.writes, w.left = 0 → w.reg ≠ n) :
    (s.endCycle issues seq).reg n = s.reg n := by
  have hd : s.dueOn n = [] := List.eq_nil_iff_forall_not_mem.2 fun w hw => by
    obtain ⟨hm, hl, hr⟩ := mem_dueOn.1 hw
    exact h w hm hl hr
  rw [State.endCycle_reg_eq, hd]
  rfl

theorem endCycle_reg_of_one_due (hw : w ∈ s.dueOn n) (h : (s.dueOn n).length = 1) :
    (s.endCycle issues seq).reg n = w.value := by
  obtain ⟨v, hv⟩ := List.length_eq_one_iff.1 h
  have hwv : w = v := List.mem_singleton.1 (hv ▸ hw)
  obtain ⟨-, -, hr⟩ := mem_dueOn.1 hw
  rw [State.endCycle_reg_eq, hv, ← hwv]
  show s.landedValue w = w.value
  rw [State.landedValue, if_neg (by rw [hr, State.count_landingRegs, h]; decide)]

/-- Two writes that land on one register leave the free word with the register's number. -/
theorem endCycle_reg_of_collision (h : 1 < (s.dueOn n).length) :
    (s.endCycle issues seq).reg n = Config.freeWord (s.free + n.index) := by
  obtain ⟨w, hw⟩ : ∃ w, (s.dueOn n).getLast? = some w :=
    Option.ne_none_iff_exists'.1 fun hn => by simp [List.getLast?_eq_none_iff.1 hn] at h
  obtain ⟨-, -, hr⟩ := mem_dueOn.1 (List.mem_of_getLast? hw)
  rw [State.endCycle_reg_eq, hw]
  show s.landedValue w = _
  rw [State.landedValue, hr, if_pos (by rwa [State.count_landingRegs])]

/-- What becomes of a write that stays in flight. -/
theorem PendingWrite.age_cases (w : PendingWrite) (s : State) (n : Nat) :
    ((w.watchLeft = 0 ∨ ∀ r ∈ w.watch, ¬ Due s r) ∧
      w.age s.landingRegs n = { w with left := w.left - 1, watchLeft := w.watchLeft - 1 }) ∨
    ((0 < w.watchLeft ∧ ∃ r ∈ w.watch, Due s r) ∧
      w.age s.landingRegs n = ⟨w.reg, Config.freeWord n, w.left - 1, [], 0⟩) := by
  have hd : disturbed s.landingRegs w.watch w.watchLeft = true ↔ 0 < w.watchLeft ∧ ∃ r ∈ w.watch, Due s r := by
    simp only [disturbed_iff, mem_landingRegs]
  by_cases h : 0 < w.watchLeft ∧ ∃ r ∈ w.watch, Due s r
  · exact Or.inr ⟨h, if_pos (hd.2 h)⟩
  · refine Or.inl ⟨?_, if_neg (mt hd.1 h)⟩
    rw [not_and_or, Nat.pos_iff_ne_zero, not_not] at h
    exact h.imp_right fun h r hr hdue => h ⟨r, hr, hdue⟩

/-- A write that stays in flight is among those of the next cycle, with a number of its own for a free value. -/
theorem age_mem_endCycle_writes (issues : List Issue) (seq : Word) (h : w ∈ s.writes) (hl : w.left ≠ 0) :
    ∃ j, s.free ≤ j ∧ j < (s.endCycle issues seq).free ∧
      w.age s.landingRegs j ∈ (s.endCycle issues seq).writes := by
  obtain ⟨j, h1, h2, hj⟩ := age_mem_ageWrites (regs := s.landingRegs) (n := s.free + 64) h hl
  rw [State.endCycle_free, State.endCycle_writes]
  exact ⟨j, by omega, by omega, hj⟩

end

/-- Settles O36: a register by how many writes are due on it, a write still in flight by `PendingWrite.age_cases`. -/
theorem registersLand : Obligations.RegistersLand := by
  intro s issues seq n
  refine ⟨endCycle_reg_of_none_due, fun w hw hl hr h => endCycle_reg_of_one_due (mem_dueOn.2 ⟨hw, hl, hr⟩) h,
    fun h => ⟨s.free + n.index, Nat.le_add_right .., ?_, endCycle_reg_of_collision h⟩, fun w hw k hk hd => ?_,
    fun w hw k hk h0 hd => ?_, fun w hw => ?_⟩
  · have := n.index_lt
    rw [State.endCycle_free]
    omega
  · obtain ⟨j, -, -, hj⟩ := age_mem_endCycle_writes issues seq hw (by omega)
    rcases w.age_cases s j with ⟨-, ha⟩ | ⟨⟨h0, r, hr, hdue⟩, -⟩
    · simpa [ha, hk] using hj
    · exact (hd.elim (by omega) fun hd => hd r hr hdue).elim
  · obtain ⟨j, h1, h2, hj⟩ := age_mem_endCycle_writes issues seq hw (by omega)
    rcases w.age_cases s j with ⟨hn, -⟩ | ⟨-, ha⟩
    · obtain ⟨r, hr, hdue⟩ := hd
      exact (hn.elim (by omega) fun hn => hn r hr hdue).elim
    · exact ⟨j, h1, h2, by simpa [ha, hk] using hj⟩
  · rw [State.endCycle_writes] at hw
    obtain ⟨v, hv, -, hr, hl⟩ := mem_ageWrites hw
    exact ⟨v, hv, hr, hl⟩

end Sys2Proof.Machine
end

section
/-! The resource rules against the cycles before (40_execution_model.md R174, R190, R192). -/

set_option Elab.async false

namespace Sys2Proof.Machine

open Sys2Proof.Claims

/-! What issued before, with its age. -/

theorem mem_ageFrom {l : List (List Issue)} {a n : Nat} {c : List Issue} {h : Issue} (hc : l[a]? = some c)
    (hh : h ∈ c) : (n + a, h) ∈ aged.ageFrom n l := by
  induction l generalizing a n with
  | nil => simp at hc
  | cons x rest ih =>
    rw [aged.ageFrom, List.mem_append]
    cases a with
    | zero =>
      obtain rfl : x = c := by simpa using hc
      exact Or.inl (List.mem_map_of_mem hh)
    | succ a =>
      have hrest := ih (n := n + 1) (a := a) (by simpa using hc)
      rw [Nat.add_right_comm, Nat.add_assoc] at hrest
      exact Or.inr hrest

/-- What issued `a` cycles before the previous one is of age `a + 1`. -/
theorem mem_aged {history : List (List Issue)} {a : Nat} {c : List Issue} {h : Issue} (hc : history[a]? = some c)
    (hh : h ∈ c) : (a + 1, h) ∈ aged history :=
  Nat.add_comm 1 a ▸ mem_ageFrom hc hh

/-! Locked units (40_execution_model.md R174). -/

theorem lockCycles_eq (t : Timing) : lockCycles t = t.lock := by
  cases t <;> rfl

/-- A packet that may issue uses no locked unit. -/
theorem unitsUnlocked_of_issues {history : List (List Issue)} {now : List Issue}
    (h : packetRefusal history now = none) : unitsUnlocked (aged history) now = true := by
  unfold packetRefusal at h
  cases hu : unitsUnlocked (aged history) now
  · simp only [hu, Bool.not_false, if_true] at h
    split at h <;> cases h
  · rfl

/-- A unit in use by an instruction of age `n` is free again for another one. -/
theorem lock_le_of_unitsUnlocked {past : List (Nat × Issue)} {now : List Issue} {n : Nat} {h j : Issue} {u : FUnit}
    (hu : unitsUnlocked past now = true) (hp : (n, h) ∈ past) (hj : j ∈ now) (hh : h.unit = some u)
    (hju : j.unit = some u) : h.timing.lock ≤ n := by
  have hor := List.all_eq_true.1 hu _ hp
  rw [Bool.or_eq_true, decide_eq_true_eq, List.all_eq_true] at hor
  refine hor.resolve_right fun hall => ?_
  simpa [hh, hju] using hall j hj

/-- A packet that breaks a resource rule is refused. -/
theorem step_refused_of_packetRefusal {s : State} {p : List Instr} (hf : Fetches s) (hp : s.packet = .ok p)
    (h : packetRefusal s.history (p.map issueOf) ≠ none) : ∃ r, step s = .refused r := by
  obtain ⟨r, hr⟩ := Option.ne_none_iff_exists'.1 h
  exact ⟨r, by rw [step_of_packet hf hp, issuePacket_of_refusal hr]⟩

/-- Settles O34: a packet that may issue comes after the lock of each unit it uses (`lock_le_of_unitsUnlocked`). The timing
types are those `issueOf` gives. -/
theorem unitLocked : Obligations.UnitLocked := by
  refine ⟨fun s p a c h i u hf hp hc hh hu ha hi hiu => step_refused_of_packetRefusal hf hp fun hn => ?_,
    fun o => ⟨rfl, rfl, rfl⟩, fun o => ⟨rfl, rfl, rfl, rfl, fun _ => rfl, rfl⟩, fun o c => ⟨rfl, rfl⟩,
    fun o c => ⟨rfl, rfl, rfl⟩, fun o => rfl⟩
  have hlock := lock_le_of_unitsUnlocked (unitsUnlocked_of_issues hn) (mem_aged hc hh) (List.mem_map_of_mem hi) hu hiu
  rw [← lockCycles_eq] at hlock
  omega

/-! Reads further ahead than a packet is checked for (40_execution_model.md R192). -/

/-- An issue that reads A0 five times in the sixth cycle. No instruction is like it (`issueOf_reads_length`), but a state may
record it. -/
def farReader : Issue :=
  ⟨none, .none, false, [[], [], [], [], [], List.replicate 5 ⟨.a, 0#5⟩], false, false, none, false⟩

/-- The reset state with that issue in the cycle before. Memory lists nothing, so the word at pc is NOP 1. -/
def farReading : State := { State.reset with history := [[farReader]] }

theorem farReading_fetches : Fetches farReading := ⟨rfl, rfl, rfl, rfl, rfl, rfl⟩

theorem farReading_packet : farReading.packet = .ok [.nop 0#3] := rfl

theorem farReading_readsOf : readsOf farReading [.nop 0#3] 4 ⟨.a, 0#5⟩ = 5 := by decide

theorem farReading_step : ∃ t, step farReading = .next t := by
  rw [step_of_packet farReading_fetches farReading_packet]
  exact ⟨_, issuePacket_of_next (by decide) rfl⟩

/-- Refutes O35: its fourth clause asks for a refusal when a register is read more than four times in any later cycle, in every
state. A packet is held to its own cycle and the next three (`readsLimited`), which are all the cycles an instruction reads
in, but the history of a state may record an issue that reads later: in `farReading` A0 is read five times in the fourth
cycle from now, and the NOP at pc issues. -/
theorem not_resourceRefusals : ¬ Obligations.ResourceRefusals := by
  rintro ⟨-, -, -, hreads, -⟩
  obtain ⟨e, he⟩ := hreads farReading [.nop 0#3] 4 ⟨.a, 0#5⟩ farReading_fetches farReading_packet
    (by rw [farReading_readsOf]; decide)
  obtain ⟨t, ht⟩ := farReading_step
  rw [ht] at he
  cases he

end Sys2Proof.Machine
end

section
/-! Sums and products of floating-point numbers by class (47_float_arith.md R404 to R430), in any format. -/

set_option Elab.async false

namespace Sys2Proof.Machine

open Sys2Proof.Claims

/-! Patterns and classes. -/

theorem pattern_eq_packFields (f : FpFormat) (neg : Bool) (e frac : Nat) :
    pattern f neg e frac = packFields f neg e frac := by
  rw [pattern, packFields, Nat.add_comm f.expBits]

theorem infinity_eq_packInf (f : FpFormat) (neg : Bool) : infinity f neg = packInf f neg :=
  pattern_eq_packFields ..

theorem nanOut_eq_packNan (f : FpFormat) (neg : Bool) : nanOut f neg = packNan f neg :=
  pattern_eq_packFields ..

theorem pattern_zero_eq_packZero (f : FpFormat) (neg : Bool) : pattern f neg 0 0 = packZero f neg :=
  pattern_eq_packFields ..

theorem isNan_iff (x : Fp) : IsNan x ↔ x.isNan = true := by
  cases x <;> simp [IsNan, Fp.isNan]

theorem finite_cases {x : Fp} (h : Finite x) :
    (∃ n, x = .zero n) ∨ (∃ n, x = .denormal n) ∨ ∃ n k e, x = .normal n k e := by
  obtain ⟨hnan, hinf⟩ := h
  cases x with
  | zero n => exact Or.inl ⟨n, rfl⟩
  | denormal n => exact Or.inr (Or.inl ⟨n, rfl⟩)
  | normal n k e => exact Or.inr (Or.inr ⟨n, k, e, rfl⟩)
  | inf n => exact absurd rfl (hinf n)
  | nan n q => exact absurd ⟨n, q, rfl⟩ hnan

/-! The warnings of two sources, each the sum of what one source raises. -/

/-- The NaN warnings of one source whose NAN bit is `bit` (47_float_arith.md R409). -/
def nanPart (bit : BitVec 11) : Fp → BitVec 11
  | .nan _ sig => bit ||| bitIf sig inval
  | _ => 0#11

/-- The class is denormal. -/
def isDenormal : Fp → Bool
  | .denormal _ => true
  | _ => false

theorem nanWarn_eq (a b : Fp) : nanWarn a b = nanPart nan1 a ||| nanPart nan2 b := by
  cases a <;> cases b <;> rfl

theorem nanBits_eq (a b : Fp) : nanBits a b = nanPart nan1 a ||| nanPart nan2 b := by
  unfold nanBits
  congr 1
  · cases a with
    | nan n q => cases q <;> rfl
    | zero | denormal | normal | inf => rfl
  · cases b with
    | nan n q => cases q <;> rfl
    | zero | denormal | normal | inf => rfl

theorem denWarn_eq (a b : Fp) : denWarn a b = bitIf (isDenormal a) den1 ||| bitIf (isDenormal b) den2 := by
  cases a <;> cases b <;> rfl

theorem denBits_eq (a b : Fp) :
    denBits a b = bitIf (isDenormal a) (den1 ||| inex) ||| bitIf (isDenormal b) (den2 ||| inex) := by
  cases a <;> cases b <;> rfl

theorem denWarn_or_denInex (a b : Fp) : denWarn a b ||| denInex a b = denBits a b := by
  rw [denInex, denWarn_eq, denBits_eq]
  generalize isDenormal a = p
  generalize isDenormal b = q
  revert p q
  decide

/-! Warnings exchanged: the first source's for the second's (40_execution_model.md R180). -/

theorem exchanged_or (v w : BitVec 11) : exchanged (v ||| w) = exchanged v ||| exchanged w := by
  have distrib (x y k : BitVec 11) : (x ||| y) &&& k = x &&& k ||| y &&& k := by
    rw [BitVec.and_comm, BitVec.and_or_distrib_left, BitVec.and_comm k, BitVec.and_comm k]
  simp only [exchanged, distrib, BitVec.shiftLeft_or_distrib, BitVec.ushiftRight_or_distrib]
  ac_rfl

theorem exchanged_nanBits (a b : Fp) : exchanged (nanBits b a) = nanBits a b := by
  have first (x : Fp) : exchanged (nanPart nan1 x) = nanPart nan2 x := by
    cases x with
    | nan n q =>
      change exchanged (nan1 ||| bitIf q inval) = nan2 ||| bitIf q inval
      cases q <;> decide
    | zero | denormal | normal | inf =>
      change exchanged 0#11 = 0#11
      decide
  have second (x : Fp) : exchanged (nanPart nan2 x) = nanPart nan1 x := by
    cases x with
    | nan n q =>
      change exchanged (nan2 ||| bitIf q inval) = nan1 ||| bitIf q inval
      cases q <;> decide
    | zero | denormal | normal | inf =>
      change exchanged 0#11 = 0#11
      decide
  rw [nanBits_eq, nanBits_eq, exchanged_or, first, second, BitVec.or_comm]

theorem exchanged_denWarn (a b : Fp) : exchanged (denWarn b a) = denWarn a b := by
  rw [denWarn_eq, denWarn_eq]
  generalize isDenormal a = p
  generalize isDenormal b = q
  revert p q
  decide

theorem exchanged_denBits (a b : Fp) : exchanged (denBits b a) = denBits a b := by
  rw [denBits_eq, denBits_eq]
  generalize isDenormal a = p
  generalize isDenormal b = q
  revert p q
  decide

/-- A result that raises none of the warnings of a source: exchanging the sources changes nothing. -/
def Sourceless (r : FpResult) : Prop := exchanged r.warn = r.warn

theorem sourceless_overflowResult (f : FpFormat) (m : FpMode) (neg : Bool) : Sourceless (overflowResult f m neg) := by
  have hinf (i : Bool) : exchanged (warnOver ||| warnInex ||| warnIf i warnInfo) =
      warnOver ||| warnInex ||| warnIf i warnInfo := by cases i <;> decide
  have hlargest : exchanged (warnOver ||| warnInex) = warnOver ||| warnInex := by decide
  exact iteInduction (fun _ => hinf _) fun _ => hlargest

theorem sourceless_underflowResult (f : FpFormat) (m : FpMode) (neg : Bool) : Sourceless (underflowResult f m neg) := by
  have hwarn : exchanged (warnUnder ||| warnInex) = warnUnder ||| warnInex := by decide
  exact iteInduction (fun _ => hwarn) fun _ => hwarn

theorem sourceless_roundPack (f : FpFormat) (m : FpMode) (neg : Bool) (man : Nat) (exp : Int) :
    Sourceless (roundPack f m neg man exp) := by
  have hinex (i : Bool) : exchanged (warnIf i warnInex) = warnIf i warnInex := by cases i <;> decide
  exact iteInduction (fun _ => sourceless_overflowResult f m neg) fun _ =>
    iteInduction (fun _ => sourceless_underflowResult f m neg) fun _ => hinex _

/-! Sums and products by class (47_float_arith.md R412, R416), for every format. -/

section

variable (f : FpFormat) (m : FpMode)

theorem addFp_of_nan {a b : Fp} (h : a.isNan || b.isNan) : addFp f m a b = ⟨nanOut f false, nanBits a b⟩ := by
  have hsum : addFp f m a b = ⟨packNan f false, nanWarn a b⟩ := if_pos h
  rw [hsum, nanOut_eq_packNan, nanWarn_eq, nanBits_eq]

theorem mulFp_of_nan {a b : Fp} (h : a.isNan || b.isNan) :
    mulFp f m a b = ⟨nanOut f (a.neg ^^ b.neg), nanBits a b⟩ := by
  have hproduct : mulFp f m a b = ⟨packNan f (a.neg ^^ b.neg), nanWarn a b⟩ := if_pos h
  rw [hproduct, nanOut_eq_packNan, nanWarn_eq, nanBits_eq]

theorem addFp_inf_of_ne {x y : Bool} (h : x ≠ y) : addFp f m (.inf x) (.inf y) = ⟨nanOut f false, inval⟩ := by
  rw [nanOut_eq_packNan]
  exact if_neg (mt eq_of_beq h)

theorem addFp_inf_same (x : Bool) : addFp f m (.inf x) (.inf x) = ⟨infinity f x, info⟩ := by
  rw [infinity_eq_packInf]
  exact if_pos (beq_self_eq_true x)

theorem addFp_inf_finite (x : Bool) {b : Fp} (h : Finite b) :
    addFp f m (.inf x) b = ⟨infinity f x, info ||| denWarn (.inf x) b⟩ := by
  rw [infinity_eq_packInf]
  obtain ⟨n, rfl⟩ | ⟨n, rfl⟩ | ⟨n, k, e, rfl⟩ := finite_cases h <;> rfl

theorem addFp_finite_inf (x : Bool) {b : Fp} (h : Finite b) :
    addFp f m b (.inf x) = ⟨infinity f x, info ||| denWarn b (.inf x)⟩ := by
  rw [infinity_eq_packInf]
  obtain ⟨n, rfl⟩ | ⟨n, rfl⟩ | ⟨n, k, e, rfl⟩ := finite_cases h <;> rfl

/-- Between finite operands: the sum of what they count as, and the warnings of the denormal ones. -/
theorem addFp_of_finite {a b : Fp} (ha : Finite a) (hb : Finite b) : addFp f m a b =
    ⟨(addFinite f m (flushed a) (flushed b)).bits, (addFinite f m (flushed a) (flushed b)).warn ||| denBits a b⟩ := by
  rw [← denWarn_or_denInex, ← BitVec.or_assoc]
  obtain ⟨x, rfl⟩ | ⟨x, rfl⟩ | ⟨x, k, d, rfl⟩ := finite_cases ha <;>
    obtain ⟨y, rfl⟩ | ⟨y, rfl⟩ | ⟨y, l, e, rfl⟩ := finite_cases hb <;> rfl

/-- A finite class that is not denormal. -/
def IsFlushed (a : Fp) : Prop := Finite a ∧ flushed a = a

theorem isFlushed_zero (x : Bool) : IsFlushed (.zero x) :=
  ⟨⟨nofun, nofun⟩, rfl⟩

theorem isFlushed_normal (x : Bool) (k : Nat) (e : Int) : IsFlushed (.normal x k e) :=
  ⟨⟨nofun, nofun⟩, rfl⟩

theorem isFlushed_flushed {a : Fp} (h : Finite a) : IsFlushed (flushed a) := by
  obtain ⟨x, rfl⟩ | ⟨x, rfl⟩ | ⟨x, k, e, rfl⟩ := finite_cases h
  · exact isFlushed_zero x
  · exact isFlushed_zero x
  · exact isFlushed_normal x k e

theorem denBits_of_isFlushed {a b : Fp} (ha : IsFlushed a) (hb : IsFlushed b) : denBits a b = 0#11 := by
  have plain {x : Fp} (h : IsFlushed x) : isDenormal x = false := by
    cases x with
    | denormal n => exact nomatch h.2
    | zero | normal | inf | nan => rfl
  rw [denBits_eq, plain ha, plain hb]
  rfl

theorem addFp_of_isFlushed {a b : Fp} (ha : IsFlushed a) (hb : IsFlushed b) :
    addFp f m a b = addFinite f m a b := by
  rw [addFp_of_finite f m ha.1 hb.1, ha.2, hb.2, denBits_of_isFlushed ha hb, BitVec.or_zero]

theorem addFp_finite_eq_flushed {a b : Fp} (ha : Finite a) (hb : Finite b) : addFp f m a b =
    ⟨(addFp f m (flushed a) (flushed b)).bits, (addFp f m (flushed a) (flushed b)).warn ||| denBits a b⟩ := by
  rw [addFp_of_isFlushed f m (isFlushed_flushed ha) (isFlushed_flushed hb), addFp_of_finite f m ha hb]

theorem mulFp_of_flushed_zero {a b : Fp} {x : Bool} (ha : Finite a) (hb : Finite b)
    (h : flushed a = .zero x ∨ flushed b = .zero x) :
    mulFp f m a b = ⟨pattern f (a.neg ^^ b.neg) 0 0, denBits a b⟩ := by
  rw [pattern_zero_eq_packZero, ← denWarn_or_denInex]
  obtain ⟨y, rfl⟩ | ⟨y, rfl⟩ | ⟨y, k, d, rfl⟩ := finite_cases ha <;>
    obtain ⟨z, rfl⟩ | ⟨z, rfl⟩ | ⟨z, l, e, rfl⟩ := finite_cases hb
  case inr.inr.inr.inr => exact h.elim nofun nofun
  all_goals rfl

theorem mulFp_inf_zero (x y : Bool) : mulFp f m (.inf x) (.zero y) = ⟨nanOut f (x ^^ y), inval⟩ := by
  have hproduct : mulFp f m (.inf x) (.zero y) = ⟨packNan f (x ^^ y), inval ||| (0#11 ||| 0#11)⟩ := rfl
  rw [hproduct, nanOut_eq_packNan, BitVec.or_zero, BitVec.or_zero]

theorem mulFp_zero_inf (x y : Bool) : mulFp f m (.zero x) (.inf y) = ⟨nanOut f (x ^^ y), inval⟩ := by
  have hproduct : mulFp f m (.zero x) (.inf y) = ⟨packNan f (x ^^ y), inval ||| (0#11 ||| 0#11)⟩ := rfl
  rw [hproduct, nanOut_eq_packNan, BitVec.or_zero, BitVec.or_zero]

theorem mulFp_inf_denormal (x y : Bool) :
    mulFp f m (.inf x) (.denormal y) = ⟨nanOut f (x ^^ y), inval ||| den2⟩ := by
  have hproduct : mulFp f m (.inf x) (.denormal y) = ⟨packNan f (x ^^ y), inval ||| (0#11 ||| den2)⟩ := rfl
  rw [hproduct, nanOut_eq_packNan, BitVec.zero_or]

theorem mulFp_denormal_inf (x y : Bool) :
    mulFp f m (.denormal x) (.inf y) = ⟨nanOut f (x ^^ y), inval ||| den1⟩ := by
  have hproduct : mulFp f m (.denormal x) (.inf y) = ⟨packNan f (x ^^ y), inval ||| (den1 ||| 0#11)⟩ := rfl
  rw [hproduct, nanOut_eq_packNan, BitVec.or_zero]

theorem mulFp_inf_inf (x y : Bool) : mulFp f m (.inf x) (.inf y) = ⟨infinity f (x ^^ y), info⟩ := by
  rw [infinity_eq_packInf]; rfl

theorem mulFp_inf_normal (x y : Bool) (k : Nat) (e : Int) :
    mulFp f m (.inf x) (.normal y k e) = ⟨infinity f (x ^^ y), info⟩ := by
  rw [infinity_eq_packInf]; rfl

theorem mulFp_normal_inf (x y : Bool) (k : Nat) (e : Int) :
    mulFp f m (.normal x k e) (.inf y) = ⟨infinity f (x ^^ y), info⟩ := by
  rw [infinity_eq_packInf]; rfl

theorem mulFp_normal_normal (x y : Bool) (k l : Nat) (d e : Int) :
    mulFp f m (.normal x k d) (.normal y l e) = roundPack f m (x ^^ y) (k * l) (d + e) := rfl

/-! The exact sum of two finite values at their common exponent (47_float_arith.md R412 step 5). -/

/-- The sum of two finite values as an integer at their common exponent. -/
def scaledSum (a b : Fp) : Int := a.scaled (commonExp a b) + b.scaled (commonExp a b)

theorem addFinite_of_ne {a b : Fp} (h : scaledSum a b ≠ 0) :
    addFinite f m a b = roundPack f m (decide (scaledSum a b < 0)) (scaledSum a b).natAbs (commonExp a b) :=
  if_neg h

/-- The sign of a sum that is zero: of two zeros of one sign that sign, else by the rounding mode. -/
def zeroSumSign (m : FpMode) : Fp → Fp → Bool
  | .zero x, .zero y => if x == y then x else m.rm == 3#2
  | _, _ => m.rm == 3#2

theorem addFinite_of_eq_zero {a b : Fp} (h : scaledSum a b = 0) :
    addFinite f m a b = ⟨pattern f (zeroSumSign m a b) 0 0, 0#11⟩ := by
  rw [pattern_zero_eq_packZero]
  refine (if_pos h).trans ?_
  cases a <;> cases b <;> rfl

theorem addFp_zero_zero (x y : Bool) :
    addFp f m (.zero x) (.zero y) = ⟨pattern f (if x == y then x else m.rm == 3#2) 0 0, 0#11⟩ := by
  rw [pattern_zero_eq_packZero, addFp_of_isFlushed f m (isFlushed_zero x) (isFlushed_zero y)]
  rfl

/-- At its own exponent a normal number is its signed mantissa. -/
theorem scaled_self (y : Bool) (k : Nat) (e : Int) :
    (Fp.normal y k e).scaled e = (if y then -1 else 1) * (k : Int) := by
  rw [Fp.scaled, Int.sub_self, Int.toNat_zero, pow_zero, mul_one]

theorem decide_signed_lt_zero {k : Nat} (hk : 0 < k) (y : Bool) :
    decide ((if y then -1 else 1) * (k : Int) < 0) = y := by
  cases y
  · exact decide_eq_false (by simp)
  · exact decide_eq_true (by simpa using hk)

theorem natAbs_signed (y : Bool) (k : Nat) : ((if y then -1 else 1) * (k : Int)).natAbs = k := by
  cases y <;> simp

theorem addFinite_of_scaledSum_eq {a b : Fp} {y : Bool} {k : Nat} (hk : 0 < k)
    (h : scaledSum a b = (if y then -1 else 1) * (k : Int)) :
    addFinite f m a b = roundPack f m y k (commonExp a b) := by
  have hne : scaledSum a b ≠ 0 := by rw [h]; cases y <;> simp <;> omega
  rw [addFinite_of_ne f m hne, h, decide_signed_lt_zero hk, natAbs_signed]

theorem addFp_zero_normal (x y : Bool) {k : Nat} (e : Int) (hk : 0 < k) :
    addFp f m (.zero x) (.normal y k e) = roundPack f m y k e := by
  rw [addFp_of_isFlushed f m (isFlushed_zero x) (isFlushed_normal y k e)]
  exact addFinite_of_scaledSum_eq f m hk ((Int.zero_add _).trans (scaled_self y k e))

theorem addFp_normal_zero (x y : Bool) {k : Nat} (e : Int) (hk : 0 < k) :
    addFp f m (.normal y k e) (.zero x) = roundPack f m y k e := by
  rw [addFp_of_isFlushed f m (isFlushed_normal y k e) (isFlushed_zero x)]
  exact addFinite_of_scaledSum_eq f m hk ((Int.add_zero _).trans (scaled_self y k e))

/-! The order of the operands: the same sum, with the warnings of the sources exchanged (R180, R430). -/

theorem commonExp_comm (a b : Fp) : commonExp a b = commonExp b a := by
  cases a with
  | normal x k d =>
    cases b with
    | normal y l e => exact Int.min_comm ..
    | zero | denormal | inf | nan => rfl
  | zero | denormal | inf | nan => cases b <;> rfl

theorem scaledSum_comm (a b : Fp) : scaledSum a b = scaledSum b a := by
  rw [scaledSum, commonExp_comm, Int.add_comm, scaledSum]

theorem zeroSumSign_comm (a b : Fp) : zeroSumSign m a b = zeroSumSign m b a := by
  cases a with
  | zero x =>
    cases b with
    | zero y => cases x <;> cases y <;> rfl
    | denormal | normal | inf | nan => rfl
  | denormal | normal | inf | nan => cases b <;> rfl

theorem addFinite_comm (a b : Fp) : addFinite f m a b = addFinite f m b a := by
  by_cases h : scaledSum a b = 0
  · rw [addFinite_of_eq_zero f m h, zeroSumSign_comm, addFinite_of_eq_zero f m (scaledSum_comm a b ▸ h)]
  · rw [addFinite_of_ne f m h, scaledSum_comm, commonExp_comm, addFinite_of_ne f m (scaledSum_comm a b ▸ h)]

theorem sourceless_addFinite (a b : Fp) : Sourceless (addFinite f m a b) := by
  by_cases h : scaledSum a b = 0
  · rw [addFinite_of_eq_zero f m h]
    exact show exchanged 0#11 = 0#11 by decide
  · rw [addFinite_of_ne f m h]
    exact sourceless_roundPack ..

theorem inf_or_finite {a : Fp} (h : a.isNan = false) : (∃ x, a = .inf x) ∨ Finite a := by
  cases a with
  | inf x => exact Or.inl ⟨x, rfl⟩
  | nan n q => exact nomatch h
  | zero | denormal | normal => exact Or.inr ⟨nofun, nofun⟩

theorem exchanged_info_or_denWarn (a b : Fp) : exchanged (info ||| denWarn b a) = info ||| denWarn a b := by
  have hinfo : exchanged info = info := by decide
  rw [exchanged_or, exchanged_denWarn, hinfo]

/-- The sum of the exchanged operands, with its warnings exchanged back. -/
theorem addFp_swap (a b : Fp) : addFp f m a b = ⟨(addFp f m b a).bits, exchanged (addFp f m b a).warn⟩ := by
  by_cases hnan : a.isNan || b.isNan
  · rw [addFp_of_nan f m hnan, addFp_of_nan f m (Bool.or_comm .. ▸ hnan), exchanged_nanBits]
  obtain ⟨ha, hb⟩ := Bool.or_eq_false_iff.mp (Bool.eq_false_iff.mpr hnan)
  obtain ⟨x, rfl⟩ | ha := inf_or_finite ha <;> obtain ⟨y, rfl⟩ | hb := inf_or_finite hb
  · have hinfo : exchanged info = info := by decide
    have hinval : exchanged inval = inval := by decide
    obtain rfl | hxy := eq_or_ne x y
    · rw [addFp_inf_same, hinfo]
    · rw [addFp_inf_of_ne f m hxy, addFp_inf_of_ne f m hxy.symm, hinval]
  · rw [addFp_inf_finite f m x hb, addFp_finite_inf f m x hb, exchanged_info_or_denWarn]
  · rw [addFp_finite_inf f m y ha, addFp_inf_finite f m y ha, exchanged_info_or_denWarn]
  · rw [addFp_of_finite f m ha hb, addFp_of_finite f m hb ha, addFinite_comm, exchanged_or, exchanged_denBits,
      sourceless_addFinite]

theorem subFp_eq (a b : Fp) : subFp f m a b = addFp f m a (inverted b) := by
  rw [subFp, Fp.negate_eq_inverted]

/-! The exact rational sum of two normal numbers (47_float_arith.md R412). -/

theorem pow2_pos (e : Int) : 0 < pow2 e := zpow_pos two_pos e

theorem mul_neg_iff_of_pos {x y : ℚ} (h : 0 < y) : x * y < 0 ↔ x < 0 := by
  rw [← mul_lt_mul_iff_left₀ (b := x) h, zero_mul]

theorem scaled_mul_pow2 (x : Bool) (k : Nat) {d exp : Int} (h : exp ≤ d) :
    ((Fp.normal x k d).scaled exp : ℚ) * pow2 exp = signed x k d := by
  have hpow : (2 : ℚ) ^ (d - exp).toNat * pow2 exp = pow2 d := by
    rw [pow2, pow2, ← zpow_natCast, Int.toNat_of_nonneg (Int.sub_nonneg_of_le h), ← zpow_add₀ two_ne_zero,
      Int.sub_add_cancel]
  rw [signed, ← hpow, Fp.scaled]
  push_cast
  ring

theorem scaledSum_mul_pow2 (x y : Bool) (k l : Nat) (d e : Int) :
    (scaledSum (.normal x k d) (.normal y l e) : ℚ) * pow2 (min e d) = signed x k d + signed y l e := by
  have hexp : commonExp (.normal x k d) (.normal y l e) = min e d := rfl
  rw [scaledSum, hexp, Int.cast_add, add_mul, scaled_mul_pow2 x k (min_le_right e d),
    scaled_mul_pow2 y l (min_le_left e d)]

theorem signed_natAbs (v : Int) (e : Int) : signed (decide (v < 0)) v.natAbs e = v * pow2 e := by
  rw [signed]
  congr 1
  by_cases h : v < 0
  · have habs : (v.natAbs : Int) = -v := by omega
    rw [← Int.cast_natCast, habs]
    simp [h]
  · have habs : (v.natAbs : Int) = v := by omega
    rw [← Int.cast_natCast, habs]
    simp [h]

/-- Two normal numbers whose exact sum is zero. -/
theorem addFp_normal_of_sum_eq_zero {x y : Bool} {k l : Nat} {d e : Int} (h : signed x k d + signed y l e = 0) :
    addFp f m (.normal x k d) (.normal y l e) = ⟨pattern f (m.rm == 3#2) 0 0, 0#11⟩ := by
  rw [← scaledSum_mul_pow2, mul_eq_zero_iff_right (pow2_pos _).ne', Int.cast_eq_zero] at h
  rw [addFp_of_isFlushed f m (isFlushed_normal x k d) (isFlushed_normal y l e)]
  exact addFinite_of_eq_zero f m h

/-- Two normal numbers whose exact sum is not zero: it is rounded once. -/
theorem addFp_normal_of_sum_ne_zero {x y : Bool} {k l : Nat} {d e : Int} (h : signed x k d + signed y l e ≠ 0) :
    ∃ man exp, 0 < man ∧
      signed (decide (signed x k d + signed y l e < 0)) man exp = signed x k d + signed y l e ∧
      addFp f m (.normal x k d) (.normal y l e) =
        roundPack f m (decide (signed x k d + signed y l e < 0)) man exp := by
  have hpos := pow2_pos (min e d)
  rw [addFp_of_isFlushed f m (isFlushed_normal x k d) (isFlushed_normal y l e)]
  rw [← scaledSum_mul_pow2] at h ⊢
  have hne : scaledSum (.normal x k d) (.normal y l e) ≠ 0 := fun h0 => h (by rw [h0, Int.cast_zero, zero_mul])
  have hneg : decide ((scaledSum (.normal x k d) (.normal y l e) : ℚ) * pow2 (min e d) < 0) =
      decide (scaledSum (.normal x k d) (.normal y l e) < 0) :=
    decide_eq_decide.mpr (by rw [mul_neg_iff_of_pos hpos, Int.cast_lt_zero])
  rw [hneg]
  exact ⟨_, _, Int.natAbs_pos.mpr hne, signed_natAbs .., addFinite_of_ne f m hne⟩

theorem denBits_inf_left (x : Bool) (b : Fp) : denBits (.inf x) b &&& den2 = denWarn (.inf x) b := by
  rw [denBits_eq, denWarn_eq]
  change (bitIf false _ ||| _) &&& _ = bitIf false _ ||| _
  generalize isDenormal b = p
  revert p
  decide

theorem denBits_inf_right (x : Bool) (b : Fp) : denBits b (.inf x) &&& den1 = denWarn b (.inf x) := by
  rw [denBits_eq, denWarn_eq]
  change (_ ||| bitIf false _) &&& _ = _ ||| bitIf false _
  generalize isDenormal b = p
  revert p
  decide

end

/-- Settles O55: each class of operands by the lemma about it; the formats and the modes play no part. -/
theorem floatOperandClasses : Obligations.FloatOperandClasses := by
  intro f _ m
  refine ⟨?nans, ?pairs, ?infinities, ?denormals, ?zeros, ?invalid, ?infiniteProducts, ?zeroProducts, ?differences,
    ?normals⟩
  case nans =>
    intro a b h
    have hnan : a.isNan || b.isNan := by
      rw [Bool.or_eq_true, ← isNan_iff, ← isNan_iff]
      exact h
    exact ⟨addFp_of_nan f m hnan, mulFp_of_nan f m hnan⟩
  case pairs =>
    intro x
    refine ⟨addFp_inf_of_ne f m (Bool.not_ne_self x).symm, addFp_inf_same f m x, ?_, ?_⟩
    · rw [addFp_zero_zero]
      cases x <;> rfl
    · rw [addFp_zero_zero]
      cases x <;> rfl
  case infinities =>
    intro x b hb
    rw [denBits_inf_left, denBits_inf_right]
    exact ⟨addFp_inf_finite f m x hb, addFp_finite_inf f m x hb⟩
  case denormals => exact fun a b ha hb => addFp_finite_eq_flushed f m ha hb
  case zeros => exact fun x y k e hk => ⟨addFp_zero_normal f m x y e hk, addFp_normal_zero f m x y e hk⟩
  case invalid =>
    exact fun x y => ⟨mulFp_inf_zero f m x y, mulFp_zero_inf f m x y, mulFp_inf_denormal f m x y,
      mulFp_denormal_inf f m x y, mulFp_inf_inf f m x y⟩
  case infiniteProducts => exact fun x y k e => ⟨mulFp_inf_normal f m x y k e, mulFp_normal_inf f m x y k e⟩
  case zeroProducts => exact fun x a b ha hb h => mulFp_of_flushed_zero f m ha hb h
  case differences =>
    intro a b
    have hswap := addFp_swap f m (inverted a) b
    rw [← subFp_eq] at hswap
    exact ⟨subFp_eq f m a b, by rw [hswap], by rw [hswap]⟩
  case normals =>
    exact fun x y k l d e _ _ => ⟨addFp_normal_of_sum_eq_zero f m, addFp_normal_of_sum_ne_zero f m,
      mulFp_normal_normal f m x y k l d e⟩

end Sys2Proof.Machine
end

section
/-! The integer adds and subtracts as exact integers (41_integer_arith.md R222, R227, R228, R233, R238). -/

set_option Elab.async false

namespace Sys2Proof.Machine

open Sys2Proof.Claims

/-! Bit vectors as exact integers modulo 2^n. -/

section
variable {n : Nat} {a b : BitVec n} {x y : Int}

theorem add_eq_ofInt (ha : a = BitVec.ofInt n x) (hb : b = BitVec.ofInt n y) : a + b = BitVec.ofInt n (x + y) := by
  rw [ha, hb, BitVec.ofInt_add]

theorem sub_eq_ofInt (ha : a = BitVec.ofInt n x) (hb : b = BitVec.ofInt n y) : a - b = BitVec.ofInt n (x - y) := by
  rw [ha, hb, BitVec.sub_eq_add_neg, ← BitVec.ofInt_neg, ← BitVec.ofInt_add, Int.sub_eq_add_neg]

end

theorem setWidth_eq_ofInt {m : Nat} (n : Nat) (v : BitVec m) : v.setWidth n = BitVec.ofInt n v.toNat := by
  rw [BitVec.ofInt_natCast, BitVec.ofNat_toNat]

theorem signExtend_eq_ofInt {m : Nat} (n : Nat) (v : BitVec m) : v.signExtend n = BitVec.ofInt n v.toInt := rfl

/-! The sources (30_encoding.md R149). -/

section
variable (s : State) (side : Side) (x : Bool) (r : Reg) (p : Pair)

theorem State.src_eq_ofInt : s.src side r = BitVec.ofInt 32 (s.reg ⟨side, r⟩).toInt := BitVec.ofInt_toInt.symm

theorem State.srcX_eq_ofInt : s.srcX side x r = BitVec.ofInt 32 (s.reg ⟨cross side x, r⟩).toInt := by
  rw [State.srcX_eq, BitVec.ofInt_toInt]

theorem State.src_signExtend (n : Nat) : (s.src side r).signExtend n = BitVec.ofInt n (s.reg ⟨side, r⟩).toInt := rfl

theorem State.srcX_signExtend (n : Nat) :
    (s.srcX side x r).signExtend n = BitVec.ofInt n (s.reg ⟨cross side x, r⟩).toInt := by
  rw [State.srcX_eq, signExtend_eq_ofInt]

theorem State.src_setWidth (n : Nat) : (s.src side r).setWidth n = BitVec.ofInt n (s.reg ⟨side, r⟩).toNat :=
  setWidth_eq_ofInt n _

theorem State.srcX_setWidth (n : Nat) :
    (s.srcX side x r).setWidth n = BitVec.ofInt n (s.reg ⟨cross side x, r⟩).toNat := by
  rw [State.srcX_eq, setWidth_eq_ofInt]

theorem State.srcLong_eq_ulong : s.srcLong side p = BitVec.ofInt 40 (ulong s side p) := by
  rw [← State.srcLong_toNat, ← setWidth_eq_ofInt, BitVec.setWidth_eq]

end

/-- Settles O1: each result is a sum or difference of bit vectors, and each source is the residue of its exact value. -/
theorem addSubtractResults : Obligations.AddSubtractResults := by
  refine ⟨fun o s hc => ?addL, fun o s hc => ?addLC, fun o s hc => ?addS, fun o s hc => ?addSC, fun o s hc => ?addD,
    fun o s hc => ?addDC, fun o s hc => ?addk, fun o s hc => ?subL, fun o s hc => ?subLX, fun o s hc => ?subLC,
    fun o s hc => ?subS, fun o s hc => ?subSC, fun o s hc => ?subD, fun o s hc => ?subDC, fun o s hc => ?addLWide,
    fun o s hc => ?addLLong, fun o s hc => ?addLLongC, fun o s hc => ?adduWide, fun o s hc => ?adduLong,
    fun o s hc => ?subLWide, fun o s hc => ?subLWideX, fun o s hc => ?subLLongC, fun o s hc => ?subuWide,
    fun o s hc => ?subuWideX⟩
  case addL | addS => exact issueWord_of_true hc (add_eq_ofInt (s.src_eq_ofInt ..) (s.srcX_eq_ofInt ..))
  case addLC | addSC => exact issueWord_of_true hc (add_eq_ofInt rfl (s.srcX_eq_ofInt ..))
  case addD => exact issueWord_of_true hc (add_eq_ofInt (s.src_eq_ofInt ..) (s.src_eq_ofInt ..))
  case addDC => exact issueWord_of_true hc (add_eq_ofInt (s.src_eq_ofInt ..) (setWidth_eq_ofInt ..))
  case addk => exact issueWord_of_true hc (add_eq_ofInt (s.src_eq_ofInt ..) rfl)
  case subL | subS => exact issueWord_of_true hc (sub_eq_ofInt (s.src_eq_ofInt ..) (s.srcX_eq_ofInt ..))
  case subLX => exact issueWord_of_true hc (sub_eq_ofInt (s.srcX_eq_ofInt ..) (s.src_eq_ofInt ..))
  case subLC | subSC => exact issueWord_of_true hc (sub_eq_ofInt rfl (s.srcX_eq_ofInt ..))
  case subD => exact issueWord_of_true hc (sub_eq_ofInt (s.src_eq_ofInt ..) (s.src_eq_ofInt ..))
  case subDC => exact issueWord_of_true hc (sub_eq_ofInt (s.src_eq_ofInt ..) (setWidth_eq_ofInt ..))
  case addLWide => exact issueLong_of_true hc (add_eq_ofInt (s.src_signExtend ..) (s.srcX_signExtend ..))
  case addLLong => exact issueLong_of_true hc (add_eq_ofInt (s.srcX_signExtend ..) (s.srcLong_eq ..))
  case addLLongC => exact issueLong_of_true hc (add_eq_ofInt rfl (s.srcLong_eq ..))
  case adduWide => exact issueLong_of_true hc (add_eq_ofInt (s.src_setWidth ..) (s.srcX_setWidth ..))
  case adduLong => exact issueLong_of_true hc (add_eq_ofInt (s.srcX_setWidth ..) (s.srcLong_eq_ulong ..))
  case subLWide => exact issueLong_of_true hc (sub_eq_ofInt (s.src_signExtend ..) (s.srcX_signExtend ..))
  case subLWideX => exact issueLong_of_true hc (sub_eq_ofInt (s.srcX_signExtend ..) (s.src_signExtend ..))
  case subLLongC => exact issueLong_of_true hc (sub_eq_ofInt rfl (s.srcLong_eq ..))
  case subuWide => exact issueLong_of_true hc (sub_eq_ofInt (s.src_setWidth ..) (s.srcX_setWidth ..))
  case subuWideX => exact issueLong_of_true hc (sub_eq_ofInt (s.srcX_setWidth ..) (s.src_setWidth ..))

end Sys2Proof.Machine
end

section
/-! Clamped results and SAT (41_integer_arith.md R230 to R232, 42_logic_shift_bitfield.md R268, 44_multiply.md R337 to
R340, 10_state.md R41), and ABS, which clamps without SAT (R221). -/

set_option Elab.async false

namespace Sys2Proof.Machine

open Sys2Proof.Claims

/-! Clamping. -/

theorem saturate_eq (n : Nat) (v : Int) : saturate n v = BitVec.ofInt n (clamp n v) := by
  have hpos : (0 : Int) < 2 ^ (n - 1) := Int.pow_pos (by decide)
  unfold saturate clamp
  split
  · congr 1; omega
  · split <;> congr 1 <;> omega

theorem overflows_iff (n : Nat) (v : Int) : overflows n v = true ↔ clamp n v ≠ v := by
  have hpos : (0 : Int) < 2 ^ (n - 1) := Int.pow_pos (by decide)
  simp only [overflows, clamp, Bool.or_eq_true, decide_eq_true_eq]
  omega

theorem State.noteOverflow_overflows (s : State) (n left : Nat) (v : Int) :
    s.noteOverflow left (overflows n v) = { s with sats := s.sats ++ satIf n v left } := by
  unfold State.noteOverflow satIf
  by_cases h : clamp n v = v
  · rw [if_neg (mt (overflows_iff n v).1 (not_not_intro h)), if_pos h, List.append_nil]
  · rw [if_pos ((overflows_iff n v).2 h), if_neg h, State.putSat]

section
variable {c : Cond} {side : Side} {left : Nat} {v v' : Int} {s : State}

theorem issueSat32_of_true {dst : Reg} (hc : s.holds c = true) (hv : v = v') :
    issueSat32 c side dst left v s = .next
      { queue s [lands side dst left (word (clamp 32 v'))] with sats := s.sats ++ satIf 32 v' left } := by
  rw [← hv, issueSat32, guarded_of_true _ hc, State.noteOverflow_overflows, saturate_eq]
  rfl

theorem issueSat40_of_true {dst : Pair} (hc : s.holds c = true) (hv : v = v') :
    issueSat40 c side dst v s = .next
      { queue s (landsLong side dst (clamp 40 v')) with sats := s.sats ++ satIf 40 v' 0 } := by
  have hlong : s.putLong side dst (saturate 40 v) = queue s (landsLong side dst (clamp 40 v)) :=
    Host.Outcome.next.inj ((guarded_of_true _ hc).symm.trans (issueLong_of_true hc (saturate_eq 40 v)))
  rw [← hv, issueSat40, guarded_of_true _ hc, State.noteOverflow_overflows, hlong]
  rfl

end

/-! The sources as signed numbers. -/

theorem State.srcLong_toInt (s : State) (side : Side) (p : Pair) : (s.srcLong side p).toInt = slong s side p := by
  have h := BitVec.toInt_eq_toNat_bmod (s.srcLong side p)
  rwa [State.srcLong_toNat] at h

theorem lsb16_toInt (v : Word) : (lsb16 v).toInt = lowS v := by
  have h := BitVec.toInt_eq_toNat_bmod (lsb16 v)
  rw [lsb16, BitVec.extractLsb'_toNat] at h
  exact h.trans (Int.emod_bmod v.toNat 65536)

theorem msb16_toInt (v : Word) : (msb16 v).toInt = highS v := by
  have h := BitVec.toInt_eq_toNat_bmod (msb16 v)
  rw [msb16, BitVec.extractLsb'_toNat, Nat.shiftRight_eq_div_pow, Int.natCast_emod, Int.natCast_ediv] at h
  exact h.trans (Int.emod_bmod (v.toNat / 65536) 65536)

/-- Settles O2: each instruction clamps an exact integer, which is the one of the statement. -/
theorem saturatingResults : Obligations.SaturatingResults := by
  refine ⟨fun o s hc => ?sadd, fun o s hc => ?saddLong, fun o s hc => ?saddC, fun o s hc => ?saddLongC,
    fun o s hc => ?sat, fun o s hc => ?ssub, fun o s hc => ?ssubX, fun o s hc => ?ssubC, fun o s hc => ?ssubLongC,
    fun o s hc => ?sshlC, fun o s hc h => ?sshl, fun o s hc => ?smpy, fun o s hc => ?smpyh, fun o s hc => ?smpyhl,
    fun o s hc => ?smpylh⟩
  case sadd | ssub | ssubX => exact issueSat32_of_true hc (by rw [State.srcX_eq, State.src])
  case saddC | ssubC | sshlC => exact issueSat32_of_true hc (by rw [State.srcX_eq])
  case sat => exact issueSat32_of_true hc (s.srcLong_toInt ..)
  case saddLong => exact issueSat40_of_true hc (by rw [State.srcX_eq, State.srcLong_toInt])
  case saddLongC | ssubLongC => exact issueSat40_of_true hc (by rw [State.srcLong_toInt])
  case sshl => exact (if_pos h).trans (issueSat32_of_true hc (by rw [State.srcX_eq, State.src]))
  case smpy | smpyh | smpyhl | smpylh =>
    exact issueSat32_of_true hc (by simp only [lsb16_toInt, msb16_toInt, State.srcX_eq, State.src])

/-! Absolute values, packed halves and the division step (41_integer_arith.md R221, R229, R237, R239). -/

theorem absInt_eq_abs (v : Int) : absInt v = |v| := by
  unfold absInt
  split
  · exact (abs_of_nonneg ‹_›).symm
  · exact (abs_of_neg (not_le.1 ‹_›)).symm

theorem addHalves_eq_word (a b : Word) :
    addHalves a b = word (((a.toNat % 65536 + b.toNat % 65536) % 65536 +
      65536 * ((a.toNat / 65536 + b.toNat / 65536) % 65536) : Nat)) := by
  apply BitVec.eq_of_toNat_eq
  simp only [addHalves, lsb16, msb16, word_natCast, toNat_append_eq_add, BitVec.toNat_add, BitVec.extractLsb'_toNat,
    Nat.shiftRight_eq_div_pow, BitVec.toNat_ofNat]
  omega

theorem subHalves_eq_word (a b : Word) :
    subHalves a b = word (((a.toNat : Int) % 65536 - (b.toNat : Int) % 65536) % 65536 +
      65536 * (((a.toNat : Int) / 65536 - (b.toNat : Int) / 65536) % 65536)) := by
  apply BitVec.eq_of_toNat_eq
  simp only [subHalves, lsb16, msb16, word, toNat_append_eq_add, BitVec.toNat_sub, BitVec.extractLsb'_toNat,
    Nat.shiftRight_eq_div_pow, BitVec.toNat_ofInt]
  omega

theorem divideStep_eq_word (a b : Word) :
    divideStep a b = word (if b.toNat ≤ a.toNat then 2 * ((a.toNat : Int) - (b.toNat : Int)) + 1
      else 2 * (a.toNat : Int)) := by
  apply BitVec.eq_of_toNat_eq
  unfold divideStep
  split
  · rw [if_pos ‹_›]
    simp only [word, BitVec.toNat_ofInt, BitVec.toNat_add, BitVec.toNat_shiftLeft, BitVec.toNat_sub,
      BitVec.toNat_ofNat, Nat.shiftLeft_eq]
    omega
  · rw [if_neg ‹_›]
    simp only [word, BitVec.toNat_ofInt, BitVec.toNat_shiftLeft, Nat.shiftLeft_eq]
    omega

/-- Settles O4: the value each form queues is the exact one of the statement. -/
theorem absoluteAndPackedResults : Obligations.AbsoluteAndPackedResults := by
  refine ⟨fun o s hc => ?abs, fun o s hc => ?absLong, fun o s hc => ?add2, fun o s hc => ?sub2, fun o s hc => ?subc⟩
  case abs => exact issueWord_of_true hc (by rw [saturate_eq, absInt_eq_abs, State.srcX_eq, word])
  case absLong => exact issueLong_of_true hc (by rw [saturate_eq, absInt_eq_abs, State.srcLong_toInt])
  case add2 => exact issueWord_of_true hc (by rw [addHalves_eq_word, State.srcX_eq, State.src])
  case sub2 => exact issueWord_of_true hc (by rw [subHalves_eq_word, State.srcX_eq, State.src])
  case subc => exact issueWord_of_true hc (by rw [divideStep_eq_word, State.srcX_eq, State.src])

end Sys2Proof.Machine
end

section
/-! Address arithmetic by AMR (45_load_store.md R365, 10_state.md R34 to R36). -/

set_option Elab.async false

namespace Sys2Proof.Machine

open Sys2Proof.Claims

theorem issueOpen_of_some {c : Cond} {side : Side} {dst : Reg} {v : Option Word} {w : Word} {s : State}
    (hc : s.holds c = true) (hv : v = some w) : issueOpen c side dst v s = .next (queue s [lands side dst 0 w]) := by
  subst hv
  exact guarded_of_true _ hc

/-! Circular addressing. -/

/-- Bits k-1 to 0 of `r` below the other bits of `b`. -/
theorem merge_low_bits {k : Nat} (b r : Word) :
    (b &&& ~~~BitVec.ofNat 32 (2 ^ k - 1)) ||| (r &&& BitVec.ofNat 32 (2 ^ k - 1)) =
      BitVec.ofNat 32 (2 ^ k * (b.toNat / 2 ^ k) + r.toNat % 2 ^ k) := by
  rw [Nat.two_pow_add_eq_or_of_lt (Nat.mod_lt _ (Nat.two_pow_pos k))]
  apply BitVec.eq_of_getLsbD_eq
  intro i hi
  simp only [BitVec.getLsbD_or, BitVec.getLsbD_and, BitVec.getLsbD_not, BitVec.getLsbD_ofNat, Nat.testBit_or,
    Nat.testBit_two_pow_sub_one, Nat.testBit_two_pow_mul, Nat.testBit_div_two_pow, Nat.testBit_mod_two_pow]
  by_cases hik : i < k
  · simp [hi, hik, not_le.2 hik, BitVec.getLsbD]
  · simp [hi, hik, not_lt.1 hik, Nat.sub_add_cancel (not_lt.1 hik), BitVec.getLsbD]

/-- A block size divides 2^32, so the residue of a word is that of its exact value. -/
theorem word_toNat_mod {k : Nat} (hk : k ≤ 32) (v : Int) : ((word v).toNat % 2 ^ k : Nat) = v % (2 : Int) ^ k := by
  have hdvd : (2 : Int) ^ k ∣ 2 ^ 32 := pow_dvd_pow 2 hk
  rw [word, BitVec.toNat_ofInt, Int.natCast_emod, Int.toNat_of_nonneg (Int.emod_nonneg _ (by decide))]
  push_cast
  exact Int.emod_emod_of_dvd v hdvd

theorem circular_word (n : BitVec 5) (b : Word) (v : Int) :
    circular n b (word v) =
      word ((b.toNat : Int) / 2 ^ (n.toNat + 1) * 2 ^ (n.toNat + 1) + v % 2 ^ (n.toNat + 1)) := by
  have hk : n.toNat + 1 ≤ 32 := n.isLt
  rw [circular, merge_low_bits, ← word_natCast, ← word_toNat_mod hk]
  congr 1
  push_cast
  ring

/-! The block sizes and the address. -/

theorem amrBlock_toNat (amr : BitVec 26) :
    (amrBlock amr false).toNat = amr.toNat / 2 ^ 16 % 32 ∧ (amrBlock amr true).toNat = amr.toNat / 2 ^ 21 % 32 := by
  simp [amrBlock, BitVec.extractLsb'_toNat, Nat.shiftRight_eq_div_pow]

/-- Linear and circular addressing give the exact address (45_load_store.md R365), mode by mode. -/
theorem State.amrStep_of_defined {s : State} {side : Side} {r : Reg} {o : Word} {offset : Int} {subtract : Bool}
    (hm : addressMode s side r ≠ 3)
    (ho : (if subtract then s.reg ⟨side, r⟩ - o else s.reg ⟨side, r⟩ + o) =
      word ((s.reg ⟨side, r⟩).toNat + offset)) :
    s.amrStep ⟨side, r⟩ (s.reg ⟨side, r⟩) o subtract = some (word (address s side r offset)) := by
  obtain ⟨hfirst, hsecond⟩ := amrBlock_toNat s.amr
  rw [addressMode_eq] at hm
  unfold State.amrStep address
  dsimp only
  rw [ho, circular_word, circular_word, hfirst, hsecond, addressMode_eq]
  have hmodes : ∀ m : BitVec 2, m.toNat ≠ 3 → m = 0#2 ∨ m = 1#2 ∨ m = 2#2 := by decide
  rcases hmodes _ hm with h | h | h <;> rw [h] <;> rfl

/-! Scaled offsets. -/

theorem shiftLeft_eq_word (v : Word) (sh : Nat) : v <<< sh = word ((v.toNat * 2 ^ sh : Nat)) := by
  rw [word_natCast]
  apply BitVec.eq_of_toNat_eq
  rw [BitVec.toNat_shiftLeft, Nat.shiftLeft_eq, BitVec.toNat_ofNat]

theorem ucst_shiftLeft_eq_word (k : Cst5) (sh : Nat) : ucst k <<< sh = word ((k.toNat * 2 ^ sh : Nat)) := by
  rw [shiftLeft_eq_word, ucst, BitVec.toNat_setWidth_of_le (by decide)]

section
variable {s : State} {sh : Nat}

theorem State.addressReg_add {o : BinN Reg Reg Reg} (hm : addressMode s o.side o.src2 ≠ 3) :
    s.addressReg o sh false =
      some (word (address s o.side o.src2 (((s.reg ⟨o.side, o.src1⟩).toNat * 2 ^ sh : Nat)))) :=
  State.amrStep_of_defined hm (add_eq_ofInt (word_toNat _).symm (shiftLeft_eq_word ..))

theorem State.addressReg_sub {o : BinN Reg Reg Reg} (hm : addressMode s o.side o.src2 ≠ 3) :
    s.addressReg o sh true =
      some (word (address s o.side o.src2 (-((s.reg ⟨o.side, o.src1⟩).toNat * 2 ^ sh : Nat)))) :=
  State.amrStep_of_defined hm (sub_eq_ofInt (word_toNat _).symm (shiftLeft_eq_word ..))

theorem State.addressCst_add {o : BinN Cst5 Reg Reg} (hm : addressMode s o.side o.src2 ≠ 3) :
    s.addressCst o sh false = some (word (address s o.side o.src2 ((o.src1.toNat * 2 ^ sh : Nat)))) :=
  State.amrStep_of_defined hm (add_eq_ofInt (word_toNat _).symm (ucst_shiftLeft_eq_word ..))

theorem State.addressCst_sub {o : BinN Cst5 Reg Reg} (hm : addressMode s o.side o.src2 ≠ 3) :
    s.addressCst o sh true = some (word (address s o.side o.src2 (-(o.src1.toNat * 2 ^ sh : Nat)))) :=
  State.amrStep_of_defined hm (sub_eq_ofInt (word_toNat _).symm (ucst_shiftLeft_eq_word ..))

end

/-- Settles O5: each form computes its result by `State.amrStep`, which the AMR mode of the base defines. -/
theorem addressArithmetic : Obligations.AddressArithmetic := by
  refine ⟨fun o s hc hm => ?addab, fun o s hc hm => ?addabC, fun o s hc hm => ?addah, fun o s hc hm => ?addahC,
    fun o s hc hm => ?addaw, fun o s hc hm => ?addawC, fun o s hc hm => ?addad, fun o s hc hm => ?addadC,
    fun o s hc hm => ?subab, fun o s hc hm => ?subabC, fun o s hc hm => ?subah, fun o s hc hm => ?subahC,
    fun o s hc hm => ?subaw, fun o s hc hm => ?subawC⟩
  case addab | addah | addaw | addad => exact issueOpen_of_some hc (State.addressReg_add hm)
  case addabC | addahC | addawC | addadC => exact issueOpen_of_some hc (State.addressCst_add hm)
  case subab | subah | subaw => exact issueOpen_of_some hc (State.addressReg_sub hm)
  case subabC | subahC | subawC => exact issueOpen_of_some hc (State.addressCst_sub hm)

end Sys2Proof.Machine
end

section
/-! Bitwise logic and shifts (42_logic_shift_bitfield.md R261 to R267). -/

set_option Elab.async false

namespace Sys2Proof.Machine

open Sys2Proof.Claims

/-! Shifts as exact integers. -/

theorem shiftCount_eq (v : Word) : shiftCount v = count v := by
  simp [shiftCount, count, BitVec.extractLsb'_toNat]

section
variable {n : Nat} {v : BitVec n}

theorem shiftLeft_eq_ofInt {x : Int} (sh : Nat) (hv : v = BitVec.ofInt n x) :
    v <<< sh = BitVec.ofInt n (x * 2 ^ sh) := by
  have hpow : BitVec.twoPow n sh = BitVec.ofInt n (2 ^ sh : Nat) := by
    rw [BitVec.ofInt_natCast]
    exact BitVec.eq_of_toNat_eq (by rw [BitVec.toNat_twoPow, BitVec.toNat_ofNat])
  rw [hv, BitVec.shiftLeft_eq_mul_twoPow, BitVec.ofInt_mul, hpow]
  push_cast
  rfl

theorem sshiftRight_eq_ofInt {x : Int} (sh : Nat) (hv : v.toInt = x) :
    v.sshiftRight sh = BitVec.ofInt n (x / 2 ^ sh) := by
  rw [BitVec.sshiftRight, hv, Int.shiftRight_eq_div_pow]
  rfl

theorem ushiftRight_eq_ofInt {m : Nat} (sh : Nat) (hv : v.toNat = m) :
    v >>> sh = BitVec.ofInt n ((m : Int) / 2 ^ sh) := by
  have hcast : (m : Int) / 2 ^ sh = ((m / 2 ^ sh : Nat) : Int) := by push_cast; rfl
  rw [hcast, BitVec.ofInt_natCast, ← Nat.shiftRight_eq_div_pow, ← hv, ← BitVec.toNat_ushiftRight,
    BitVec.ofNat_toNat, BitVec.setWidth_eq]

end

/-! Issuing a bitwise result. -/

/-- An instruction that queues an operation `f` of two words does so bit by bit, as the operation `g` of bits does. -/
theorem issueWord_bitwise {c : Cond} {side : Side} {dst : Reg} {s : State} {f : Word → Word → Word}
    {g : Bool → Bool → Bool} (hf : ∀ (a b : Word) (k : Nat), (f a b).getLsbD k = g (a.getLsbD k) (b.getLsbD k))
    (a : Word) (x : Bool) (r : Reg) (hc : s.holds c = true) :
    ∃ v, issueWord c side dst 0 (f a (s.srcX side x r)) s = .next (queue s [lands side dst 0 v]) ∧
      ∀ k < 32, v.getLsbD k = g (a.getLsbD k) ((s.reg ⟨cross side x, r⟩).getLsbD k) :=
  ⟨_, issueWord_of_true hc (by rw [State.srcX_eq]), fun k _ => hf a _ k⟩

/-- Settles O6: a logical operation acts on each bit by itself, and a shift multiplies or divides the exact value of its
source by a power of two. -/
theorem logicAndShiftResults : Obligations.LogicAndShiftResults := by
  have hand : ∀ (a b : Word) (k : Nat), (a &&& b).getLsbD k = (a.getLsbD k && b.getLsbD k) :=
    fun _ _ _ => BitVec.getLsbD_and
  have hor : ∀ (a b : Word) (k : Nat), (a ||| b).getLsbD k = (a.getLsbD k || b.getLsbD k) :=
    fun _ _ _ => BitVec.getLsbD_or
  have hxor : ∀ (a b : Word) (k : Nat), (a ^^^ b).getLsbD k = xor (a.getLsbD k) (b.getLsbD k) :=
    fun _ _ _ => BitVec.getLsbD_xor
  unfold Obligations.LogicAndShiftResults
  simp only [← shiftCount_eq]
  refine ⟨fun o s hc => ?andL, fun o s hc => ?andLC, fun o s hc => ?andS, fun o s hc => ?andSC, fun o s hc => ?orL,
    fun o s hc => ?orLC, fun o s hc => ?orS, fun o s hc => ?orSC, fun o s hc => ?xorL, fun o s hc => ?xorLC,
    fun o s hc => ?xorS, fun o s hc => ?xorSC, fun o s hc => ?shl, fun o s hc => ?shlLong, fun o s hc => ?shlWide,
    fun o s hc => ?shlC, fun o s hc => ?shlLongC, fun o s hc => ?shlWideC, fun o s hc => ?shr,
    fun o s hc => ?shrLong, fun o s hc => ?shrC, fun o s hc => ?shrLongC, fun o s hc => ?shru,
    fun o s hc => ?shruLong, fun o s hc => ?shruC, fun o s hc => ?shruLongC⟩
  case andL | andS => exact issueWord_bitwise hand (s.src o.side o.src1) o.x o.src2 hc
  case andLC | andSC => exact issueWord_bitwise hand (scst o.src1) o.x o.src2 hc
  case orL | orS => exact issueWord_bitwise hor (s.src o.side o.src1) o.x o.src2 hc
  case orLC | orSC => exact issueWord_bitwise hor (scst o.src1) o.x o.src2 hc
  case xorL | xorS => exact issueWord_bitwise hxor (s.src o.side o.src1) o.x o.src2 hc
  case xorLC | xorSC => exact issueWord_bitwise hxor (scst o.src1) o.x o.src2 hc
  case shl | shlC => exact issueWord_of_true hc (shiftLeft_eq_ofInt _ (s.srcX_eq_ofInt ..))
  case shlLong | shlLongC => exact issueLong_of_true hc (shiftLeft_eq_ofInt _ (s.srcLong_eq ..))
  case shlWide | shlWideC => exact issueLong_of_true hc (shiftLeft_eq_ofInt _ (s.srcX_setWidth ..))
  case shr | shrC => exact issueWord_of_true hc (sshiftRight_eq_ofInt _ (congrArg _ (s.srcX_eq ..)))
  case shrLong | shrLongC => exact issueLong_of_true hc (sshiftRight_eq_ofInt _ (s.srcLong_toInt ..))
  case shru | shruC => exact issueWord_of_true hc (ushiftRight_eq_ofInt _ (congrArg _ (s.srcX_eq ..)))
  case shruLong | shruLongC => exact issueLong_of_true hc (ushiftRight_eq_ofInt _ (s.srcLong_toNat ..))

end Sys2Proof.Machine
end

section
/-! Bit fields and bit counts (42_logic_shift_bitfield.md R269 to R274). -/

set_option Elab.async false

namespace Sys2Proof.Machine

open Sys2Proof.Claims

/-! Fields. -/

/-- The mask of a field has exactly the bits of the field: it is 2^b times 2^(e+1-b) - 1. -/
theorem getLsbD_fieldMask {b e : BitVec 5} (h : b.toNat ≤ e.toNat) {k : Nat} (hk : k < 32) :
    (fieldMask b e).getLsbD k = decide (b.toNat ≤ k ∧ k ≤ e.toNat) := by
  have hmask : 2 ^ (e.toNat + 1) - 2 ^ b.toNat = 2 ^ b.toNat * (2 ^ (e.toNat + 1 - b.toNat) - 1) := by
    rw [Nat.mul_sub, ← Nat.pow_add, Nat.mul_one, Nat.add_sub_cancel' (by omega)]
  rw [fieldMask, hmask, BitVec.getLsbD_ofNat, Nat.testBit_two_pow_mul, Nat.testBit_two_pow_sub_one, decide_eq_true hk,
    Bool.true_and, ← Bool.decide_and]
  exact decide_eq_decide.2 (by omega)

theorem clearField_of_le {v : Word} {b e : BitVec 5} (h : b.toNat ≤ e.toNat) :
    ∃ w, clearField v b e = some w ∧
      ∀ k < 32, w.getLsbD k = if b.toNat ≤ k ∧ k ≤ e.toNat then false else v.getLsbD k := by
  refine ⟨_, if_pos h, fun k hk => ?_⟩
  rw [BitVec.getLsbD_and, BitVec.getLsbD_not, getLsbD_fieldMask h hk]
  split <;> simp [*]

theorem setField_of_le {v : Word} {b e : BitVec 5} (h : b.toNat ≤ e.toNat) :
    ∃ w, setField v b e = some w ∧
      ∀ k < 32, w.getLsbD k = if b.toNat ≤ k ∧ k ≤ e.toNat then true else v.getLsbD k := by
  refine ⟨_, if_pos h, fun k hk => ?_⟩
  rw [BitVec.getLsbD_or, getLsbD_fieldMask h hk]
  split <;> simp [*]

theorem extractUnsigned_eq_word (v : Word) (l r : BitVec 5) :
    extractUnsigned v l r = word ((v.toNat * 2 ^ l.toNat % 2 ^ 32 / 2 ^ r.toNat : Nat)) := by
  have hleft : (v <<< l.toNat).toNat = v.toNat * 2 ^ l.toNat % 2 ^ 32 := by
    rw [BitVec.toNat_shiftLeft, Nat.shiftLeft_eq]
  rw [extractUnsigned, ushiftRight_eq_ofInt _ hleft, word]
  push_cast
  rfl

theorem extractSigned_eq_word (v : Word) (l r : BitVec 5) :
    extractSigned v l r = word (Int.bmod (v.toInt * 2 ^ l.toNat) (2 ^ 32) / 2 ^ r.toNat) := by
  have hleft : (v <<< l.toNat).toInt = Int.bmod (v.toInt * 2 ^ l.toNat) (2 ^ 32) := by
    rw [shiftLeft_eq_ofInt _ BitVec.ofInt_toInt.symm, BitVec.toInt_ofInt]
  exact sshiftRight_eq_ofInt _ hleft

/-! The fields of a register operand. -/

section
variable {v : Word} (h : v.toNat < 1024)
include h

theorem ifFieldBits_of_lt (r : Option Word) : ifFieldBits v r = r := by
  refine if_pos (BitVec.eq_of_toNat_eq ?_)
  rw [BitVec.extractLsb'_toNat, Nat.shiftRight_eq_div_pow, Nat.div_eq_of_lt h]
  rfl

theorem startBits_toNat : (startBits v).toNat = v.toNat / 32 := by
  rw [startBits, BitVec.extractLsb'_toNat, Nat.shiftRight_eq_div_pow]
  omega

end

theorem endBits_toNat (v : Word) : (endBits v).toNat = v.toNat % 32 := BitVec.extractLsb'_toNat ..

theorem startBits_le_endBits {v : Word} (h : v.toNat < 1024) (hle : v.toNat / 32 ≤ v.toNat % 32) :
    (startBits v).toNat ≤ (endBits v).toNat := by
  rwa [startBits_toNat h, endBits_toNat]

/-- A register form issues the result of its operation on the field that bits 9-0 of src1 name. -/
theorem issueOpen_field_of_defined {c : Cond} {side : Side} {dst : Reg} {s : State} {v w : Word} {r : Option Word}
    (hc : s.holds c = true) (h : v.toNat < 1024) (hr : r = some w) :
    issueOpen c side dst (ifFieldBits v r) s = .next (queue s [lands side dst 0 w]) :=
  issueOpen_of_some hc ((ifFieldBits_of_lt h r).trans hr)

/-- CLR and SET, register forms: where an operation writes `bit` into the bits of an ordered field and keeps the others,
its register form does so with the field that bits 9-0 of src1 name. -/
theorem issueOpen_fieldBits_of_defined {op : BitVec 5 → BitVec 5 → Option Word} {bit : Bool} {x : Word}
    (hop : ∀ b e, b.toNat ≤ e.toNat → ∃ w, op b e = some w ∧
      ∀ k < 32, w.getLsbD k = if b.toNat ≤ k ∧ k ≤ e.toNat then bit else x.getLsbD k)
    {c : Cond} {side : Side} {dst : Reg} {s : State} {v : Word}
    (hc : s.holds c = true) (h : v.toNat < 1024) (hle : v.toNat / 32 ≤ v.toNat % 32) :
    ∃ w, issueOpen c side dst (ifFieldBits v (op (startBits v) (endBits v))) s =
        .next (queue s [lands side dst 0 w]) ∧
      ∀ k < 32, w.getLsbD k = if v.toNat / 32 ≤ k ∧ k ≤ v.toNat % 32 then bit else x.getLsbD k := by
  obtain ⟨w, hw, hbits⟩ := hop _ _ (startBits_le_endBits h hle)
  rw [startBits_toNat h, endBits_toNat] at hbits
  exact ⟨w, issueOpen_field_of_defined hc h hw, hbits⟩

/-! Leading bits. -/

/-- A run of leading bits ends at the first bit that differs, or after all of them. -/
theorem leadingRun_spec (bit : Nat → Bool) (b : Bool) (n : Nat) :
    leadingRun bit b n ≤ n ∧ (∀ k < leadingRun bit b n, bit (n - 1 - k) = b) ∧
      (leadingRun bit b n < n → bit (n - 1 - leadingRun bit b n) = !b) := by
  induction n with
  | zero => simp [leadingRun]
  | succ n ih =>
    obtain ⟨hle, hrun, hend⟩ := ih
    have hpred : ∀ k, n + 1 - 1 - (1 + k) = n - 1 - k := by omega
    by_cases hb : bit n = b
    · rw [leadingRun, if_pos hb]
      refine ⟨by omega, fun k hk => ?_, fun hlt => ?_⟩
      · cases k with
        | zero => exact hb
        | succ k => rw [Nat.add_comm k, hpred]; exact hrun k (by omega)
      · rw [hpred]
        exact hend (by omega)
    · rw [leadingRun, if_neg hb]
      exact ⟨by omega, fun k hk => absurd hk (Nat.not_lt_zero k), fun _ => Bool.eq_not_of_ne hb⟩

theorem leftmostBit_spec (b : Bool) (v : Word) :
    ∃ m : Nat, m ≤ 32 ∧ leftmostBit b v = word m ∧ (∀ k < m, v.getLsbD (31 - k) = !b) ∧
      (m < 32 → v.getLsbD (31 - m) = b) := by
  obtain ⟨hle, hrun, hend⟩ := leadingRun_spec v.getLsbD (!b) 32
  exact ⟨_, hle, (word_natCast _).symm, hrun, fun h => (hend h).trans (Bool.not_not b)⟩

/-- NORM counts the bits below the sign bit n that equal it. -/
theorem redundantSigns_spec (bit : Nat → Bool) (n : Nat) :
    ∃ m : Nat, m ≤ n ∧ redundantSigns bit n = word m ∧ (∀ k < m, bit (n - 1 - k) = bit n) ∧
      (m < n → bit (n - 1 - m) = !bit n) := by
  obtain ⟨hle, hrun, hend⟩ := leadingRun_spec bit (bit n) n
  exact ⟨_, hle, (word_natCast _).symm, hrun, hend⟩

theorem State.srcLong_getLsbD (s : State) (side : Side) (p : Pair) : (s.srcLong side p).getLsbD = longBit s side p := by
  funext k
  rw [longBit, ← State.srcLong_toNat, BitVec.testBit_toNat]

/-- Settles O7: a field's mask says bit by bit what CLR and SET do, EXT and EXTU are two shifts of exact values, and
LMBD and NORM count the leading run of a bit. -/
theorem bitFieldsAndCounts : Obligations.BitFieldsAndCounts := by
  refine ⟨fun o s hc hle => ?clrConst, fun o s hc h hle => ?clrReg, fun o s hc hle => ?setConst,
    fun o s hc h hle => ?setReg, fun o s hc => ?extuConst, fun o s hc h hle => ?extuReg, fun o s hc => ?extConst,
    fun o s hc h hle => ?extReg, fun o s hc => ?lmbd, fun o s hc => ?lmbdC, fun o s hc => ?norm,
    fun o s hc => ?normLong⟩
  case clrConst =>
    obtain ⟨w, hw, hbits⟩ := clearField_of_le hle
    exact ⟨w, issueOpen_of_some hc hw, hbits⟩
  case clrReg =>
    rw [← State.srcX_eq]
    exact issueOpen_fieldBits_of_defined (fun _ _ => clearField_of_le) hc h hle
  case setConst =>
    obtain ⟨w, hw, hbits⟩ := setField_of_le hle
    exact ⟨w, issueOpen_of_some hc hw, hbits⟩
  case setReg =>
    rw [← State.srcX_eq]
    exact issueOpen_fieldBits_of_defined (fun _ _ => setField_of_le) hc h hle
  case extuConst => exact issueWord_of_true hc (extractUnsigned_eq_word ..)
  case extuReg =>
    rw [← startBits_toNat h, ← endBits_toNat, ← State.srcX_eq, ← extractUnsigned_eq_word]
    exact issueOpen_field_of_defined hc h (if_pos (startBits_le_endBits h hle))
  case extConst => exact issueWord_of_true hc (extractSigned_eq_word ..)
  case extReg =>
    rw [← startBits_toNat h, ← endBits_toNat, ← State.srcX_eq, ← extractSigned_eq_word]
    exact issueOpen_field_of_defined hc h (if_pos (startBits_le_endBits h hle))
  case lmbd | lmbdC =>
    rw [← State.srcX_eq]
    obtain ⟨m, hm, hv, hrun⟩ := leftmostBit_spec _ _
    exact ⟨m, hm, issueWord_of_true hc hv, hrun⟩
  case norm =>
    rw [← State.srcX_eq]
    obtain ⟨m, hm, hv, hrun⟩ := redundantSigns_spec (s.srcX o.side o.x o.src2).getLsbD 31
    exact ⟨m, hm, issueWord_of_true hc hv, hrun⟩
  case normLong =>
    rw [← State.srcLong_getLsbD]
    obtain ⟨m, hm, hv, hrun⟩ := redundantSigns_spec (s.srcLong o.side o.src2).getLsbD 39
    exact ⟨m, hm, issueWord_of_true hc hv, hrun⟩

end Sys2Proof.Machine
end

section
/-! The integer compares (43_compare_move.md R290 to R295). -/

set_option Elab.async false

namespace Sys2Proof.Machine

open Sys2Proof.Claims

/-! The sources' exact values (30_encoding.md R149), beside `State.srcLong_toInt` and `State.srcLong_toNat`. -/

section
variable (s : State) (side : Side) (x : Bool) (r : Reg)

theorem State.srcX_toInt : (s.srcX side x r).toInt = (s.reg ⟨cross side x, r⟩).toInt :=
  congrArg BitVec.toInt (s.srcX_eq ..)

theorem State.srcX_toNat : (s.srcX side x r).toNat = (s.reg ⟨cross side x, r⟩).toNat :=
  congrArg BitVec.toNat (s.srcX_eq ..)

end

/-! Issuing the truth of a relation (R290). -/

theorem truth_decide (p : Prop) [Decidable p] : truth (decide p) = if p then 1#32 else 0#32 := by
  simp only [truth, decide_eq_true_eq]

section
variable {c : Cond} {side : Side} {dst : Reg} {left : Nat} {s : State}

theorem issueEq_of_true {v w a b : Int} (hc : s.holds c = true) (hv : v = a) (hw : w = b) :
    issueWord c side dst left (truth (v == w)) s =
      .next (queue s [lands side dst left (if a = b then 1#32 else 0#32)]) := by
  rw [← hv, ← hw]
  exact issueWord_of_true hc (truth_decide (v = w))

/-- Serves CMPLT and, with the operands exchanged, CMPGT. -/
theorem issueLt_of_true {v w a b : Int} (hc : s.holds c = true) (hv : v = a) (hw : w = b) :
    issueWord c side dst left (truth (decide (v < w))) s =
      .next (queue s [lands side dst left (if a < b then 1#32 else 0#32)]) := by
  rw [← hv, ← hw]
  exact issueWord_of_true hc (truth_decide (v < w))

/-- The unsigned order is that of the values as integers. -/
theorem issueLtu_of_true {v w a b : Nat} (hc : s.holds c = true) (hv : v = a) (hw : w = b) :
    issueWord c side dst left (truth (decide (v < w))) s =
      .next (queue s [lands side dst left (if (a : Int) < (b : Int) then 1#32 else 0#32)]) := by
  rw [← decide_eq_decide.2 (Int.ofNat_lt (n := v) (m := w))]
  exact issueLt_of_true hc (congrArg _ hv) (congrArg _ hw)

end

/-- Settles O8: equality, the signed order and the unsigned order, each over the exact values of the operands a form
has; CMPGT and CMPGTU are the orders with their operands exchanged. -/
theorem integerComparisons : Obligations.IntegerComparisons := by
  refine ⟨fun o s hc => ?eq, fun o s hc => ?eqC, fun o s hc => ?eqLong, fun o s hc => ?eqLongC, fun o s hc => ?gt,
    fun o s hc => ?gtC, fun o s hc => ?gtLong, fun o s hc => ?gtLongC, fun o s hc => ?lt, fun o s hc => ?ltC,
    fun o s hc => ?ltLong, fun o s hc => ?ltLongC, fun o s hc => ?gtu, fun o s hc => ?gtuC, fun o s hc => ?gtuLong,
    fun o s hc => ?gtuLongC, fun o s hc => ?ltu, fun o s hc => ?ltuC, fun o s hc => ?ltuLong, fun o s hc => ?ltuLongC⟩
  case eq | eqC => exact issueEq_of_true hc rfl (s.srcX_toInt ..)
  case eqLong => exact issueEq_of_true hc (s.srcX_toInt ..) (s.srcLong_toInt ..)
  case eqLongC => exact issueEq_of_true hc rfl (s.srcLong_toInt ..)
  case gt | gtC => exact issueLt_of_true hc (s.srcX_toInt ..) rfl
  case gtLong => exact issueLt_of_true hc (s.srcLong_toInt ..) (s.srcX_toInt ..)
  case gtLongC => exact issueLt_of_true hc (s.srcLong_toInt ..) rfl
  case lt | ltC => exact issueLt_of_true hc rfl (s.srcX_toInt ..)
  case ltLong => exact issueLt_of_true hc (s.srcX_toInt ..) (s.srcLong_toInt ..)
  case ltLongC => exact issueLt_of_true hc rfl (s.srcLong_toInt ..)
  case gtu | gtuC => exact issueLtu_of_true hc (s.srcX_toNat ..) rfl
  case gtuLong => exact issueLtu_of_true hc (s.srcLong_toNat ..) (s.srcX_toNat ..)
  case gtuLongC => exact issueLtu_of_true hc (s.srcLong_toNat ..) rfl
  case ltu | ltuC => exact issueLtu_of_true hc rfl (s.srcX_toNat ..)
  case ltuLong => exact issueLtu_of_true hc (s.srcX_toNat ..) (s.srcLong_toNat ..)
  case ltuLongC => exact issueLtu_of_true hc rfl (s.srcLong_toNat ..)

end Sys2Proof.Machine
end

section
/-! The 16 by 16-bit and 32 by 32-bit integer multiplies (44_multiply.md R320 to R336, R341, R342). -/

set_option Elab.async false

namespace Sys2Proof.Machine

open Sys2Proof.Claims

/-! The halves as exact integers (R320), beside `lsb16_toInt` and `msb16_toInt`. -/

theorem lsb16_toNat (v : Word) : ((lsb16 v).toNat : Int) = lowU v := by
  rw [lsb16, BitVec.extractLsb'_toNat]
  rfl

theorem msb16_toNat (v : Word) : ((msb16 v).toNat : Int) = highU v := by
  rw [msb16, BitVec.extractLsb'_toNat, Nat.shiftRight_eq_div_pow, highU]
  omega

section
variable (s : State) (side : Side) (x : Bool) (r : Reg)

theorem State.srcX_lsb16_toInt : (lsb16 (s.srcX side x r)).toInt = lowS (s.reg ⟨cross side x, r⟩) := by
  rw [State.srcX_eq, lsb16_toInt]

theorem State.srcX_msb16_toInt : (msb16 (s.srcX side x r)).toInt = highS (s.reg ⟨cross side x, r⟩) := by
  rw [State.srcX_eq, msb16_toInt]

theorem State.srcX_lsb16_toNat : ((lsb16 (s.srcX side x r)).toNat : Int) = lowU (s.reg ⟨cross side x, r⟩) := by
  rw [State.srcX_eq, lsb16_toNat]

theorem State.srcX_msb16_toNat : ((msb16 (s.srcX side x r)).toNat : Int) = highU (s.reg ⟨cross side x, r⟩) := by
  rw [State.srcX_eq, msb16_toNat]

end

/-! The words of a 64-bit result (40_execution_model.md R178). -/

theorem extractLsb'_low_ofInt (n : Int) : (BitVec.ofInt 64 n).extractLsb' 0 32 = word n := by
  apply BitVec.eq_of_toNat_eq
  simp only [word, BitVec.extractLsb'_toNat, BitVec.toNat_ofInt, Nat.shiftRight_eq_div_pow]
  omega

theorem extractLsb'_high_ofInt (n : Int) : (BitVec.ofInt 64 n).extractLsb' 32 32 = word (n / 2 ^ 32) := by
  apply BitVec.eq_of_toNat_eq
  simp only [word, BitVec.extractLsb'_toNat, BitVec.toNat_ofInt, Nat.shiftRight_eq_div_pow]
  omega

/-- The two writes that `State.putDouble` queues for an exact integer. -/
theorem State.putDouble_ofInt (s : State) (side : Side) (p : Pair) (left : Nat) (v : Int) (watch : List RegName)
    (n : Nat) :
    s.putDouble side p left (BitVec.ofInt 64 v) watch n = queue s
      [⟨⟨side, Pair.even p⟩, word v, left, watch, n⟩,
       ⟨⟨side, Pair.odd p⟩, word (v / 2 ^ 32), left + 1, watch, n⟩] := by
  rw [State.putDouble, extractLsb'_low_ofInt, extractLsb'_high_ofInt]
  simp only [State.putWatched, queue, lowName, highName, List.append_assoc, List.cons_append, List.nil_append]

/-- The sources that a multiply reads over its four read cycles (40_execution_model.md R177). -/
theorem binNames_eq {γ : Type} (o : Bin Reg Reg γ) :
    binNames o = [⟨o.side, o.src1⟩, ⟨cross o.side o.x, o.src2⟩] := by
  rw [binNames, cross_eq_crossSide]

/-! Issuing a product of exact integers. -/

section
variable {c : Cond} {side : Side} {a a' b b' : Int} {names names' : List RegName} {s : State}

theorem issueProduct_of_true {dst : Reg} {left : Nat} (hc : s.holds c = true) (ha : a = a') (hb : b = b') :
    issueWord c side dst left (product a b) s = .next (queue s [lands side dst left (word (a' * b'))]) := by
  rw [← ha, ← hb]
  exact issueWord_of_true hc rfl

theorem issueMpyi_of_true {dst : Reg} (hc : s.holds c = true) (hb : b = b') (hn : names = names') :
    issueMpyi c side dst a b names s = .next (queue s [⟨⟨side, dst⟩, word (a * b'), 8, names', 3⟩]) := by
  rw [← hb, ← hn]
  exact guarded_of_true _ hc

theorem issueMpyid_of_true {dst : Pair} (hc : s.holds c = true) (hb : b = b') (hn : names = names') :
    issueMpyid c side dst a b names s = .next (queue s
      [⟨⟨side, Pair.even dst⟩, word (a * b'), 8, names', 3⟩,
       ⟨⟨side, Pair.odd dst⟩, word (a * b' / 2 ^ 32), 9, names', 3⟩]) := by
  rw [← hb, ← hn, issueMpyid, guarded_of_true _ hc, State.putDouble_ofInt]

end

/-- Settles O9: each form issues the product of the two halves its name gives (`issueProduct_of_true`). -/
theorem halfwordProducts : Obligations.HalfwordProducts := by
  refine ⟨fun o s hc => ?mpy, fun o s hc => ?mpyu, fun o s hc => ?mpyus, fun o s hc => ?mpysu, fun o s hc => ?mpyh,
    fun o s hc => ?mpyhu, fun o s hc => ?mpyhus, fun o s hc => ?mpyhsu, fun o s hc => ?mpyhl, fun o s hc => ?mpyhlu,
    fun o s hc => ?mpyhuls, fun o s hc => ?mpyhslu, fun o s hc => ?mpylh, fun o s hc => ?mpylhu,
    fun o s hc => ?mpyluhs, fun o s hc => ?mpylshu, fun o s hc => ?mpyC, fun o s hc => ?mpysuC⟩
  case mpy => exact issueProduct_of_true hc (lsb16_toInt _) (s.srcX_lsb16_toInt ..)
  case mpyu => exact issueProduct_of_true hc (lsb16_toNat _) (s.srcX_lsb16_toNat ..)
  case mpyus => exact issueProduct_of_true hc (lsb16_toNat _) (s.srcX_lsb16_toInt ..)
  case mpysu => exact issueProduct_of_true hc (lsb16_toInt _) (s.srcX_lsb16_toNat ..)
  case mpyh => exact issueProduct_of_true hc (msb16_toInt _) (s.srcX_msb16_toInt ..)
  case mpyhu => exact issueProduct_of_true hc (msb16_toNat _) (s.srcX_msb16_toNat ..)
  case mpyhus => exact issueProduct_of_true hc (msb16_toNat _) (s.srcX_msb16_toInt ..)
  case mpyhsu => exact issueProduct_of_true hc (msb16_toInt _) (s.srcX_msb16_toNat ..)
  case mpyhl => exact issueProduct_of_true hc (msb16_toInt _) (s.srcX_lsb16_toInt ..)
  case mpyhlu => exact issueProduct_of_true hc (msb16_toNat _) (s.srcX_lsb16_toNat ..)
  case mpyhuls => exact issueProduct_of_true hc (msb16_toNat _) (s.srcX_lsb16_toInt ..)
  case mpyhslu => exact issueProduct_of_true hc (msb16_toInt _) (s.srcX_lsb16_toNat ..)
  case mpylh => exact issueProduct_of_true hc (lsb16_toInt _) (s.srcX_msb16_toInt ..)
  case mpylhu => exact issueProduct_of_true hc (lsb16_toNat _) (s.srcX_msb16_toNat ..)
  case mpyluhs => exact issueProduct_of_true hc (lsb16_toNat _) (s.srcX_msb16_toInt ..)
  case mpylshu => exact issueProduct_of_true hc (lsb16_toInt _) (s.srcX_msb16_toNat ..)
  case mpyC => exact issueProduct_of_true hc rfl (s.srcX_lsb16_toInt ..)
  case mpysuC => exact issueProduct_of_true hc rfl (s.srcX_lsb16_toNat ..)

/-- Settles O10: each form issues its exact product, watching the registers it reads (`issueMpyi_of_true`,
`issueMpyid_of_true`). -/
theorem wordProducts : Obligations.WordProducts := by
  refine ⟨fun o s hc => ?mpyi, fun o s hc => ?mpyiC, fun o s hc => ?mpyid, fun o s hc => ?mpyidC⟩
  case mpyi => exact issueMpyi_of_true hc (s.srcX_toInt ..) (binNames_eq o)
  case mpyiC => exact issueMpyi_of_true hc (s.srcX_toInt ..) (by rw [cross_eq_crossSide])
  case mpyid => exact issueMpyid_of_true hc (s.srcX_toInt ..) (binNames_eq o)
  case mpyidC => exact issueMpyid_of_true hc (s.srcX_toInt ..) (by rw [cross_eq_crossSide])

end Sys2Proof.Machine
end

section
/-! The loads and stores (45_load_store.md R363 to R382): the effective address and the base update by mode and AMR, the
bytes of an aligned access in the device's order (20_memory.md R97, R101), and what a store leaves in memory. -/

set_option Elab.async false

namespace Sys2Proof.Machine

open Sys2Proof.Claims

/-! Queued writes. -/

theorem queue_nil (s : State) : queue s [] = s := by
  rw [queue, List.append_nil]

theorem queue_queue (s : State) (v w : List PendingWrite) : queue (queue s v) w = queue s (v ++ w) := by
  simp only [queue, List.append_assoc]

/-! Addresses (R365 to R368). -/

section
variable {γ : Type} {s : State} {o : Mem γ}

theorem State.offset_eq_word (s : State) (o : Mem γ) (sh : Nat) : s.offset o sh = word (scaledOffset s o sh) := by
  unfold State.offset scaledOffset
  cases o.offset with
  | cst k => exact (ucst_shiftLeft_eq_word k sh).trans (by push_cast; rfl)
  | reg r => exact (shiftLeft_eq_word _ sh).trans (by push_cast; rfl)

theorem State.modified_of_defined (hm : addressMode s o.unit o.base ≠ 3) (sh : Nat) :
    s.modified o sh = some (modifiedBase s o sh) := by
  have hadd : s.amrStep ⟨o.unit, o.base⟩ (s.reg ⟨o.unit, o.base⟩) (s.offset o sh) false =
      some (word (address s o.unit o.base (scaledOffset s o sh))) :=
    State.amrStep_of_defined hm (add_eq_ofInt (word_toNat _).symm (s.offset_eq_word o sh))
  have hsub : s.amrStep ⟨o.unit, o.base⟩ (s.reg ⟨o.unit, o.base⟩) (s.offset o sh) true =
      some (word (address s o.unit o.base (-scaledOffset s o sh))) :=
    State.amrStep_of_defined hm (sub_eq_ofInt (word_toNat _).symm (s.offset_eq_word o sh))
  unfold State.modified modifiedBase
  cases o.mode with
  | negOffset | preDec | postDec => exact hsub
  | posOffset | preInc | postInc => exact hadd

theorem State.effective_of_defined (hm : addressMode s o.unit o.base ≠ 3) (sh : Nat) :
    s.effective o sh = dataAddress s o sh := by
  unfold State.effective dataAddress
  rw [State.modified_of_defined hm]
  cases o.mode <;> rfl

theorem State.updateBase_of_defined (hm : addressMode s o.unit o.base ≠ 3) (sh : Nat) :
    s.updateBase o sh = queue s (baseUpdate s o sh) := by
  unfold State.updateBase baseUpdate
  rw [State.modified_of_defined hm]
  cases o.mode with
  | negOffset | posOffset => exact (queue_nil s).symm
  | preDec | preInc | postDec | postInc => rfl

end

theorem State.effectiveK_eq_farAddress (s : State) (o : MemK) (sh : Nat) : s.effectiveK o sh = farAddress s o sh := by
  have hoffset : (o.ucst15.setWidth 32 : Word) <<< sh = word ((o.ucst15.toNat * 2 ^ sh : Nat)) := by
    rw [shiftLeft_eq_word, BitVec.toNat_setWidth_of_le (by decide)]
  rw [State.effectiveK, farAddress, Int.natCast_add]
  exact add_eq_ofInt (word_toNat _).symm hoffset

/-! The bytes of an aligned access. -/

/-- A size that divides the address space: an aligned access does not wrap around. -/
theorem toNat_add_lt_of_aligned {a : Word} {n k : Nat} (hn : n ∣ 2 ^ 32) (ha : a.toNat % n = 0) (hk : k < n) :
    a.toNat + k < 2 ^ 32 := by
  obtain ⟨c, hc⟩ := hn
  obtain ⟨q, hq⟩ := Nat.dvd_of_mod_eq_zero ha
  have hlt : n * q < n * c := hq ▸ hc ▸ a.isLt
  have hle : n * (q + 1) ≤ n * c := Nat.mul_le_mul_left n (Nat.lt_of_mul_lt_mul_left hlt)
  rw [Nat.mul_succ] at hle
  omega

theorem toNat_add_ofNat_of_aligned {a : Word} {n k : Nat} (hn : n ∣ 2 ^ 32) (ha : a.toNat % n = 0) (hk : k < n) :
    (a + BitVec.ofNat 32 k).toNat = a.toNat + k := by
  have hlt := toNat_add_lt_of_aligned hn ha hk
  rw [BitVec.toNat_add, BitVec.toNat_ofNat, Nat.add_mod_mod, Nat.mod_eq_of_lt hlt]

section
variable {s : State} {ea : Word} {n : Nat}

theorem laneAddress_of_aligned (hn : n ∣ 2 ^ 32) (ha : ea.toNat % n = 0) {k : Nat} (hk : k < n) :
    laneAddress s.device.endian ea n k = byteAddress s ea n k := by
  unfold laneAddress byteAddress
  cases s.device.endian with
  | little => exact toNat_add_ofNat_of_aligned hn ha hk
  | big => exact toNat_add_ofNat_of_aligned hn ha (by omega)

theorem laneAddresses_of_aligned (hn : n ∣ 2 ^ 32) (ha : ea.toNat % n = 0) :
    laneAddresses s.device.endian ea n = (List.range n).map (byteAddress s ea n) :=
  List.map_congr_left fun _ hk => laneAddress_of_aligned hn ha (List.mem_range.1 hk)

theorem State.touched_of_aligned (hn : n ∣ 2 ^ 32) (ha : ea.toNat % n = 0) :
    s.touched ea n = (List.range n).map (byteAddress s ea n) := by
  rw [State.touched, container, ha, BitVec.sub_zero, laneAddresses_of_aligned hn ha]

theorem byteAddress_of_little (h : s.device.endian = .little) (k : Nat) : byteAddress s ea n k = ea.toNat + k := by
  rw [byteAddress, h]

theorem byteAddress_of_big (h : s.device.endian = .big) (k : Nat) :
    byteAddress s ea n k = ea.toNat + (n - 1 - k) := by
  rw [byteAddress, h]

/-- Either byte order goes through the same addresses. -/
theorem exists_byteAddress_iff (s : State) (ea : Word) (n a : Nat) :
    (∃ k < n, byteAddress s ea n k = a) ↔ ∃ k < n, a = ea.toNat + k := by
  cases he : s.device.endian with
  | little =>
    simp only [byteAddress_of_little he]
    exact ⟨fun ⟨k, hk, h⟩ => ⟨k, hk, h.symm⟩, fun ⟨k, hk, h⟩ => ⟨k, hk, h.symm⟩⟩
  | big =>
    simp only [byteAddress_of_big he]
    exact ⟨fun ⟨k, hk, h⟩ => ⟨n - 1 - k, by omega, h.symm⟩,
      fun ⟨k, hk, h⟩ => ⟨n - 1 - k, by omega, by omega⟩⟩

theorem byteAddress_inj {j k : Nat} (hj : j < n) (hk : k < n) (h : byteAddress s ea n j = byteAddress s ea n k) :
    j = k := by
  cases he : s.device.endian with
  | little =>
    rw [byteAddress_of_little he, byteAddress_of_little he] at h
    omega
  | big =>
    rw [byteAddress_of_big he, byteAddress_of_big he] at h
    omega

theorem State.mem_touched_of_aligned (hn : n ∣ 2 ^ 32) (ha : ea.toNat % n = 0) {a : Nat} :
    a ∈ s.touched ea n ↔ ∃ k < n, a = ea.toNat + k := by
  rw [State.touched_of_aligned hn ha, List.mem_map, ← exists_byteAddress_iff s]
  simp only [List.mem_range]

/-! What memory backs and what other bus masters write (20_memory.md R104, R105, R112). -/

theorem dataBacked_iff (s : State) (a : Nat) : dataBacked s.device a = true ↔ InMemory s a := by
  unfold dataBacked InMemory
  cases dataRegion s.device a <;> simp [isMemory]

theorem State.contested_iff (s : State) {a : Nat} (ha : a < 2 ^ 32) : s.contested a = true ↔ Contested s a := by
  unfold State.contested State.external Contested
  cases s.device.externalWriters
  · simp
  · simp only [if_true, List.any_eq_true, List.mem_filter, decide_eq_true_eq, beq_iff_eq, true_and]
    exact ⟨fun ⟨c, hc, h⟩ => ⟨c, hc.1, h⟩, fun ⟨c, hc, h⟩ => ⟨c, ⟨hc, h ▸ ha⟩, h⟩⟩

theorem State.defines_of_proper (hn : n ∣ 2 ^ 32) (h : Proper s ea n) : s.defines ea n = true := by
  obtain ⟨haligned, hbacked⟩ := h
  simp only [State.defines, aligned, haligned, beq_self_eq_true, Bool.true_and, List.all_eq_true]
  intro a hmem
  obtain ⟨k, hk, rfl⟩ := (State.mem_touched_of_aligned hn haligned).1 hmem
  exact (dataBacked_iff ..).2 (hbacked k hk)

theorem State.contested_of_accessible (hn : n ∣ 2 ^ 32) (h : Accessible s ea n) {a : Nat} (ha : a ∈ s.touched ea n) :
    s.contested a = false := by
  obtain ⟨⟨haligned, -⟩, hfree⟩ := h
  obtain ⟨k, hk, rfl⟩ := (State.mem_touched_of_aligned hn haligned).1 ha
  rw [← Bool.not_eq_true, s.contested_iff (toNat_add_lt_of_aligned hn haligned hk)]
  exact hfree k hk

/-! Loads (R363, R370 to R376). -/

theorem joinBytes_lt (l : List Byte) : joinBytes l < 256 ^ l.length := by
  induction l with
  | nil => exact Nat.one_pos
  | cons b rest ih =>
    have hb : b.toNat < 256 := b.isLt
    rw [joinBytes, List.length_cons, Nat.pow_succ]
    omega

theorem joinBytes_map_range (f : Nat → Byte) (n : Nat) :
    joinBytes ((List.range n).map f) = ((List.range n).map fun k => (f k).toNat * 256 ^ k).sum := by
  induction n generalizing f with
  | zero => rfl
  | succ n ih =>
    simp only [List.range_succ_eq_map, List.map_cons, List.map_map, joinBytes, List.sum_cons, pow_zero, mul_one]
    rw [ih, ← List.sum_map_mul_left]
    congr 2
    apply List.map_congr_left
    intro k _
    simp only [Function.comp_apply, Nat.succ_eq_add_one]
    ring

theorem bytesAt_eq_joinBytes (s : State) (ea : Word) (n : Nat) :
    bytesAt s ea n = joinBytes ((List.range n).map fun k => readByte s.mem (byteAddress s ea n k)) :=
  (joinBytes_map_range _ n).symm

theorem bytesAt_lt (s : State) (ea : Word) (n : Nat) : bytesAt s ea n < 256 ^ n := by
  have h := joinBytes_lt ((List.range n).map fun k => readByte s.mem (byteAddress s ea n k))
  rwa [List.length_map, List.length_range, ← bytesAt_eq_joinBytes] at h

theorem memRead_of_aligned (hn : n ∣ 2 ^ 32) (ha : ea.toNat % n = 0) :
    memRead s.device.endian s.mem ea n = bytesAt s ea n := by
  rw [memRead, laneAddresses_of_aligned hn ha, List.map_map, bytesAt_eq_joinBytes]
  rfl

theorem State.load_of_accessible (hn : n ∣ 2 ^ 32) (h : Accessible s ea n) : s.load ea n = some (bytesAt s ea n) := by
  have hquiet : (s.touched ea n).any s.contested = false :=
    List.any_eq_false.2 fun a ha => Bool.not_eq_true _ ▸ State.contested_of_accessible hn h ha
  rw [State.load, State.defines_of_proper hn h.1, hquiet, memRead_of_aligned hn h.1.1]
  rfl

end

theorem extendByteSigned_eq_word (v : Nat) : extendByteSigned v = word (Int.bmod v (2 ^ 8)) := by
  rw [extendByteSigned, signExtend_eq_ofInt, BitVec.toInt_ofNat', word]

theorem extendHalfSigned_eq_word (v : Nat) : extendHalfSigned v = word (Int.bmod v (2 ^ 16)) := by
  rw [extendHalfSigned, signExtend_eq_ofInt, BitVec.toInt_ofNat', word]

theorem extendByteZero_bytesAt (s : State) (ea : Word) : extendByteZero (bytesAt s ea 1) = word (bytesAt s ea 1) := by
  have hlt : bytesAt s ea 1 < 2 ^ 8 := bytesAt_lt s ea 1
  rw [extendByteZero, setWidth_eq_ofInt, BitVec.toNat_ofNat, Nat.mod_eq_of_lt hlt, word]

theorem extendHalfZero_bytesAt (s : State) (ea : Word) : extendHalfZero (bytesAt s ea 2) = word (bytesAt s ea 2) := by
  have hlt : bytesAt s ea 2 < 2 ^ 16 := bytesAt_lt s ea 2
  rw [extendHalfZero, setWidth_eq_ofInt, BitVec.toNat_ofNat, Nat.mod_eq_of_lt hlt, word]

theorem wholeWord_eq_word (v : Nat) : wholeWord v = word v := (word_natCast v).symm

section
variable {s : State} {extend : Nat → Word} {v : Word}

/-- A defined load queues its base update and the extended value. -/
theorem issueLoad_of_accessible {o : Mem Reg} (sh : Nat) (hc : s.holds o.cond = true)
    (hm : addressMode s o.unit o.base ≠ 3) (ha : Accessible s (dataAddress s o sh) (2 ^ sh)) (hsh : sh ≤ 32)
    (hv : extend (bytesAt s (dataAddress s o sh) (2 ^ sh)) = v) :
    issueLoad o sh extend s = .next (queue s (baseUpdate s o sh ++ [lands o.side o.data 4 v])) := by
  rw [issueLoad, guarded_of_true _ hc, State.updateBase_of_defined hm, State.effective_of_defined hm,
    State.load_of_accessible (Nat.pow_dvd_pow 2 hsh) ha, ← queue_queue, ← hv]
  rfl

theorem issueLoadK_of_accessible {o : MemK} (sh : Nat) (hc : s.holds o.cond = true)
    (ha : Accessible s (farAddress s o sh) (2 ^ sh)) (hsh : sh ≤ 32)
    (hv : extend (bytesAt s (farAddress s o sh) (2 ^ sh)) = v) :
    issueLoadK o sh extend s = .next (queue s [lands o.side o.data 4 v]) := by
  rw [issueLoadK, guarded_of_true _ hc, State.effectiveK_eq_farAddress,
    State.load_of_accessible (Nat.pow_dvd_pow 2 hsh) ha, ← hv]
  rfl

theorem execLddw_of_accessible {o : Mem Pair} (hc : s.holds o.cond = true) (hm : addressMode s o.unit o.base ≠ 3)
    (ha : Accessible s (dataAddress s o 3) 8) :
    execLddw o s = .next (queue s (baseUpdate s o 3 ++
      [lands o.side (Pair.even o.data) 4 (word (bytesAt s (dataAddress s o 3) 8)),
       lands o.side (Pair.odd o.data) 4 (word (bytesAt s (dataAddress s o 3) 8 / 2 ^ 32 : Nat))])) := by
  rw [execLddw, guarded_of_true _ hc, State.updateBase_of_defined hm, State.effective_of_defined hm,
    State.load_of_accessible (by decide) ha, ← queue_queue, word_natCast, word_natCast]
  simp only [State.finishLoadPair, State.putWord, queue, lands, List.append_assoc, List.cons_append, List.nil_append]

end

/-- Settles O12: each form queues its base update and the bytes at its address, extended as its name says. -/
theorem loadResults : Obligations.LoadResults := by
  refine ⟨fun o s hc hm ha => ?ldb, fun o s hc ha => ?ldbK, fun o s hc hm ha => ?ldbu, fun o s hc ha => ?ldbuK,
    fun o s hc hm ha => ?ldh, fun o s hc ha => ?ldhK, fun o s hc hm ha => ?ldhu, fun o s hc ha => ?ldhuK,
    fun o s hc hm ha => ?ldw, fun o s hc ha => ?ldwK, fun o s hc hm ha => ?lddw⟩
  case ldb => exact issueLoad_of_accessible 0 hc hm ha (by decide) (extendByteSigned_eq_word _)
  case ldbK => exact issueLoadK_of_accessible 0 hc ha (by decide) (extendByteSigned_eq_word _)
  case ldbu => exact issueLoad_of_accessible 0 hc hm ha (by decide) (extendByteZero_bytesAt ..)
  case ldbuK => exact issueLoadK_of_accessible 0 hc ha (by decide) (extendByteZero_bytesAt ..)
  case ldh => exact issueLoad_of_accessible 1 hc hm ha (by decide) (extendHalfSigned_eq_word _)
  case ldhK => exact issueLoadK_of_accessible 1 hc ha (by decide) (extendHalfSigned_eq_word _)
  case ldhu => exact issueLoad_of_accessible 1 hc hm ha (by decide) (extendHalfZero_bytesAt ..)
  case ldhuK => exact issueLoadK_of_accessible 1 hc ha (by decide) (extendHalfZero_bytesAt ..)
  case ldw => exact issueLoad_of_accessible 2 hc hm ha (by decide) (wholeWord_eq_word _)
  case ldwK => exact issueLoadK_of_accessible 2 hc ha (by decide) (wholeWord_eq_word _)
  case lddw => exact execLddw_of_accessible hc hm ha

end Sys2Proof.Machine
end

section
/-! Stores (45_load_store.md R364, R377 to R382): what each stored byte and every other byte reads as. -/

set_option Elab.async false

namespace Sys2Proof.Machine

open Sys2Proof.Claims

/-! Bytes stored one after another. -/

theorem State.mem_storeBytes_stored (cells : List (Nat × Byte)) (s : State) (a : Nat) :
    a ∈ (s.storeBytes cells).stored ↔ a ∈ cells.map Prod.fst ∨ a ∈ s.stored := by
  induction cells generalizing s with
  | nil => simp [State.storeBytes]
  | cons c rest ih =>
    rw [State.storeBytes, ih, State.storeByte_stored, List.map_cons, List.mem_cons, List.mem_cons]
    tauto

theorem State.readByte_storeByte_same {s : State} {a : Nat} (b : Byte) (hw : Memory.wf s.mem = true)
    (hs : a ∉ s.stored) (hc : s.contested a = false) : readByte (s.storeByte a b).mem a = b := by
  rw [State.storeByte, readByte_writeByte _ _ _ _ hw, if_pos rfl, if_neg]
  simp [hs, hc]

/-- A byte stored in a cycle that stores it once, and that no other bus master writes, is the byte read. -/
theorem State.readByte_storeBytes_of_mem {cells : List (Nat × Byte)} {s : State} (hw : Memory.wf s.mem = true)
    (hlt : ∀ c ∈ cells, c.1 < 2 ^ 32) (hnodup : (cells.map Prod.fst).Nodup) (hs : ∀ c ∈ cells, c.1 ∉ s.stored)
    (hc : ∀ c ∈ cells, s.contested c.1 = false) :
    ∀ c ∈ cells, readByte (s.storeBytes cells).mem c.1 = c.2 := by
  induction cells generalizing s with
  | nil => exact nofun
  | cons d rest ih =>
    obtain ⟨hfirst, hrest⟩ := List.nodup_cons.1 hnodup
    have hne : ∀ c ∈ rest, c.1 ≠ d.1 := fun c hmem h => hfirst (h ▸ List.mem_map_of_mem hmem)
    have hwf := s.storeByte_mem_wf d.1 d.2 hw (hlt d List.mem_cons_self)
    have hltRest : ∀ c ∈ rest, c.1 < 2 ^ 32 := fun c hmem => hlt c (List.mem_cons_of_mem _ hmem)
    intro c hmem
    rw [State.storeBytes]
    rcases List.mem_cons.1 hmem with rfl | hmem
    · rw [State.storeBytes_frame rest _ _ hwf hltRest hne]
      exact State.readByte_storeByte_same _ hw (hs _ List.mem_cons_self) (hc _ List.mem_cons_self)
    · refine ih hwf hltRest hrest (fun e he => ?_) (fun e he => hc e (List.mem_cons_of_mem _ he)) c hmem
      rw [State.storeByte_stored]
      exact List.not_mem_cons_of_ne_of_not_mem (hne e he) (hs e (List.mem_cons_of_mem _ he))

/-! A defined store. -/

theorem splitBytes_eq_map_range (v n : Nat) :
    splitBytes v n = (List.range n).map fun k => BitVec.ofNat 8 (v / 256 ^ k) := by
  induction n generalizing v with
  | zero => rfl
  | succ n ih =>
    rw [splitBytes, ih, List.range_succ_eq_map, List.map_cons, List.map_map, pow_zero, Nat.div_one]
    congr 1
    apply List.map_congr_left
    intro k _
    rw [Function.comp_apply, Nat.div_div_eq_div_mul, ← Nat.pow_succ']

/-- The cells that a store of the low n bytes of `v` at `ea` writes. -/
def storeCells (s : State) (ea : Word) (n : Nat) (v : Word) : List (Nat × Byte) :=
  (List.range n).map fun k => (byteAddress s ea n k, BitVec.ofNat 8 (v.toNat / 256 ^ k))

section
variable {s : State} {ea : Word} {n : Nat} {v : Word}

theorem mem_storeCells {c : Nat × Byte} :
    c ∈ storeCells s ea n v ↔ ∃ k < n, (byteAddress s ea n k, BitVec.ofNat 8 (v.toNat / 256 ^ k)) = c := by
  simp only [storeCells, List.mem_map, List.mem_range]

theorem storeCells_map_fst : (storeCells s ea n v).map Prod.fst = (List.range n).map (byteAddress s ea n) := by
  rw [storeCells, List.map_map]
  rfl

theorem storeCells_nodup : ((storeCells s ea n v).map Prod.fst).Nodup := by
  rw [storeCells_map_fst]
  exact List.nodup_range.map_on fun j hj k hk h => byteAddress_inj (List.mem_range.1 hj) (List.mem_range.1 hk) h

theorem mem_storeCells_map_fst {a : Nat} :
    a ∈ (storeCells s ea n v).map Prod.fst ↔ ∃ k < n, a = ea.toNat + k := by
  rw [storeCells_map_fst, List.mem_map, ← exists_byteAddress_iff s]
  simp only [List.mem_range]

theorem State.store_of_proper (hn : n ∣ 2 ^ 32) (h : Proper s ea n) :
    s.store ea n v = s.storeBytes (storeCells s ea n v) := by
  rw [State.store, if_pos (State.defines_of_proper hn h), State.touched_of_aligned hn h.1, splitBytes_eq_map_range,
    List.zip_map', storeCells]

/-- A store of accessible bytes, the first of its cycle. -/
theorem stored_store_of_accessible (hn : n ∣ 2 ^ 32) (ha : Accessible s ea n) (hw : Memory.wf s.mem = true)
    (hs : s.stored = []) (v : Word) : Stored s (s.store ea n v) ea n v [] := by
  have haddr : ∀ c ∈ storeCells s ea n v, ∃ k < n, c.1 = ea.toNat + k := fun c hc =>
    mem_storeCells_map_fst.1 (List.mem_map_of_mem hc)
  have hlt : ∀ c ∈ storeCells s ea n v, c.1 < 2 ^ 32 := fun c hc => by
    obtain ⟨k, hk, h⟩ := haddr c hc
    exact h ▸ toNat_add_lt_of_aligned hn ha.1.1 hk
  have hquiet : ∀ c ∈ storeCells s ea n v, s.contested c.1 = false := fun c hc =>
    State.contested_of_accessible hn ha ((State.mem_touched_of_aligned hn ha.1.1).2 (haddr c hc))
  rw [State.store_of_proper hn ha.1]
  refine ⟨fun k hk => ?bytes, fun a hne => ?frame, fun a => ?stored, ?fields⟩
  case bytes =>
    exact State.readByte_storeBytes_of_mem hw hlt storeCells_nodup (by simp [hs]) hquiet _
      (mem_storeCells.2 ⟨k, hk, rfl⟩)
  case frame =>
    refine State.storeBytes_frame _ s a hw hlt fun c hc h => ?_
    obtain ⟨k, hk, hck⟩ := haddr c hc
    exact hne k hk (h ▸ hck)
  case stored =>
    rw [State.mem_storeBytes_stored, mem_storeCells_map_fst, hs]
    simp only [List.not_mem_nil, or_false]
  case fields =>
    obtain ⟨mem, stored, codeStores, free, he, -⟩ := State.storeBytes_spec (storeCells s ea n v) s
    rw [he, List.append_nil]

end

/-- Writes queued before a store are those queued with it. -/
theorem stored_of_queue {s t : State} {ea : Word} {n : Nat} {v : Word} {upd : List PendingWrite}
    (h : Stored (queue s upd) t ea n v []) : Stored s t ea n v upd := by
  obtain ⟨hbytes, hframe, hstored, hfields⟩ := h
  exact ⟨hbytes, hframe, hstored, by rwa [List.append_nil] at hfields⟩

section
variable {s : State} (hw : Memory.wf s.mem = true) (hs : s.stored = [])
include hw hs

theorem issueStore_of_accessible {o : Mem Reg} (sh : Nat) (hc : s.holds o.cond = true)
    (hm : addressMode s o.unit o.base ≠ 3) (ha : Accessible s (dataAddress s o sh) (2 ^ sh)) (hsh : sh ≤ 32) :
    ∃ t, issueStore o sh s = .next t ∧
      Stored s t (dataAddress s o sh) (2 ^ sh) (s.reg ⟨o.side, o.data⟩) (baseUpdate s o sh) := by
  rw [issueStore, guarded_of_true _ hc, State.updateBase_of_defined hm, State.effective_of_defined hm]
  exact ⟨_, rfl, stored_of_queue (stored_store_of_accessible (s := queue s _) (Nat.pow_dvd_pow 2 hsh) ha hw hs _)⟩

theorem issueStoreK_of_accessible {o : MemK} (sh : Nat) (hc : s.holds o.cond = true)
    (ha : Accessible s (farAddress s o sh) (2 ^ sh)) (hsh : sh ≤ 32) :
    ∃ t, issueStoreK o sh s = .next t ∧ Stored s t (farAddress s o sh) (2 ^ sh) (s.reg ⟨o.side, o.data⟩) [] := by
  rw [issueStoreK, guarded_of_true _ hc, State.effectiveK_eq_farAddress]
  exact ⟨_, rfl, stored_store_of_accessible (Nat.pow_dvd_pow 2 hsh) ha hw hs _⟩

end

/-- Settles O13: each form is a defined store of its size (`stored_store_of_accessible`). -/
theorem storeResults : Obligations.StoreResults := by
  refine ⟨fun o s hc hm ha hw hs => ?stb, fun o s hc ha hw hs => ?stbK, fun o s hc hm ha hw hs => ?sth,
    fun o s hc ha hw hs => ?sthK, fun o s hc hm ha hw hs => ?stw, fun o s hc ha hw hs => ?stwK⟩
  case stb => exact issueStore_of_accessible hw hs 0 hc hm ha (by decide)
  case stbK => exact issueStoreK_of_accessible hw hs 0 hc ha (by decide)
  case sth => exact issueStore_of_accessible hw hs 1 hc hm ha (by decide)
  case sthK => exact issueStoreK_of_accessible hw hs 1 hc ha (by decide)
  case stw => exact issueStore_of_accessible hw hs 2 hc hm ha (by decide)
  case stwK => exact issueStoreK_of_accessible hw hs 2 hc ha (by decide)

end Sys2Proof.Machine
end

section
/-! Branches in flight, NOP and IDLE (46_branch_nop.md R390 to R396): what each queues, how a branch counts down and
lands, and the record of branches that interrupts wait for (60_exceptions.md R495, R497). -/

set_option Elab.async false

namespace Sys2Proof.Machine

open Sys2Proof.Claims

/-! The instructions that queue a branch. -/

section
variable {c : Cond} {side : Side} {s t : State}

/-- A guarded effect queues no branch if the effect does not. -/
theorem guarded_branches {u : State} (h : guarded c s (.next u) = .next t) (hu : u.branches = s.branches) :
    t.branches = s.branches := by
  rcases guarded_next h with ⟨-, rfl⟩ | ⟨-, h⟩
  · rfl
  · exact Host.Outcome.next.inj h ▸ hu

/-- A guarded branch is queued for five delay slots. -/
theorem guarded_putBranch {u : State} {a : Word} (h : guarded c s (.next u) = .next t)
    (hu : u.branches = s.branches ++ [⟨a, 5⟩]) :
    t.branches = s.branches ∨ ∃ a, t.branches = s.branches ++ [⟨a, 5⟩] := by
  rcases guarded_next h with ⟨-, rfl⟩ | ⟨-, h⟩
  · exact .inl rfl
  · exact .inr ⟨a, Host.Outcome.next.inj h ▸ hu⟩

theorem State.updateBase_branches {γ : Type} (s : State) (o : Mem γ) (sh : Nat) :
    (s.updateBase o sh).branches = s.branches := by
  unfold State.updateBase
  split <;> exact s.drawFor_branches _

theorem State.finishLoad_branches (s : State) (side : Side) (dst : Reg) (extend : Nat → Word) (r : Option Nat) :
    (s.finishLoad side dst extend r).branches = s.branches := by
  cases r <;> rfl

theorem State.finishLoadPair_branches (s : State) (side : Side) (dst : Pair) (r : Option Nat) :
    (s.finishLoadPair side dst r).branches = s.branches := by
  cases r <;> rfl

theorem State.storeBytes_branches (cells : List (Nat × Byte)) (s : State) :
    (s.storeBytes cells).branches = s.branches := by
  obtain ⟨mem, stored, codeStores, free, he, -⟩ := State.storeBytes_spec cells s
  rw [he]

theorem State.store_branches (s : State) (ea : Word) (sz : Nat) (v : Word) :
    (s.store ea sz v).branches = s.branches := by
  rcases s.store_cases ea sz v with ⟨-, h⟩ | ⟨-, h⟩ <;> rw [h, State.storeBytes_branches]

theorem issueSat32_branches {dst : Reg} {left : Nat} {v : Int} (h : issueSat32 c side dst left v s = .next t) :
    t.branches = s.branches :=
  guarded_branches h (State.noteOverflow_branches ..)

theorem issueSat40_branches {dst : Pair} {v : Int} (h : issueSat40 c side dst v s = .next t) :
    t.branches = s.branches :=
  guarded_branches h (State.noteOverflow_branches ..)

theorem issueOpen_branches {dst : Reg} {v : Option Word} (h : issueOpen c side dst v s = .next t) :
    t.branches = s.branches := by
  rcases issueOpen_next h with ⟨-, rfl⟩ | ⟨-, w, rfl, -⟩
  · rfl
  · exact s.drawFor_branches v

theorem execSshl_branches {o : Bin Reg Reg Reg} (h : execSshl o s = .next t) : t.branches = s.branches := by
  unfold execSshl at h
  split at h
  · exact issueSat32_branches h
  · exact guarded_branches h rfl

theorem execMvcWrite_branches {o : MvcWrite} (h : execMvcWrite o s = .next t) : t.branches = s.branches := by
  rcases execMvcWrite_next h with ⟨-, rfl⟩ | ⟨-, -, ⟨rfl, -⟩ | ⟨rfl, -⟩⟩ <;> rfl

theorem issueLoad_branches {o : Mem Reg} {sh : Nat} {extend : Nat → Word} (h : issueLoad o sh extend s = .next t) :
    t.branches = s.branches :=
  guarded_branches h ((State.finishLoad_branches ..).trans (s.updateBase_branches o sh))

theorem issueLoadK_branches {o : MemK} {sh : Nat} {extend : Nat → Word} (h : issueLoadK o sh extend s = .next t) :
    t.branches = s.branches :=
  guarded_branches h (s.finishLoad_branches ..)

theorem execLddw_branches {o : Mem Pair} (h : execLddw o s = .next t) : t.branches = s.branches :=
  guarded_branches h ((State.finishLoadPair_branches ..).trans (s.updateBase_branches o 3))

theorem issueStore_branches {o : Mem Reg} {sh : Nat} (h : issueStore o sh s = .next t) : t.branches = s.branches :=
  guarded_branches h ((State.store_branches ..).trans (s.updateBase_branches o sh))

theorem issueStoreK_branches {o : MemK} {sh : Nat} (h : issueStoreK o sh s = .next t) : t.branches = s.branches :=
  guarded_branches h (s.store_branches ..)

end

/-- The four branch instructions may queue one branch of five delay slots; every other instruction leaves the branches in
flight alone. The instructions without a case of their own here queue one result when their condition is true. -/
theorem exec_branches {i : Instr} {s t : State} (h : exec i s = .next t) :
    t.branches = s.branches ∨ ((issueOf i).timing = .branch ∧ ∃ a, t.branches = s.branches ++ [⟨a, 5⟩]) := by
  cases i
  case bDisp | bReg | bIrp | bNrp => exact (guarded_putBranch h rfl).imp_right fun hb => ⟨rfl, hb⟩
  all_goals left
  case sadd | saddC | sat | ssub | ssubX | ssubC | sshlC | smpy | smpyhl | smpylh | smpyh => exact issueSat32_branches h
  case saddLong | saddLongC | ssubLongC => exact issueSat40_branches h
  case sshl => exact execSshl_branches h
  case clrReg | extReg | extuReg | setReg | mvcRead | setConst | clrConst | addab | addabC | addah | addahC | addaw
    | addawC | addad | addadC | subab | subabC | subah | subahC | subaw | subawC => exact issueOpen_branches h
  case mvcWrite => exact execMvcWrite_branches h
  case ldhu | ldbu | ldb | ldh | ldw => exact issueLoad_branches h
  case ldhuK | ldbuK | ldbK | ldhK | ldwK => exact issueLoadK_branches h
  case lddw => exact execLddw_branches h
  case stb | sth | stw => exact issueStore_branches h
  case stbK | sthK | stwK => exact issueStoreK_branches h
  case nop | nop9 | idle => exact Host.Outcome.next.inj h ▸ rfl
  case mv o => cases o <;> exact guarded_branches h rfl
  case neg o => cases o <;> exact guarded_branches h rfl
  case not o => cases o <;> exact guarded_branches h rfl
  case zero o => cases o <;> exact guarded_branches h rfl
  all_goals exact guarded_branches h rfl

/-- A branch in flight after an instruction was in flight before, or it is a branch instruction's. -/
theorem mem_exec_branches {i : Instr} {s t : State} (h : exec i s = .next t) :
    ∀ b ∈ t.branches, b ∈ s.branches ∨ (b.left = 5 ∧ (issueOf i).timing = .branch) := by
  intro b hb
  rcases exec_branches h with heq | ⟨hi, a, heq⟩
  · exact .inl (heq ▸ hb)
  · rw [heq, List.mem_append, List.mem_singleton] at hb
    exact hb.imp_right fun hb => ⟨by rw [hb], hi⟩

/-- A branch that a packet adds comes from one of its instructions. -/
theorem mem_runAll_branches {p : List Instr} {s t : State} (h : runAll p s = .next t) :
    ∀ b ∈ t.branches, b ∈ s.branches ∨ (b.left = 5 ∧ ∃ i ∈ p, (issueOf i).timing = .branch) := by
  induction p generalizing s with
  | nil => exact fun b hb => .inl (Host.Outcome.next.inj h ▸ hb)
  | cons i rest ih =>
    unfold runAll at h
    split at h
    · rename_i u hu
      intro b hb
      rcases ih h b hb with hb | ⟨hl, j, hj, hjb⟩
      · exact (mem_exec_branches hu b hb).imp_right fun ⟨hl, hib⟩ => ⟨hl, i, List.mem_cons_self, hib⟩
      · exact .inr ⟨hl, j, List.mem_cons_of_mem i hj, hjb⟩
    · cases h
    · cases h

theorem mem_of_mem_memoryOrder {p : List Instr} {i : Instr} (h : i ∈ memoryOrder p) : i ∈ p :=
  (List.mem_append.1 h).elim List.mem_of_mem_filter List.mem_of_mem_filter

/-! Branches at the end of a cycle (46_branch_nop.md R390). -/

section
variable {s : State} {issues : List Issue} {seq a : Word}

/-- What is in flight afterwards was in flight with one cycle more to go. -/
theorem mem_endCycle_branches {b : PendingBranch} :
    b ∈ (s.endCycle issues seq).branches ↔ ⟨b.target, b.left + 1⟩ ∈ s.branches := by
  rw [State.endCycle_branches, List.mem_map]
  constructor
  · rintro ⟨d, hd, rfl⟩
    obtain ⟨hd, hl⟩ := List.mem_filter.1 hd
    have hl : d.left - 1 + 1 = d.left := Nat.sub_add_cancel (Nat.pos_of_ne_zero (by simpa using hl))
    rwa [hl]
  · exact fun h => ⟨_, List.mem_filter.2 ⟨h, by simp⟩, rfl⟩

theorem State.landingTargets_of_lands (h : BranchLands s a) : s.landingTargets = [a] := by
  rw [State.landingTargets, h.1, List.map_singleton]

theorem State.landingTargets_ne_nil (h : ¬ NoBranchLands s) : s.landingTargets ≠ [] := by
  intro hn
  refine h fun b hb hl => ?_
  have hmem : b.target ∈ s.landingTargets := List.mem_map_of_mem (List.mem_filter.2 ⟨hb, by simp [hl]⟩)
  rw [hn] at hmem
  cases hmem

theorem nextPc_singleton {free : Word} (h : a.toNat % 4 = 0) : nextPc [a] seq free = a :=
  if_pos h

/-- With something landing `pc` is a multiple of 4, whatever the sequential address. -/
theorem nextPc_aligned_of_ne_nil {targets : List Word} {n : Nat} (h : targets ≠ []) :
    (nextPc targets seq (freeTarget n)).toNat % 4 = 0 := by
  have hseq : nextPc targets seq (freeTarget n) = nextPc targets 0#32 (freeTarget n) :=
    match targets, h with
    | [_], _ => rfl
    | _ :: _ :: _, _ => rfl
  rw [hseq]
  exact nextPc_aligned rfl

theorem endCycle_pc_of_lands (h : BranchLands s a) : (s.endCycle issues seq).pc = a := by
  rw [State.endCycle_pc, State.landingTargets_of_lands h, nextPc_singleton h.2]

theorem endCycle_pc_of_none_lands (h : NoBranchLands s) : (s.endCycle issues seq).pc = seq := by
  rw [State.endCycle_pc, State.landingTargets_of_none h]
  rfl

/-- Without a control effect only a landing branch changes the NOP count and the idle state. -/
theorem State.endCycle_waiting (h : s.controls = []) :
    (s.endCycle issues seq).nopLeft = (if s.landingTargets.isEmpty then s.nopLeft else 0) ∧
      (s.endCycle issues seq).idle = (s.idle && s.landingTargets.isEmpty) := by
  rw [State.endCycle_eq, State.landControls_of_nil (by rw [State.latchFlags_controls, h]), State.settle,
    State.latchFlags_nopLeft, State.latchFlags_idle]
  exact ⟨rfl, rfl⟩

end

/-- Settles O45: a branch by `mem_endCycle_branches`, `pc` by what lands. -/
theorem branchLanding : Obligations.BranchLanding := by
  refine fun s issues seq => ⟨fun b hb k hk => ?_, fun b => mem_endCycle_branches.1, fun a => endCycle_pc_of_lands,
    endCycle_pc_of_none_lands, fun h => ?_⟩
  · exact mem_endCycle_branches.2 (hk ▸ hb)
  · rw [State.endCycle_pc]
    exact nextPc_aligned_of_ne_nil (State.landingTargets_ne_nil h)

/-! The record of branches (60_exceptions.md R495, R497). -/

/-- A branch with `n` cycles to go in the cycle of the latest entry is recorded in the entry of its issue cycle. -/
def RecordedIn (history : List (List Issue)) (n : Nat) (b : PendingBranch) : Prop :=
  b.left ≤ n ∧ ∃ c, history[n - b.left]? = some c ∧ ∃ j ∈ c, j.timing = .branch

theorem branchesRecorded_iff (s : State) :
    BranchesRecorded s ↔ ∀ b ∈ s.branches, s.emptyLeft = b.left + 1 ∨ RecordedIn s.history 4 b := Iff.rfl

theorem RecordedIn.cons {history : List (List Issue)} {n : Nat} {b : PendingBranch} (h : RecordedIn history n b)
    (now : List Issue) : RecordedIn (now :: history) (n + 1) b := by
  obtain ⟨hl, c, hc, hj⟩ := h
  refine ⟨Nat.le_succ_of_le hl, c, ?_, hj⟩
  rwa [Nat.succ_sub hl, List.getElem?_cons_succ]

/-- What a cycle in which `now` issues has to leave for its end, at which every branch comes one cycle nearer. -/
def State.RecordsBranches (s : State) (now : List Issue) : Prop :=
  ∀ b ∈ s.branches, s.emptyLeft = b.left ∨ RecordedIn (now :: s.history) 5 b

theorem State.RecordsBranches.endCycle {s : State} {now : List Issue} (h : s.RecordsBranches now) (seq : Word) :
    BranchesRecorded (s.endCycle now seq) := by
  intro b hb
  rw [State.endCycle_emptyLeft, State.endCycle_history]
  refine (h _ (mem_endCycle_branches.1 hb)).imp_right fun ⟨hl, c, hc, hj⟩ => ?_
  have hl : b.left + 1 ≤ 5 := hl
  have hc : (now :: s.history)[5 - (b.left + 1)]? = some c := hc
  refine ⟨by omega, c, ?_, hj⟩
  rw [List.getElem?_take_of_lt (by omega), ← hc]
  congr 1
  omega

/-- Outside an interrupt entry every branch in flight is recorded. -/
theorem recordedIn_of_branchesRecorded {s : State} (h : BranchesRecorded s) (he : s.emptyLeft = 0) :
    ∀ b ∈ s.branches, RecordedIn s.history 4 b :=
  fun b hb => (h b hb).resolve_left (by omega)

/-- A cycle outside an interrupt entry in which nothing issues. -/
theorem recordsBranches_of_empty {s : State} (h : BranchesRecorded s) (he : s.emptyLeft = 0) :
    s.RecordsBranches [] :=
  fun b hb => .inr ((recordedIn_of_branchesRecorded h he b hb).cons [])

/-- An empty cycle of an interrupt entry: the count falls with the service packet's branch. -/
theorem recordsBranches_of_entry {s : State} (h : BranchesRecorded s) :
    State.RecordsBranches { s with emptyLeft := s.emptyLeft - 1 } [] := by
  intro b hb
  refine (h b hb).imp (fun he => ?_) fun hr => RecordedIn.cons hr []
  show s.emptyLeft - 1 = b.left
  omega

theorem State.takeInterrupt_entry (s : State) (n : Nat) :
    (s.takeInterrupt n).branches = s.branches ++ [⟨s.servicePacket n, 6⟩] ∧ (s.takeInterrupt n).emptyLeft = 6 ∧
      (s.takeInterrupt n).history = s.history := by
  unfold State.takeInterrupt
  dsimp only
  split <;> exact ⟨rfl, rfl, rfl⟩

/-- The first cycle of an interrupt entry: the service packet's branch has the entry's count. -/
theorem recordsBranches_of_interrupt {s : State} (h : BranchesRecorded s) (he : s.emptyLeft = 0) (n : Nat) :
    (s.takeInterrupt n).RecordsBranches [] := by
  obtain ⟨hbranches, hempty, hhistory⟩ := s.takeInterrupt_entry n
  intro b hb
  rw [hempty, hhistory]
  rw [hbranches, List.mem_append, List.mem_singleton] at hb
  rcases hb with hb | rfl
  · exact .inr ((recordedIn_of_branchesRecorded h he b hb).cons [])
  · exact .inl rfl

/-- A cycle in which a packet issues: a branch it adds is recorded with the packet. -/
theorem recordsBranches_of_packet {s u : State} {p : List Instr} (h : BranchesRecorded s) (he : s.emptyLeft = 0)
    (hu : runAll (memoryOrder p) s = .next u) : u.RecordsBranches (p.map issueOf) := by
  intro b hb
  have hhistory : u.history = s.history := by rw [(runAll_issues hu).grows.frame]
  rw [hhistory]
  refine .inr ?_
  rcases mem_runAll_branches hu b hb with hb | ⟨hl, i, hi, hib⟩
  · exact (recordedIn_of_branchesRecorded h he b hb).cons _
  · refine ⟨hl.le, p.map issueOf, ?_, issueOf i, List.mem_map_of_mem (mem_of_mem_memoryOrder hi), hib⟩
    rw [hl]
    rfl

theorem branchesRecorded_warmReset (s : State) : BranchesRecorded s.warmReset :=
  List.forall_mem_nil _

/-- Settles O46: by the kinds of a step (`step_cases`), each of which leaves the record for the end of the cycle
(`State.RecordsBranches`). -/
theorem stepKeepsBranchesRecorded : Obligations.StepKeepsBranchesRecorded := by
  intro s t hs h
  rcases step_cases h with ⟨-, rfl⟩ | ⟨-, -, rfl⟩ | ⟨-, he, n, -, rfl⟩ | ⟨-, he, -, ⟨-, rfl⟩ | ⟨-, -, rfl⟩ |
    ⟨-, -, -, rfl⟩ | ⟨-, -, -, p, u, -, -, hu, rfl⟩⟩
  · exact branchesRecorded_warmReset s
  · exact (recordsBranches_of_entry hs).endCycle _
  · exact (recordsBranches_of_interrupt hs he n).endCycle _
  · exact (recordsBranches_of_empty hs he).endCycle _
  · exact (recordsBranches_of_empty (s := { s with nopLeft := s.nopLeft - 1 }) hs he).endCycle _
  · exact (recordsBranches_of_empty hs he).endCycle _
  · exact (recordsBranches_of_packet hs he hu).endCycle _

/-- A recorded branch is one of the last five cycles'. -/
theorem branchNear_of_recordedIn {s : State} {b : PendingBranch} (h : RecordedIn s.history 4 b) :
    s.branchNear = true := by
  obtain ⟨hl, c, hc, j, hj, hjb⟩ := h
  have hmem : c ∈ s.history.take 5 := List.mem_of_getElem? (i := 4 - b.left) <| by
    rw [List.getElem?_take_of_lt (by omega), hc]
  exact List.any_eq_true.2 ⟨c, hmem, List.any_eq_true.2 ⟨j, hj, by simp [hjb]⟩⟩

theorem interruptToTake_of_branchNear {s : State} (h : s.branchNear = true) : s.interruptToTake = none := by
  simp [State.interruptToTake, State.interruptible, h]

/-- Settles O47: a branch in flight outside an interrupt entry is recorded, and so keeps interrupts away. -/
theorem noInterruptWhileBranchPending : Obligations.NoInterruptWhileBranchPending := by
  refine ⟨List.forall_mem_nil _, fun s n hs he hi => List.eq_nil_iff_forall_not_mem.2 fun b hb => ?_⟩
  have hnear := branchNear_of_recordedIn (recordedIn_of_branchesRecorded hs he b hb)
  rw [interruptToTake_of_branchNear hnear] at hi
  cases hi

/-! Targets (46_branch_nop.md R391 to R394). -/

/-- The fetch packet's address plus four times the displacement. -/
theorem State.pce1_add_displacement (s : State) (d : BitVec 21) :
    s.pce1 + (d.signExtend 32 <<< 2) = word (s.pc.toNat / 32 * 32 + 4 * d.toInt) := by
  have hpce1 : s.pce1 = word (s.pc.toNat / 32 * 32 : Nat) := by
    rw [← word_toNat s.pce1, State.pce1, toNat_append_eq_add, BitVec.extractLsb'_toNat, Nat.shiftRight_eq_div_pow,
      BitVec.toNat_ofNat]
    congr 2
    omega
  have hdisp : d.signExtend 32 <<< 2 = word (4 * d.toInt) := by
    rw [Int.mul_comm]
    exact shiftLeft_eq_ofInt 2 (signExtend_eq_ofInt 32 d)
  rw [hpce1, hdisp, word, word, word, ← BitVec.ofInt_add]
  push_cast
  rfl

/-- Settles O16: each branch queues its target, the two returns a control effect too. -/
theorem branchTargets : Obligations.BranchTargets := by
  refine ⟨fun o s hc => ?disp, fun o s hc => ?reg, fun c s hc => ?irp, fun c s hc => ?nrp⟩
  case disp =>
    rw [← State.pce1_add_displacement]
    exact guarded_of_true _ hc
  case reg =>
    rw [← State.srcX_eq]
    exact guarded_of_true _ hc
  case irp => exact guarded_of_true _ hc
  case nrp => exact guarded_of_true _ hc

/-! Cycles in which nothing issues (46_branch_nop.md R395, R396). -/

theorem step_of_nopLeft {s : State} {n : Nat} (h : Waits s) (hn : s.nopLeft = n + 1) :
    step s = .next { s with nopLeft := n }.quiet := by
  obtain ⟨hr, he, hi, hp⟩ := h
  simp [step, nextCycle, State.runCycle, hr, he, hi, hp, hn]

theorem step_of_idle {s : State} (h : Waits s) (hn : s.nopLeft = 0) (hidle : s.idle = true) :
    step s = .next s.quiet := by
  obtain ⟨hr, he, hi, hp⟩ := h
  simp [step, nextCycle, State.runCycle, hr, he, hi, hp, hn, hidle]

theorem State.quiet_mem (s : State) (h : s.device.externalWriters = false) : s.quiet.mem = s.mem := by
  rw [State.quiet, State.endCycle_mem, State.landExternal_of_none (State.external_of_base h)]

theorem State.quiet_history_head? (s : State) : s.quiet.history.head? = some [] := by
  rw [State.quiet, State.endCycle_history]
  rfl

/-- With no branch landing a quiet cycle leaves `pc` and what the CPU waits for. -/
theorem quiet_of_none_lands {s : State} (hc : s.controls = []) (h : NoBranchLands s) :
    s.quiet.pc = s.pc ∧ s.quiet.nopLeft = s.nopLeft ∧ s.quiet.idle = s.idle := by
  obtain ⟨hnop, hidle⟩ := State.endCycle_waiting (issues := []) (seq := s.pc) hc
  rw [State.landingTargets_of_none h] at hnop hidle
  exact ⟨endCycle_pc_of_none_lands h, hnop, hidle.trans (Bool.and_true _)⟩

/-- A branch that lands ends the wait. -/
theorem quiet_of_lands {s : State} {a : Word} (hc : s.controls = []) (h : BranchLands s a) :
    s.quiet.pc = a ∧ s.quiet.nopLeft = 0 ∧ s.quiet.idle = false := by
  obtain ⟨hnop, hidle⟩ := State.endCycle_waiting (issues := []) (seq := s.pc) hc
  rw [State.landingTargets_of_lands h] at hnop hidle
  exact ⟨endCycle_pc_of_lands h, hnop, hidle.trans (Bool.and_false _)⟩

/-- Settles O44: a waiting cycle is a quiet one, of the state with the count lowered. -/
theorem waitingCycles : Obligations.WaitingCycles := by
  refine ⟨fun k s => rfl, fun s => rfl, fun s => rfl, fun s n hw hn hc => ?nop, fun s hw hn hidle hc => ?idle⟩
  case nop =>
    exact ⟨_, step_of_nopLeft hw hn, State.quiet_mem { s with nopLeft := n }, State.quiet_history_head? _,
      quiet_of_none_lands (s := { s with nopLeft := n }) hc, fun _ => quiet_of_lands (s := { s with nopLeft := n }) hc⟩
  case idle =>
    refine ⟨s.quiet, step_of_idle hw hn hidle, s.quiet_mem, s.quiet_history_head?, fun h => ?_,
      fun _ => quiet_of_lands hc⟩
    rw [← hn, ← hidle]
    exact quiet_of_none_lands hc h

end Sys2Proof.Machine
end

section
/-! The formats, and `round_pack` against the rounding relation (47_float_arith.md R400 to R411). -/

set_option Elab.async false

namespace Sys2Proof.Machine

open Sys2Proof.Claims

/-! The two formats. -/

/-- What the proofs use of single and double precision: the exponent fields of normal numbers are 1 to twice the bias
(R401 to R403), and both widths are large enough for the reciprocal seeds. -/
structure FpFormat.Standard (f : FpFormat) : Prop where
  emax_eq : f.emax = 2 * f.bias + 1
  maxExp_eq : maxExp f = f.bias
  bias_ge : 127 ≤ f.bias
  fracBits_ge : 23 ≤ f.fracBits

theorem FpFormat.standard_of_mem {f : FpFormat} (h : f ∈ [single, double]) : f.Standard := by
  obtain rfl | rfl : f = single ∨ f = double := by simpa using h
  · constructor <;> decide
  · constructor <;> decide

/-! Powers of two. -/

theorem pow2_add (a b : Int) : pow2 (a + b) = pow2 a * pow2 b := zpow_add₀ two_ne_zero a b

theorem pow2_natCast (n : Nat) : pow2 n = ((2 ^ n : Nat) : ℚ) := by
  rw [pow2, zpow_natCast, Nat.cast_pow, Nat.cast_ofNat]

theorem pow2_neg (a : Int) : pow2 (-a) = (pow2 a)⁻¹ := zpow_neg 2 a

theorem pow2_lt_pow2 {a b : Int} : pow2 a < pow2 b ↔ a < b := zpow_lt_zpow_iff_right₀ one_lt_two

theorem pow2_le_pow2 {a b : Int} : pow2 a ≤ pow2 b ↔ a ≤ b := zpow_le_zpow_iff_right₀ one_lt_two

/-! A positive integer scaled to `p` fraction bits. -/

/-- `c` is a quotient, a remainder and a divisor of `man`, the quotient with `p` fraction bits: `man` is the quotient
and the part of one that the remainder is, in units of its bit `p` places below the highest. -/
structure Scaled (man p : Nat) (c : Nat × Nat × Nat) : Prop where
  le_quotient : 2 ^ p ≤ c.1
  quotient_lt : c.1 < 2 ^ (p + 1)
  rem_lt : c.2.1 < c.2.2
  value : (man : ℚ) = (c.1 + c.2.1 / c.2.2) * pow2 (man.log2 - p)

theorem scaled_of_log2_le {man p : Nat} (hman : 0 < man) (h : man.log2 ≤ p) :
    Scaled man p (man * 2 ^ (p - man.log2), 0, 1) where
  le_quotient := calc
    2 ^ p = 2 ^ man.log2 * 2 ^ (p - man.log2) := by rw [← pow_add, Nat.add_sub_cancel' h]
    _ ≤ man * 2 ^ (p - man.log2) := Nat.mul_le_mul_right _ (Nat.log2_self_le hman.ne')
  quotient_lt := calc
    man * 2 ^ (p - man.log2) < 2 ^ (man.log2 + 1) * 2 ^ (p - man.log2) :=
      Nat.mul_lt_mul_of_pos_right Nat.lt_log2_self (Nat.two_pow_pos _)
    _ = 2 ^ (p + 1) := by rw [← pow_add]; congr 1; omega
  rem_lt := one_pos
  value := by
    have hexp : (man.log2 : Int) - p = -((p - man.log2 : Nat) : Int) := by omega
    have hne : ((2 ^ (p - man.log2) : Nat) : ℚ) ≠ 0 := Nat.cast_ne_zero.mpr (Nat.two_pow_pos _).ne'
    rw [hexp, pow2_neg, pow2_natCast, Nat.cast_zero, zero_div, add_zero, Nat.cast_mul, mul_inv_cancel_right₀ hne]

theorem scaled_of_lt_log2 {man p : Nat} (hman : 0 < man) (h : p < man.log2) :
    Scaled man p (man / 2 ^ (man.log2 - p), man % 2 ^ (man.log2 - p), 2 ^ (man.log2 - p)) where
  le_quotient := by
    rw [Nat.le_div_iff_mul_le (Nat.two_pow_pos _), ← pow_add, Nat.add_sub_cancel' h.le]
    exact Nat.log2_self_le hman.ne'
  quotient_lt := by
    have hexp : p + 1 + (man.log2 - p) = man.log2 + 1 := by omega
    rw [Nat.div_lt_iff_lt_mul (Nat.two_pow_pos _), ← pow_add, hexp]
    exact Nat.lt_log2_self
  rem_lt := Nat.mod_lt _ (Nat.two_pow_pos _)
  value := by
    have hexp : (man.log2 : Int) - p = ((man.log2 - p : Nat) : Int) := by omega
    have hne : ((2 ^ (man.log2 - p) : Nat) : ℚ) ≠ 0 := Nat.cast_ne_zero.mpr (Nat.two_pow_pos _).ne'
    rw [hexp, pow2_natCast, add_mul, div_mul_cancel₀ _ hne, ← Nat.cast_mul, ← Nat.cast_add, Nat.div_add_mod']

theorem scaled_scaleTo {man : Nat} (hman : 0 < man) (p : Nat) : Scaled man p (scaleTo man p) := by
  unfold scaleTo
  split
  · exact scaled_of_log2_le hman ‹_›
  · exact scaled_of_lt_log2 hman (not_le.mp ‹_›)

/-! The rounded quotient in each mode (R411 step 1). -/

/-- The quotient after rounding. -/
def roundedQuotient (m : FpMode) (neg : Bool) (c : Nat × Nat × Nat) : Nat :=
  if roundsUp m neg c.1 c.2.1 c.2.2 then c.1 + 1 else c.1

/-- A mode that drops the bits that are cut off, for this sign. -/
def RoundsTowardZero (m : FpMode) (neg : Bool) : Prop :=
  m.rm = 1#2 ∨ m.rm = 2#2 ∧ neg = true ∨ m.rm = 3#2 ∧ neg = false

/-- A mode that rounds every inexact value of this sign away from zero. -/
def RoundsAwayFromZero (m : FpMode) (neg : Bool) : Prop := m.rm = 2#2 ∧ neg = false ∨ m.rm = 3#2 ∧ neg = true

theorem FpMode.rounding_cases (m : FpMode) (neg : Bool) :
    m.rm = 0#2 ∨ RoundsTowardZero m neg ∨ RoundsAwayFromZero m neg := by
  have hrm (r : BitVec 2) : r = 0#2 ∨ r = 1#2 ∨ r = 2#2 ∨ r = 3#2 := by revert r; decide
  unfold RoundsTowardZero RoundsAwayFromZero
  obtain h | h | h | h := hrm m.rm <;> cases neg <;> simp [h]

section
variable {m : FpMode} {neg : Bool} {q rem d : Nat}

theorem roundsUp_nearest (h : m.rm = 0#2) : roundsUp m neg q rem d = true ↔
    d < 2 * rem ∨ 2 * rem = d ∧ rem ≠ 0 ∧ (m.tie = .toEven → q % 2 = 1) := by
  rw [roundsUp, if_pos h]
  cases m.tie <;> simp [and_assoc]

theorem roundsUp_towardZero (h : RoundsTowardZero m neg) : roundsUp m neg q rem d = false := by
  obtain h | ⟨h, rfl⟩ | ⟨h, rfl⟩ := h <;> simp [roundsUp, h]

theorem roundsUp_awayFromZero (h : RoundsAwayFromZero m neg) : roundsUp m neg q rem d = (rem != 0) := by
  obtain ⟨h, rfl⟩ | ⟨h, rfl⟩ := h <;> simp [roundsUp, h]

theorem roundedQuotient_of_up (h : roundsUp m neg q rem d = true) : roundedQuotient m neg (q, rem, d) = q + 1 :=
  if_pos h

theorem roundedQuotient_of_not_up (h : roundsUp m neg q rem d = false) : roundedQuotient m neg (q, rem, d) = q :=
  if_neg (by rw [h]; exact Bool.false_ne_true)

end

/-- Truncation leaves less than one unit. -/
theorem truncated_bounds {t u : ℚ} (q : Nat) (ht : 0 ≤ t) (ht1 : t < 1) (hu : 0 < u) :
    q * u ≤ (q + t) * u ∧ (q + t) * u < q * u + u := by
  constructor <;> nlinarith

theorem distance_to_quotient {t u : ℚ} (q : Nat) (ht : 0 ≤ t) (hu : 0 < u) : |(q + t) * u - q * u| = t * u := by
  rw [← sub_mul, add_sub_cancel_left, abs_of_nonneg (mul_nonneg ht hu.le)]

theorem distance_to_next {t u : ℚ} (q : Nat) (ht1 : t < 1) (hu : 0 < u) :
    |(q + t) * u - (q + 1 : Nat) * u| = (1 - t) * u := by
  rw [← sub_mul, abs_mul, abs_of_pos hu, Nat.cast_succ, add_sub_add_left_eq_sub, abs_sub_comm,
    abs_of_pos (sub_pos.mpr ht1)]

/-- Rounding away from zero adds less than one unit. -/
theorem roundedAway_bounds {t u : ℚ} (q : Nat) (ht : 0 < t) (ht1 : t < 1) (hu : 0 < u) :
    (q + t) * u ≤ (q + 1 : Nat) * u ∧ (q + 1 : Nat) * u < (q + t) * u + u := by
  push_cast
  constructor <;> nlinarith

/-! The rounded quotient is what the rounding relation asks for. -/

section
variable {m : FpMode} {neg : Bool} {p n : Nat} {x : ℚ} {e : Int}

theorem roundsTo_nearest (h : m.rm = 0#2) (hle : |x - n * pow2 (e - p)| ≤ pow2 (e - p) / 2)
    (heven : |x - n * pow2 (e - p)| = pow2 (e - p) / 2 → m.tie = .toEven → n % 2 = 0)
    (haway : |x - n * pow2 (e - p)| = pow2 (e - p) / 2 → m.tie = .awayFromZero → x < n * pow2 (e - p)) :
    RoundsTo m neg p x e n := by
  rw [RoundsTo, if_pos h]
  refine ⟨hle, fun htie => ?_⟩
  cases ht : m.tie with
  | toEven => exact heven htie ht
  | awayFromZero => exact haway htie ht

theorem roundsTo_towardZero (h : RoundsTowardZero m neg) (hle : n * pow2 (e - p) ≤ x)
    (hlt : x < n * pow2 (e - p) + pow2 (e - p)) : RoundsTo m neg p x e n := by
  obtain h | ⟨h, rfl⟩ | ⟨h, rfl⟩ := h <;> simpa [RoundsTo, h] using ⟨hle, hlt⟩

theorem roundsTo_awayFromZero (h : RoundsAwayFromZero m neg) (hle : x ≤ n * pow2 (e - p))
    (hlt : n * pow2 (e - p) < x + pow2 (e - p)) : RoundsTo m neg p x e n := by
  obtain ⟨h, rfl⟩ | ⟨h, rfl⟩ := h <;> simpa [RoundsTo, h] using ⟨hle, hlt⟩

end

section
variable {m : FpMode} {neg : Bool} {q rem d : Nat} (hrem : rem < d) (p : Nat) (e : Int)
include hrem

theorem remainder_fraction_lt_one : (rem : ℚ) / d < 1 := by
  rw [div_lt_one (Nat.cast_pos.mpr (by omega))]
  exact Nat.cast_lt.mpr hrem

theorem half_lt_remainder_fraction : 1 / 2 < (rem : ℚ) / d ↔ d < 2 * rem := by
  rw [div_lt_div_iff₀ two_pos (Nat.cast_pos.mpr (by omega)), one_mul, mul_comm]
  exact_mod_cast Iff.rfl

theorem remainder_fraction_eq_half : (rem : ℚ) / d = 1 / 2 ↔ 2 * rem = d := by
  have hd : (d : ℚ) ≠ 0 := Nat.cast_ne_zero.mpr (by omega)
  rw [div_eq_div_iff hd two_ne_zero, one_mul, mul_comm]
  exact_mod_cast Iff.rfl

/-- To nearest: half a unit decides, and a tie goes by the tie rule. -/
theorem roundsTo_roundedQuotient_nearest (h : m.rm = 0#2) :
    RoundsTo m neg p ((q + rem / d : ℚ) * pow2 (e - p)) e (roundedQuotient m neg (q, rem, d)) := by
  have hu := pow2_pos (e - p)
  have ht1 := remainder_fraction_lt_one hrem
  have ht : 0 ≤ (rem : ℚ) / d := by positivity
  have hhalf := half_lt_remainder_fraction hrem
  have htie := remainder_fraction_eq_half hrem
  by_cases hup : roundsUp m neg q rem d = true
  · have hge : 1 / 2 ≤ (rem : ℚ) / d := by
      obtain hgt | ⟨heq, -⟩ := (roundsUp_nearest h).mp hup
      · exact (hhalf.mpr hgt).le
      · exact (htie.mpr heq).ge
    rw [roundedQuotient_of_up hup]
    refine roundsTo_nearest h ?_ (fun hdist hm => ?_) fun _ _ => ?_
    · rw [distance_to_next q ht1 hu]
      nlinarith
    · rw [distance_to_next q ht1 hu] at hdist
      have heq : 2 * rem = d := htie.mp (by nlinarith)
      obtain hgt | ⟨-, -, heven⟩ := (roundsUp_nearest h).mp hup
      · omega
      · have hodd := heven hm
        omega
    · push_cast
      nlinarith
  · have hnot := mt (roundsUp_nearest h).mpr hup
    have hle : (rem : ℚ) / d ≤ 1 / 2 := not_lt.mp fun hlt => hnot (Or.inl (hhalf.mp hlt))
    rw [roundedQuotient_of_not_up (Bool.eq_false_iff.mpr hup)]
    refine roundsTo_nearest h ?_ (fun hdist hm => ?_) fun hdist hm => ?_
    · rw [distance_to_quotient q ht hu]
      nlinarith
    · rw [distance_to_quotient q ht hu] at hdist
      have heq : 2 * rem = d := htie.mp (by nlinarith)
      by_contra hodd
      exact hnot (Or.inr ⟨heq, by omega, fun _ => by omega⟩)
    · rw [distance_to_quotient q ht hu] at hdist
      have heq : 2 * rem = d := htie.mp (by nlinarith)
      exact absurd (Or.inr ⟨heq, by omega, fun heven => by rw [hm] at heven; exact nomatch heven⟩) hnot

/-- The quotient and the part of a unit that the remainder is, rounded. -/
theorem roundsTo_roundedQuotient :
    RoundsTo m neg p ((q + rem / d : ℚ) * pow2 (e - p)) e (roundedQuotient m neg (q, rem, d)) := by
  have hu := pow2_pos (e - p)
  have ht1 := remainder_fraction_lt_one hrem
  have ht : 0 ≤ (rem : ℚ) / d := by positivity
  obtain h | h | h := m.rounding_cases neg
  · exact roundsTo_roundedQuotient_nearest hrem p e h
  · obtain ⟨hle, hlt⟩ := truncated_bounds q ht ht1 hu
    rw [roundedQuotient_of_not_up (roundsUp_towardZero h)]
    exact roundsTo_towardZero h hle hlt
  · obtain rfl | hpos := Nat.eq_zero_or_pos rem
    · rw [roundedQuotient_of_not_up (roundsUp_awayFromZero h)]
      exact roundsTo_awayFromZero h (by simp) (by simpa using hu)
    · have hfrac : 0 < (rem : ℚ) / d := div_pos (Nat.cast_pos.mpr hpos) (Nat.cast_pos.mpr (by omega))
      obtain ⟨hle, hlt⟩ := roundedAway_bounds q hfrac ht1 hu
      rw [roundedQuotient_of_up ((roundsUp_awayFromZero h).trans (bne_iff_ne.mpr hpos.ne'))]
      exact roundsTo_awayFromZero h hle hlt

end

/-! `round_pack` in terms of the rounded quotient. -/

section
variable (f : FpFormat) (m : FpMode) (neg : Bool)

/-- The exponent after rounding: a carry out of the highest bit adds one. -/
def carriedExp (p n : Nat) (e : Int) : Int := if n = 2 ^ (p + 1) then e + 1 else e

/-- The fraction after rounding. -/
def carriedFrac (p n : Nat) : Nat := if n = 2 ^ (p + 1) then 0 else n - 2 ^ p

/-- The exponent that the underflow test looks at (R410). -/
def testedExp (m : FpMode) (e e' : Int) : Int :=
  match m.tiny with
  | .afterRounding => e'
  | .beforeRounding => e

/-- The result from the exact exponent, the rounded quotient and whether bits were cut off (R411 steps 2 to 4). -/
def packRounded (e : Int) (n : Nat) (inexact : Bool) : FpResult :=
  if (f.bias : Int) < carriedExp f.fracBits n e then overflowResult f m neg
  else if testedExp m e (carriedExp f.fracBits n e) < 1 - (f.bias : Int) then underflowResult f m neg
  else ⟨packFields f neg (carriedExp f.fracBits n e + f.bias).toNat (carriedFrac f.fracBits n),
    warnIf inexact warnInex⟩

theorem roundPack_eq (man : Nat) (exp : Int) : roundPack f m neg man exp =
    packRounded f m neg (man.log2 + exp) (roundedQuotient m neg (scaleTo man f.fracBits))
      ((scaleTo man f.fracBits).2.1 != 0) := by
  have hcarry (n : Nat) (e : Int) :
      (if (n == 2 ^ (f.fracBits + 1)) = true then e + 1 else e) = carriedExp f.fracBits n e := by
    simp only [beq_iff_eq, carriedExp]
  have hfrac (n : Nat) :
      (if (n == 2 ^ (f.fracBits + 1)) = true then 0 else n - 2 ^ f.fracBits) = carriedFrac f.fracBits n := by
    simp only [beq_iff_eq, carriedFrac]
  rw [packRounded, ← hcarry, ← hfrac]
  rfl

end

section
variable {f : FpFormat} {m : FpMode} {neg : Bool} {e : Int} {n : Nat} {inexact : Bool}

theorem packRounded_of_over (h : (f.bias : Int) < carriedExp f.fracBits n e) :
    packRounded f m neg e n inexact = overflowResult f m neg := if_pos h

theorem packRounded_of_under (hover : ¬ (f.bias : Int) < carriedExp f.fracBits n e)
    (h : testedExp m e (carriedExp f.fracBits n e) < 1 - f.bias) :
    packRounded f m neg e n inexact = underflowResult f m neg := (if_neg hover).trans (if_pos h)

theorem packRounded_of_normal (hover : ¬ (f.bias : Int) < carriedExp f.fracBits n e)
    (h : ¬ testedExp m e (carriedExp f.fracBits n e) < 1 - f.bias) : packRounded f m neg e n inexact =
      ⟨packFields f neg (carriedExp f.fracBits n e + f.bias).toNat (carriedFrac f.fracBits n),
        warnIf inexact warnInex⟩ :=
  (if_neg hover).trans (if_neg h)

end

theorem overflowResult_eq (f : FpFormat) (m : FpMode) (neg : Bool) : overflowResult f m neg =
    if m.rm = 0#2 ∨ (m.rm = 2#2 ∧ neg = false) ∨ (m.rm = 3#2 ∧ neg = true) then
      ⟨infinity f neg, overBit ||| inex ||| bitIf m.infoOnOverflow info⟩
    else ⟨pattern f neg (2 ^ f.expBits - 2) (2 ^ f.fracBits - 1), overBit ||| inex⟩ := by
  rw [infinity_eq_packInf, pattern_eq_packFields]
  rfl

theorem underflowResult_eq (f : FpFormat) (m : FpMode) (neg : Bool) : underflowResult f m neg =
    ⟨if (m.rm = 2#2 ∧ neg = false) ∨ (m.rm = 3#2 ∧ neg = true) then pattern f neg 1 0 else pattern f neg 0 0,
      under ||| inex⟩ := by
  rw [pattern_eq_packFields, pattern_eq_packFields, underflowResult]
  split <;> rfl

/-! The exact value between two powers of two, and when it is kept. -/

theorem pow2_log2_le_value {man : Nat} (hman : 0 < man) (exp : Int) : pow2 (man.log2 + exp) ≤ man * pow2 exp := by
  rw [pow2_add, pow2_natCast]
  exact mul_le_mul_of_nonneg_right (Nat.cast_le.mpr (Nat.log2_self_le hman.ne')) (pow2_pos exp).le

theorem value_lt_pow2_log2 (man : Nat) (exp : Int) : man * pow2 exp < pow2 (man.log2 + exp + 1) := by
  have hexp : (man.log2 : Int) + exp + 1 = (man.log2 + 1 : Nat) + exp := by push_cast; ring
  rw [hexp, pow2_add, pow2_natCast]
  exact mul_lt_mul_of_pos_right (Nat.cast_lt.mpr Nat.lt_log2_self) (pow2_pos exp)

theorem Scaled.value_mul_pow2 {man p : Nat} {c : Nat × Nat × Nat} (h : Scaled man p c) (exp : Int) :
    man * pow2 exp = (c.1 + c.2.1 / c.2.2) * pow2 (man.log2 + exp - p) := by
  have hexp : (man.log2 : Int) + exp - p = (man.log2 - p) + exp := by ring
  rw [hexp, pow2_add, ← mul_assoc, ← h.value]

theorem roundsUp_of_exact {m : FpMode} {neg : Bool} {q d : Nat} (hd : 0 < d) : roundsUp m neg q 0 d = false := by
  obtain h | h | h := m.rounding_cases neg
  · rw [Bool.eq_false_iff, Ne, roundsUp_nearest h]
    omega
  · exact roundsUp_towardZero h
  · exact roundsUp_awayFromZero h

/-- Rounding changes the quotient exactly when bits are cut off. -/
theorem roundedQuotient_eq_iff {m : FpMode} {neg : Bool} {q rem d : Nat} (h : rem < d) :
    (roundedQuotient m neg (q, rem, d) : ℚ) = q + rem / d ↔ rem = 0 := by
  have ht1 := remainder_fraction_lt_one h
  constructor
  · intro heq
    by_contra hne
    have ht : 0 < (rem : ℚ) / d := div_pos (Nat.cast_pos.mpr (by omega)) (Nat.cast_pos.mpr (by omega))
    by_cases hup : roundsUp m neg q rem d = true
    · rw [roundedQuotient_of_up hup, Nat.cast_succ] at heq
      linarith
    · rw [roundedQuotient_of_not_up (Bool.eq_false_iff.mpr hup)] at heq
      linarith
  · rintro rfl
    rw [roundedQuotient_of_not_up (roundsUp_of_exact h), Nat.cast_zero, zero_div, add_zero]

theorem inexact_eq_decide {m : FpMode} {neg : Bool} {man p : Nat} {c : Nat × Nat × Nat} (h : Scaled man p c)
    (exp : Int) :
    (c.2.1 != 0) = decide (roundedQuotient m neg c * pow2 (man.log2 + exp - p) ≠ man * pow2 exp) := by
  rw [h.value_mul_pow2, Bool.eq_iff_iff, bne_iff_ne, decide_eq_true_iff, not_iff_not,
    mul_left_inj' (pow2_pos _).ne', roundedQuotient_eq_iff h.rem_lt]

theorem rounded_roundPack {f : FpFormat} (hf : f.Standard) (m : FpMode) (neg : Bool) {man : Nat} (hman : 0 < man)
    (exp : Int) : Rounded f m neg (man * pow2 exp) (roundPack f m neg man exp) := by
  have hscaled := scaled_scaleTo hman f.fracBits
  refine ⟨man.log2 + exp, roundedQuotient m neg (scaleTo man f.fracBits), pow2_log2_le_value hman exp,
    value_lt_pow2_log2 man exp, ?_, ?_⟩
  · rw [hscaled.value_mul_pow2]
    exact roundsTo_roundedQuotient hscaled.rem_lt ..
  · rw [roundPack_eq, inexact_eq_decide (m := m) (neg := neg) hscaled exp, hf.maxExp_eq]
    generalize roundedQuotient m neg (scaleTo man f.fracBits) = n
    generalize (man.log2 : Int) + exp = e
    change if (f.bias : Int) < carriedExp f.fracBits n e then _ else
      if testedExp m e (carriedExp f.fracBits n e) < 1 - f.bias then _ else _
    split
    case isTrue hover => exact (packRounded_of_over hover).trans (overflowResult_eq f m neg)
    case isFalse hover =>
      split
      case isTrue hunder => exact (packRounded_of_under hover hunder).trans (underflowResult_eq f m neg)
      case isFalse hunder =>
        rw [packRounded_of_normal hover hunder, pattern_eq_packFields]
        rfl

/-- Settles O56: the formats are standard ones, and `round_pack` rounds in every such format. -/
theorem floatRounding : Obligations.FloatRounding := by
  intro f hf m neg man exp hman
  exact rounded_roundPack (FpFormat.standard_of_mem hf) m neg hman exp

end Sys2Proof.Machine
end

section
/-! ABS, RCP and RSQR (47_float_arith.md R434 to R439): the fields of a pattern, the patterns of normal numbers, and
the reciprocal seeds, which are close whatever the tables hold. -/

set_option Elab.async false

namespace Sys2Proof.Machine

open Sys2Proof.Claims

/-! The fields of a pattern (R401 to R403). -/

/-- The fraction field. -/
def fracField (f : FpFormat) (b : Nat) : Nat := b % 2 ^ f.fracBits

/-- The exponent field. -/
def expField (f : FpFormat) (b : Nat) : Nat := b / 2 ^ f.fracBits % 2 ^ f.expBits

/-- The sign. -/
def signField (f : FpFormat) (b : Nat) : Bool := b / 2 ^ (f.fracBits + f.expBits) % 2 == 1

theorem fracField_lt (f : FpFormat) (b : Nat) : fracField f b < 2 ^ f.fracBits := Nat.mod_lt _ (Nat.two_pow_pos _)

theorem expField_lt (f : FpFormat) (b : Nat) : expField f b < 2 ^ f.expBits := Nat.mod_lt _ (Nat.two_pow_pos _)

theorem fracField_mod {f : FpFormat} {k : Nat} (hk : f.fracBits ≤ k) (b : Nat) :
    fracField f (b % 2 ^ k) = fracField f b :=
  Nat.mod_mod_of_dvd _ (pow_dvd_pow 2 hk)

theorem expField_mod {f : FpFormat} {k : Nat} (hk : f.fracBits + f.expBits ≤ k) (b : Nat) :
    expField f (b % 2 ^ k) = expField f b := by
  obtain ⟨d, rfl⟩ := Nat.exists_eq_add_of_le hk
  rw [expField, add_assoc, pow_add, Nat.mod_mul_right_div_self, expField,
    Nat.mod_mod_of_dvd _ (pow_dvd_pow 2 (Nat.le_add_right ..))]

theorem unpack_eq (f : FpFormat) (b : Nat) : unpack f b =
    if expField f b = f.emax then
      if fracField f b = 0 then .inf (signField f b)
      else .nan (signField f b) (decide (fracField f b < 2 ^ (f.fracBits - 1)))
    else if expField f b = 0 then if fracField f b = 0 then .zero (signField f b) else .denormal (signField f b)
    else .normal (signField f b) (2 ^ f.fracBits + fracField f b) ((expField f b : Int) - f.bias - f.fracBits) := rfl

section
variable {f : FpFormat} {neg : Bool} {e frac : Nat}

theorem packFields_eq_mul_add (f : FpFormat) (neg : Bool) (e frac : Nat) :
    packFields f neg e frac = (neg.toNat * 2 ^ f.expBits + e) * 2 ^ f.fracBits + frac := by
  cases neg with
  | false => simp [packFields]
  | true => simp only [packFields, if_true, Bool.toNat_true]; ring

theorem packFields_div (hfrac : frac < 2 ^ f.fracBits) :
    packFields f neg e frac / 2 ^ f.fracBits = neg.toNat * 2 ^ f.expBits + e := by
  rw [packFields_eq_mul_add, Nat.add_comm, Nat.add_mul_div_right _ _ (Nat.two_pow_pos _), Nat.div_eq_of_lt hfrac,
    Nat.zero_add]

theorem fracField_packFields (hfrac : frac < 2 ^ f.fracBits) : fracField f (packFields f neg e frac) = frac := by
  rw [fracField, packFields_eq_mul_add, Nat.mul_add_mod_of_lt hfrac]

theorem expField_packFields (he : e < 2 ^ f.expBits) (hfrac : frac < 2 ^ f.fracBits) :
    expField f (packFields f neg e frac) = e := by
  rw [expField, packFields_div hfrac, Nat.mul_add_mod_of_lt he]

theorem signField_packFields (he : e < 2 ^ f.expBits) (hfrac : frac < 2 ^ f.fracBits) :
    signField f (packFields f neg e frac) = neg := by
  rw [signField, pow_add, ← Nat.div_div_eq_div_mul, packFields_div hfrac, Nat.add_comm,
    Nat.add_mul_div_right _ _ (Nat.two_pow_pos _), Nat.div_eq_of_lt he]
  cases neg <;> rfl

theorem packFields_lt (he : e < 2 ^ f.expBits) (hfrac : frac < 2 ^ f.fracBits) :
    packFields f neg e frac < 2 ^ (f.fracBits + f.expBits + 1) := by
  have hneg := Bool.toNat_le neg
  have hhigh : neg.toNat * 2 ^ f.expBits + e + 1 ≤ 2 * 2 ^ f.expBits := by nlinarith
  calc packFields f neg e frac
      = (neg.toNat * 2 ^ f.expBits + e) * 2 ^ f.fracBits + frac := packFields_eq_mul_add ..
    _ < (neg.toNat * 2 ^ f.expBits + e + 1) * 2 ^ f.fracBits := by rw [Nat.succ_mul]; omega
    _ ≤ 2 * 2 ^ f.expBits * 2 ^ f.fracBits := Nat.mul_le_mul_right _ hhigh
    _ = 2 ^ (f.fracBits + f.expBits + 1) := by ring

theorem packFields_mod (he : e < 2 ^ f.expBits) (hfrac : frac < 2 ^ f.fracBits) :
    packFields f neg e frac % 2 ^ (f.fracBits + f.expBits) = packFields f false e frac := by
  have hlt : e * 2 ^ f.fracBits + frac < 2 ^ (f.fracBits + f.expBits) := calc
    e * 2 ^ f.fracBits + frac < (e + 1) * 2 ^ f.fracBits := by rw [Nat.succ_mul]; omega
    _ ≤ 2 ^ f.expBits * 2 ^ f.fracBits := Nat.mul_le_mul_right _ he
    _ = 2 ^ (f.fracBits + f.expBits) := by ring
  have hsign : packFields f neg e frac =
      e * 2 ^ f.fracBits + frac + 2 ^ (f.fracBits + f.expBits) * neg.toNat := by
    rw [packFields_eq_mul_add]; ring
  have hplain : packFields f false e frac = e * 2 ^ f.fracBits + frac := by
    rw [packFields_eq_mul_add, Bool.toNat_false, Nat.zero_mul, Nat.zero_add]
  rw [hsign, Nat.add_mul_mod_self_left, Nat.mod_eq_of_lt hlt, hplain]

end

/-! The patterns of normal numbers. -/

/-- The mantissa has its highest bit at the fraction width, and the exponent is one of a normal number. -/
structure IsNormal (f : FpFormat) (man : Nat) (exp : Int) : Prop where
  le_man : 2 ^ f.fracBits ≤ man
  man_lt : man < 2 ^ (f.fracBits + 1)
  le_exp : 1 - (f.bias : Int) ≤ exp + f.fracBits
  exp_le : exp + f.fracBits ≤ f.bias

/-- `b` is a pattern of the format's width, that of the normal number `± man * 2 ^ exp`. -/
structure NormalBits (f : FpFormat) (neg : Bool) (man : Nat) (exp : Int) (b : Nat) : Prop where
  unpack_eq : unpack f b = .normal neg man exp
  fits : b < 2 ^ (f.fracBits + f.expBits + 1)

section
variable {f : FpFormat} {neg : Bool} {man : Nat} {exp : Int} {b : Nat}

theorem unpack_eq_normal_iff : unpack f b = .normal neg man exp ↔
    expField f b ≠ f.emax ∧ expField f b ≠ 0 ∧ signField f b = neg ∧ 2 ^ f.fracBits + fracField f b = man ∧
      (expField f b : Int) - f.bias - f.fracBits = exp := by
  rw [unpack_eq]
  split_ifs <;> simp [*]

theorem isNormal_of_unpack (hf : f.Standard) (h : unpack f b = .normal neg man exp) : IsNormal f man exp := by
  obtain ⟨hemax, hzero, -, rfl, rfl⟩ := unpack_eq_normal_iff.mp h
  have hfrac := fracField_lt f b
  have hexp := expField_lt f b
  have htop := hf.emax_eq
  have hdef : f.emax = 2 ^ f.expBits - 1 := rfl
  constructor <;> omega

theorem normalBits_packFields (hf : f.Standard) (neg : Bool) (h : IsNormal f man exp) :
    NormalBits f neg man exp (packFields f neg (exp + f.fracBits + f.bias).toNat (man - 2 ^ f.fracBits)) := by
  obtain ⟨hman, hlt, hlow, hhigh⟩ := h
  have htop := hf.emax_eq
  have hdef : f.emax = 2 ^ f.expBits - 1 := rfl
  have he : (exp + f.fracBits + f.bias).toNat < 2 ^ f.expBits := by omega
  have hfrac : man - 2 ^ f.fracBits < 2 ^ f.fracBits := by omega
  refine ⟨unpack_eq_normal_iff.mpr ?_, packFields_lt he hfrac⟩
  rw [expField_packFields he hfrac, fracField_packFields hfrac, signField_packFields he hfrac]
  refine ⟨?_, ?_, rfl, ?_, ?_⟩ <;> omega

/-- The bits above the format's width play no part. -/
theorem normalBits_mod (h : unpack f b = .normal neg man exp) :
    NormalBits f neg man exp (b % 2 ^ (f.fracBits + f.expBits + 1)) := by
  refine ⟨?_, Nat.mod_lt _ (Nat.two_pow_pos _)⟩
  have hsign : signField f (b % 2 ^ (f.fracBits + f.expBits + 1)) = signField f b := by
    rw [signField, pow_succ, Nat.mod_mul_right_div_self, Nat.mod_mod, signField]
  rw [unpack_eq, fracField_mod (by omega), expField_mod (Nat.le_succ _), hsign, ← unpack_eq, h]

end

/-! The accuracy test of the seeds: a product `p * 2 ^ e` against bounds with a common denominator. -/

/-- `p * 2 ^ e` lies between `lo / unit` and `hi / unit`; products that are integers are refused. -/
def productWithin (lo unit hi : Int) (p : Nat) (e : Int) : Bool :=
  match e with
  | .ofNat _ => false
  | .negSucc k => decide (2 ^ (k + 1) * lo < p * unit) && decide (p * unit < 2 ^ (k + 1) * hi)

theorem reciprocalClose_eq (m1 : Nat) (e1 : Int) (m2 : Nat) (e2 : Int) :
    reciprocalClose m1 e1 m2 e2 = productWithin 255 256 257 (m1 * m2) (e1 + e2) := by
  unfold reciprocalClose productWithin
  cases e1 + e2 <;> rfl

theorem rsqrtClose_eq (m1 : Nat) (e1 : Int) (m2 : Nat) (e2 : Int) :
    rsqrtClose m1 e1 m2 e2 = productWithin (255 ^ 2) (256 ^ 2) (257 ^ 2) (m1 * (m2 * m2)) (e1 + 2 * e2) := by
  unfold rsqrtClose productWithin
  cases e1 + 2 * e2 <;> rfl

theorem productWithin_iff {lo unit hi : Int} {p : Nat} {e : Int} : productWithin lo unit hi p e = true ↔
    ∃ j : Nat, 0 < j ∧ e = -j ∧ 2 ^ j * lo < p * unit ∧ p * unit < 2 ^ j * hi := by
  cases e with
  | ofNat n => exact ⟨nofun, fun ⟨j, hj, he, _⟩ => by rw [Int.ofNat_eq_natCast] at he; omega⟩
  | negSucc k =>
    rw [productWithin, Bool.and_eq_true, decide_eq_true_iff, decide_eq_true_iff]
    constructor
    · exact fun ⟨hlo, hhi⟩ => ⟨k + 1, Nat.succ_pos k, Int.negSucc_eq k, hlo, hhi⟩
    · rintro ⟨j, -, he, hlo, hhi⟩
      obtain rfl : j = k + 1 := by omega
      exact ⟨hlo, hhi⟩

/-- The test in rational numbers. -/
theorem bounds_of_productWithin {lo unit hi : Int} (hunit : 0 < unit) {p : Nat} {e : Int}
    (h : productWithin lo unit hi p e = true) :
    (lo / unit : ℚ) < p * pow2 e ∧ p * pow2 e < (hi / unit : ℚ) := by
  obtain ⟨j, -, rfl, hlo, hhi⟩ := productWithin_iff.mp h
  have hu : (0 : ℚ) < unit := Int.cast_pos.mpr hunit
  have hj : (0 : ℚ) < 2 ^ j := by positivity
  rw [pow2_neg, pow2_natCast, ← div_eq_mul_inv, Nat.cast_pow, Nat.cast_ofNat, div_lt_div_iff₀ hu hj,
    div_lt_div_iff₀ hj hu, mul_comm (lo : ℚ), mul_comm (hi : ℚ)]
  exact ⟨by exact_mod_cast hlo, by exact_mod_cast hhi⟩

theorem abs_product_sub_one_lt {m1 m2 : Nat} {e1 e2 : Int} (h : reciprocalClose m1 e1 m2 e2 = true) :
    |(m1 : ℚ) * pow2 e1 * (m2 * pow2 e2) - 1| < 1 / 2 ^ 8 := by
  rw [reciprocalClose_eq] at h
  have hprod : (m1 : ℚ) * pow2 e1 * (m2 * pow2 e2) = (m1 * m2 : Nat) * pow2 (e1 + e2) := by
    rw [pow2_add, Nat.cast_mul]; ring
  obtain ⟨hlo, hhi⟩ := bounds_of_productWithin (by norm_num) h
  rw [hprod, abs_lt]
  constructor
  · norm_num at hlo ⊢; linarith
  · norm_num at hhi ⊢; linarith

theorem square_product_bounds {m1 m2 : Nat} {e1 e2 : Int} (h : rsqrtClose m1 e1 m2 e2 = true) :
    (255 / 256 : ℚ) ^ 2 < ((m2 : ℚ) * pow2 e2) ^ 2 * (m1 * pow2 e1) ∧
      ((m2 : ℚ) * pow2 e2) ^ 2 * (m1 * pow2 e1) < (257 / 256 : ℚ) ^ 2 := by
  rw [rsqrtClose_eq] at h
  have hprod : ((m2 : ℚ) * pow2 e2) ^ 2 * (m1 * pow2 e1) = (m1 * (m2 * m2) : Nat) * pow2 (e1 + 2 * e2) := by
    rw [pow2_add, two_mul, pow2_add, Nat.cast_mul, Nat.cast_mul]; ring
  obtain ⟨hlo, hhi⟩ := bounds_of_productWithin (by norm_num) h
  simp only [Int.cast_pow, Int.cast_ofNat] at hlo hhi
  rw [hprod, div_pow, div_pow]
  exact ⟨hlo, hhi⟩

/-! RCP of a normal number (R436). -/

theorem reciprocalClose_of_nat {m1 m2 j : Nat} {e1 e2 : Int} (hj : 0 < j) (he : e1 + e2 = -j)
    (hlo : 2 ^ j * 255 < m1 * m2 * 256) (hhi : m1 * m2 * 256 < 2 ^ j * 257) : reciprocalClose m1 e1 m2 e2 = true := by
  rw [reciprocalClose_eq, productWithin_iff]
  exact ⟨j, hj, he, by exact_mod_cast hlo, by exact_mod_cast hhi⟩

section
variable {f : FpFormat} {man : Nat} {exp : Int}

theorem le_reciprocalMan (hlt : man < 2 ^ (f.fracBits + 1)) (hpos : 0 < man) :
    2 ^ f.fracBits ≤ reciprocalMan f man := by
  rw [reciprocalMan, Nat.le_div_iff_mul_le hpos]
  calc 2 ^ f.fracBits * man ≤ 2 ^ f.fracBits * 2 ^ (f.fracBits + 1) := Nat.mul_le_mul_left _ hlt.le
    _ = 2 ^ (2 * f.fracBits + 1) := by ring

theorem reciprocalMan_lt (hlt : 2 ^ f.fracBits < man) : reciprocalMan f man < 2 ^ (f.fracBits + 1) := by
  rw [reciprocalMan, Nat.div_lt_iff_lt_mul (Nat.zero_lt_of_lt hlt)]
  calc 2 ^ (2 * f.fracBits + 1) = 2 ^ (f.fracBits + 1) * 2 ^ f.fracBits := by ring
    _ < 2 ^ (f.fracBits + 1) * man := Nat.mul_lt_mul_of_pos_left hlt (Nat.two_pow_pos _)

/-- Truncation of the quotient costs less than `man` of the product. -/
theorem reciprocalMan_close (hp : 23 ≤ f.fracBits) (hlt : man < 2 ^ (f.fracBits + 1)) (hpos : 0 < man) {e2 : Int}
    (he : exp + e2 = -(2 * f.fracBits + 1 : Nat)) : reciprocalClose man exp (reciprocalMan f man) e2 = true := by
  have hle : man * reciprocalMan f man ≤ 2 ^ (2 * f.fracBits + 1) := Nat.mul_div_le ..
  have hnear : 2 ^ (2 * f.fracBits + 1) < man * reciprocalMan f man + man := Nat.lt_mul_div_succ _ hpos
  have hlarge : 2 ^ (f.fracBits + 1) * 256 ≤ 2 ^ (2 * f.fracBits + 1) := calc
    2 ^ (f.fracBits + 1) * 256 = 2 ^ (f.fracBits + 1 + 8) := by ring
    _ ≤ 2 ^ (2 * f.fracBits + 1) := Nat.pow_le_pow_right two_pos (by omega)
  exact reciprocalClose_of_nat (by omega) he (by omega) (by omega)

/-- The table's value is taken only if it has the sign and is close. -/
theorem reciprocalSeed_cases (table : Nat) (neg : Bool) (hman : man ≠ 2 ^ f.fracBits) :
    (∃ m2 e2, unpack f table = .normal neg m2 e2 ∧ reciprocalClose man exp m2 e2 = true ∧
      reciprocalSeed f table neg man exp = table % 2 ^ (f.fracBits + f.expBits + 1)) ∨
    reciprocalSeed f table neg man exp =
      packFields f neg (f.bias - (exp + f.fracBits) - 1).toNat (reciprocalMan f man - 2 ^ f.fracBits) := by
  rw [reciprocalSeed, if_neg hman]
  cases htable : unpack f table with
  | normal n m2 e2 =>
    dsimp only
    split
    case isTrue hkept =>
      obtain ⟨⟨hsign, -⟩, hclose⟩ := by simpa only [Bool.and_eq_true] using hkept
      obtain rfl := eq_of_beq hsign
      exact Or.inl ⟨m2, e2, rfl, hclose, rfl⟩
    case isFalse => exact Or.inr rfl
  | zero | denormal | inf | nan => exact Or.inr rfl

/-- Whatever the table holds, the seed is a normal number close to the reciprocal. -/
theorem exists_close_reciprocalSeed (hf : f.Standard) (h : IsNormal f man exp) (table : Nat) (neg : Bool)
    (hsmall : exp + f.fracBits < f.bias - 1 ∨ exp + f.fracBits = f.bias - 1 ∧ man = 2 ^ f.fracBits) :
    ∃ k e, NormalBits f neg k e (reciprocalSeed f table neg man exp) ∧ reciprocalClose man exp k e = true := by
  obtain ⟨hle, hlt, hlow, -⟩ := h
  have hp := hf.fracBits_ge
  have hpow := Nat.two_pow_pos f.fracBits
  by_cases hman : man = 2 ^ f.fracBits
  · have hseed : reciprocalSeed f table neg man exp = packFields f neg (f.bias - (exp + f.fracBits)).toNat 0 :=
      if_pos hman
    have hnormal : IsNormal f (2 ^ f.fracBits) (-exp - 2 * f.fracBits) := ⟨le_rfl, by omega, by omega, by omega⟩
    have hbits := normalBits_packFields hf neg hnormal
    have hfield : -exp - 2 * (f.fracBits : Int) + f.fracBits + f.bias = f.bias - (exp + f.fracBits) := by ring
    rw [hfield, Nat.sub_self, ← hseed] at hbits
    refine ⟨_, _, hbits, ?_⟩
    have hsquare : man * 2 ^ f.fracBits = 2 ^ (2 * f.fracBits) := by rw [hman]; ring
    have hpos := Nat.two_pow_pos (2 * f.fracBits)
    exact reciprocalClose_of_nat (j := 2 * f.fracBits) (by omega) (by omega) (by rw [hsquare]; omega)
      (by rw [hsquare]; omega)
  · obtain ⟨m2, e2, htable, hclose, hseed⟩ | hseed := reciprocalSeed_cases (exp := exp) table neg hman
    · rw [hseed]
      exact ⟨m2, e2, normalBits_mod htable, hclose⟩
    · have hnormal : IsNormal f (reciprocalMan f man) (-exp - 2 * f.fracBits - 1) :=
        ⟨le_reciprocalMan hlt (by omega), reciprocalMan_lt (by omega), by omega, by omega⟩
      have hbits := normalBits_packFields hf neg hnormal
      have hfield : -exp - 2 * (f.fracBits : Int) - 1 + f.fracBits + f.bias = f.bias - (exp + f.fracBits) - 1 := by
        ring
      rw [hfield, ← hseed] at hbits
      exact ⟨_, _, hbits, reciprocalMan_close hp hlt (by omega) (by omega)⟩

end

/-! RSQR of a positive normal number (R438). -/

theorem rsqrtClose_of_nat {m1 m2 j : Nat} {e1 e2 : Int} (hj : 0 < j) (he : e1 + 2 * e2 = -j)
    (hlo : 2 ^ j * 255 ^ 2 < m1 * (m2 * m2) * 256 ^ 2) (hhi : m1 * (m2 * m2) * 256 ^ 2 < 2 ^ j * 257 ^ 2) :
    rsqrtClose m1 e1 m2 e2 = true := by
  rw [rsqrtClose_eq, productWithin_iff]
  exact ⟨j, hj, he, by exact_mod_cast hlo, by exact_mod_cast hhi⟩

/-- Bit by bit, the square root between the bounds `r` and `r + 2 ^ k`. -/
theorem isqrtFrom_eq_sqrt {n r k : Nat} (hle : r ^ 2 ≤ n) (hlt : n < (r + 2 ^ k) ^ 2) :
    isqrtFrom n r k = Nat.sqrt n := by
  induction k generalizing r with
  | zero => exact Nat.eq_sqrt'.mpr ⟨hle, hlt⟩
  | succ k ih =>
    rw [isqrtFrom]
    split
    case isTrue hbit => exact ih hbit (by rwa [add_assoc, ← two_mul, ← pow_succ'])
    case isFalse hbit => exact ih hle (not_le.mp hbit)

section
variable {f : FpFormat} {man : Nat} {exp : Int}

/-- The power of two whose quotient by the mantissa is the radicand. -/
def radicandExp (f : FpFormat) (odd : Bool) : Nat := 3 * f.fracBits + if odd then 1 else 2

theorem radicandExp_odd (f : FpFormat) : radicandExp f true = 3 * f.fracBits + 1 := rfl

theorem radicandExp_even (f : FpFormat) : radicandExp f false = 3 * f.fracBits + 2 := rfl

theorem radicandExp_ge (f : FpFormat) (odd : Bool) : 3 * f.fracBits + 1 ≤ radicandExp f odd := by
  cases odd <;> simp [radicandExp_odd, radicandExp_even]

/-- Short of a power of four, the root of the radicand is short of two. -/
theorem radicand_lt {odd : Bool} (hle : 2 ^ f.fracBits ≤ man) (hexact : ¬ (man = 2 ^ f.fracBits ∧ odd = false)) :
    2 ^ radicandExp f odd / man < (2 ^ (f.fracBits + 1)) ^ 2 := by
  have hpow := Nat.two_pow_pos f.fracBits
  rw [Nat.div_lt_iff_lt_mul (by omega)]
  cases odd with
  | false =>
    have hlt : 2 ^ f.fracBits < man := lt_of_le_of_ne hle fun heq => hexact ⟨heq.symm, rfl⟩
    calc 2 ^ radicandExp f false = (2 ^ (f.fracBits + 1)) ^ 2 * 2 ^ f.fracBits := by rw [radicandExp_even]; ring
      _ < (2 ^ (f.fracBits + 1)) ^ 2 * man := Nat.mul_lt_mul_of_pos_left hlt (by positivity)
  | true =>
    calc 2 ^ radicandExp f true < 2 ^ (3 * f.fracBits + 2) := Nat.pow_lt_pow_right one_lt_two (Nat.lt_succ_self _)
      _ = (2 ^ (f.fracBits + 1)) ^ 2 * 2 ^ f.fracBits := by ring
      _ ≤ (2 ^ (f.fracBits + 1)) ^ 2 * man := Nat.mul_le_mul_left _ hle

theorem le_radicand (odd : Bool) (hpos : 0 < man) (hlt : man < 2 ^ (f.fracBits + 1)) :
    (2 ^ f.fracBits) ^ 2 ≤ 2 ^ radicandExp f odd / man := by
  rw [Nat.le_div_iff_mul_le hpos]
  calc (2 ^ f.fracBits) ^ 2 * man ≤ (2 ^ f.fracBits) ^ 2 * 2 ^ (f.fracBits + 1) := Nat.mul_le_mul_left _ hlt.le
    _ = 2 ^ (3 * f.fracBits + 1) := by ring
    _ ≤ 2 ^ radicandExp f odd := Nat.pow_le_pow_right two_pos (radicandExp_ge f odd)

theorem rsqrtMan_eq_sqrt {odd : Bool} (h : 2 ^ radicandExp f odd / man < (2 ^ (f.fracBits + 1)) ^ 2) :
    rsqrtMan f man odd = Nat.sqrt (2 ^ radicandExp f odd / man) :=
  isqrtFrom_eq_sqrt (Nat.zero_le _) (by rwa [Nat.zero_add])

/-- Truncation of the quotient and of the root costs less than `2 ^ (2 * p + 3)` of the product. -/
theorem rsqrt_close (hp : 23 ≤ f.fracBits) {odd : Bool} (hpos : 0 < man) (hlt : man < 2 ^ (f.fracBits + 1)) {r : Nat}
    (hr : r = Nat.sqrt (2 ^ radicandExp f odd / man)) (hrlt : r < 2 ^ (f.fracBits + 1)) {e2 : Int}
    (he : exp + 2 * e2 = -(radicandExp f odd : Int)) : rsqrtClose man exp r e2 = true := by
  have hle : man * (r * r) ≤ 2 ^ radicandExp f odd := calc
    man * (r * r) ≤ man * (2 ^ radicandExp f odd / man) := Nat.mul_le_mul_left _ (hr ▸ Nat.sqrt_le _)
    _ ≤ 2 ^ radicandExp f odd := Nat.mul_div_le ..
  have hnear : 2 ^ radicandExp f odd < man * (r * r) + 2 ^ (2 * f.fracBits + 3) := calc
    2 ^ radicandExp f odd < man * (2 ^ radicandExp f odd / man + 1) := Nat.lt_mul_div_succ _ hpos
    _ ≤ man * ((r + 1) * (r + 1)) := Nat.mul_le_mul_left _ (hr ▸ Nat.succ_le_succ_sqrt _)
    _ = man * (r * r) + man * (2 * r + 1) := by ring
    _ ≤ man * (r * r) + 2 ^ (f.fracBits + 1) * 2 ^ (f.fracBits + 2) :=
      Nat.add_le_add_left (Nat.mul_le_mul hlt.le (by rw [pow_succ]; omega)) _
    _ = man * (r * r) + 2 ^ (2 * f.fracBits + 3) := by ring
  have hlarge : 2 ^ (2 * f.fracBits + 3) * 256 ≤ 2 ^ radicandExp f odd := calc
    2 ^ (2 * f.fracBits + 3) * 256 = 2 ^ (2 * f.fracBits + 3 + 8) := by ring
    _ ≤ 2 ^ radicandExp f odd := Nat.pow_le_pow_right two_pos (by have := radicandExp_ge f odd; omega)
  have hexp := radicandExp_ge f odd
  exact rsqrtClose_of_nat (by omega) he (by omega) (by omega)

/-- The table's value is taken only if it is positive and close. -/
theorem rsqrtSeed_cases (table : Nat)
    (hexact : ¬ (man = 2 ^ f.fracBits ∧ ((exp + f.fracBits) % 2 == 1) = false)) :
    (∃ m2 e2, unpack f table = .normal false m2 e2 ∧ rsqrtClose man exp m2 e2 = true ∧
      rsqrtSeed f table man exp = table % 2 ^ (f.fracBits + f.expBits + 1)) ∨
    rsqrtSeed f table man exp = packFields f false (f.bias - (exp + f.fracBits) / 2 - 1).toNat
      (rsqrtMan f man ((exp + f.fracBits) % 2 == 1) - 2 ^ f.fracBits) := by
  rw [rsqrtSeed, if_neg hexact]
  cases htable : unpack f table with
  | normal n m2 e2 =>
    dsimp only
    split
    case isTrue hkept =>
      obtain ⟨⟨hsign, -⟩, hclose⟩ := by simpa only [Bool.and_eq_true] using hkept
      obtain rfl : n = false := by simpa using hsign
      exact Or.inl ⟨m2, e2, rfl, hclose, rfl⟩
    case isFalse => exact Or.inr rfl
  | zero | denormal | inf | nan => exact Or.inr rfl

/-- Whatever the table holds, the seed is a positive normal number close to the reciprocal of the root. -/
theorem exists_close_rsqrtSeed (hf : f.Standard) (h : IsNormal f man exp) (table : Nat) :
    ∃ k e, NormalBits f false k e (rsqrtSeed f table man exp) ∧ rsqrtClose man exp k e = true := by
  obtain ⟨hle, hlt, hlow, hhigh⟩ := h
  have hp := hf.fracBits_ge
  have hbias := hf.bias_ge
  have hpow := Nat.two_pow_pos f.fracBits
  by_cases hexact : man = 2 ^ f.fracBits ∧ ((exp + f.fracBits) % 2 == 1) = false
  · have hseed : rsqrtSeed f table man exp = packFields f false (f.bias - (exp + f.fracBits) / 2).toNat 0 :=
      if_pos hexact
    obtain ⟨hman, heven⟩ := hexact
    rw [beq_eq_false_iff_ne] at heven
    have hnormal : IsNormal f (2 ^ f.fracBits) (-((exp + f.fracBits) / 2) - f.fracBits) :=
      ⟨le_rfl, by omega, by omega, by omega⟩
    have hbits := normalBits_packFields hf false hnormal
    have hfield : -((exp + f.fracBits) / 2) - f.fracBits + f.fracBits + f.bias =
      f.bias - (exp + f.fracBits) / 2 := by ring
    rw [hfield, Nat.sub_self, ← hseed] at hbits
    refine ⟨_, _, hbits, ?_⟩
    have hcube : man * (2 ^ f.fracBits * 2 ^ f.fracBits) = 2 ^ (3 * f.fracBits) := by rw [hman]; ring
    have hpos := Nat.two_pow_pos (3 * f.fracBits)
    exact rsqrtClose_of_nat (j := 3 * f.fracBits) (by omega) (by omega) (by rw [hcube]; omega) (by rw [hcube]; omega)
  · obtain ⟨m2, e2, htable, hclose, hseed⟩ | hseed := rsqrtSeed_cases table hexact
    · rw [hseed]
      exact ⟨m2, e2, normalBits_mod htable, hclose⟩
    · have hradicand := radicand_lt hle hexact
      have hroot := rsqrtMan_eq_sqrt hradicand
      have hroot_lt := hroot.trans_lt (Nat.sqrt_lt'.mpr hradicand)
      have hle_root := (Nat.le_sqrt'.mpr (le_radicand _ (by omega) hlt)).trans_eq hroot.symm
      have hnormal : IsNormal f (rsqrtMan f man ((exp + f.fracBits) % 2 == 1))
          (-((exp + f.fracBits) / 2) - 1 - f.fracBits) := ⟨hle_root, hroot_lt, by omega, by omega⟩
      have hbits := normalBits_packFields hf false hnormal
      have hfield : -((exp + f.fracBits) / 2) - 1 - f.fracBits + f.fracBits + f.bias =
        f.bias - (exp + f.fracBits) / 2 - 1 := by ring
      rw [hfield, ← hseed] at hbits
      refine ⟨_, _, hbits, rsqrt_close hp (by omega) hlt hroot hroot_lt ?_⟩
      cases hodd : (exp + f.fracBits) % 2 == 1 with
      | true =>
        rw [beq_iff_eq] at hodd
        rw [radicandExp_odd]
        omega
      | false =>
        rw [beq_eq_false_iff_ne] at hodd
        rw [radicandExp_even]
        omega

end

/-! RCP and RSQR of a normal number by the size and the sign of the number (R436 to R439). -/

section
variable {f : FpFormat} {man : Nat} {exp : Int}

/-- A normal number is at most a power of two when its exponent is lower, or equal with a fraction of zero. -/
theorem IsNormal.value_le_pow2_iff (h : IsNormal f man exp) (c : Int) : man * pow2 exp ≤ pow2 c ↔
    exp + f.fracBits < c ∨ exp + f.fracBits = c ∧ man = 2 ^ f.fracBits := by
  have hpow := pow2_pos exp
  have hlow : pow2 (exp + f.fracBits) ≤ man * pow2 exp := by
    rw [add_comm, pow2_add, pow2_natCast]
    exact mul_le_mul_of_nonneg_right (Nat.cast_le.mpr h.le_man) hpow.le
  have hhigh : man * pow2 exp < pow2 (exp + f.fracBits + 1) := by
    have hexp : exp + f.fracBits + 1 = (f.fracBits + 1 : Nat) + exp := by push_cast; ring
    rw [hexp, pow2_add, pow2_natCast]
    exact mul_lt_mul_of_pos_right (Nat.cast_lt.mpr h.man_lt) hpow
  obtain hlt | heq | hgt := lt_trichotomy (exp + f.fracBits) c
  · exact iff_of_true (hhigh.le.trans (pow2_le_pow2.mpr hlt)) (Or.inl hlt)
  · rw [← heq, add_comm, pow2_add, pow2_natCast, mul_le_mul_iff_left₀ hpow, Nat.cast_le]
    have hle := h.le_man
    omega
  · refine iff_of_false (not_le.mpr ((pow2_lt_pow2.mpr hgt).trans_le hlow)) ?_
    omega

theorem rcpFp_of_small (hf : f.Standard) (h : IsNormal f man exp) (hle : man * pow2 exp ≤ pow2 (maxExp f - 1))
    (table : Nat) (neg : Bool) :
    rcpFp f table (.normal neg man exp) = ⟨reciprocalSeed f table neg man exp, 0#11⟩ := by
  rw [h.value_le_pow2_iff, hf.maxExp_eq] at hle
  exact if_neg (by omega)

theorem rcpFp_of_large (hf : f.Standard) (h : IsNormal f man exp) (hlt : pow2 (maxExp f - 1) < man * pow2 exp)
    (table : Nat) (neg : Bool) : rcpFp f table (.normal neg man exp) = ⟨packZero f neg, under ||| inex⟩ := by
  rw [← not_le, h.value_le_pow2_iff, hf.maxExp_eq] at hlt
  exact if_pos (by omega)

/-- The reciprocal of a number that is not too large: a normal number, close to it. -/
theorem rcpFp_of_small_spec (hf : f.Standard) (h : IsNormal f man exp) (hle : man * pow2 exp ≤ pow2 (maxExp f - 1))
    (table : Nat) (neg : Bool) : (rcpFp f table (.normal neg man exp)).warn = 0#11 ∧
      ∃ k e, NormalBits f neg k e (rcpFp f table (.normal neg man exp)).bits ∧
        |(man : ℚ) * pow2 exp * (k * pow2 e) - 1| < 1 / 2 ^ 8 := by
  rw [rcpFp_of_small hf h hle]
  rw [h.value_le_pow2_iff, hf.maxExp_eq] at hle
  obtain ⟨k, e, hbits, hclose⟩ := exists_close_reciprocalSeed hf h table neg hle
  exact ⟨rfl, k, e, hbits, abs_product_sub_one_lt hclose⟩

/-- The reciprocal of the square root of a positive normal number: a positive normal number, close to it. -/
theorem rsqrFp_normal_spec (hf : f.Standard) (h : IsNormal f man exp) (table : Nat) :
    (rsqrFp f table (.normal false man exp)).warn = 0#11 ∧
      ∃ k e, NormalBits f false k e (rsqrFp f table (.normal false man exp)).bits ∧
        (255 / 256 : ℚ) ^ 2 < ((k : ℚ) * pow2 e) ^ 2 * (man * pow2 exp) ∧
        ((k : ℚ) * pow2 e) ^ 2 * (man * pow2 exp) < (257 / 256 : ℚ) ^ 2 := by
  obtain ⟨k, e, hbits, hclose⟩ := exists_close_rsqrtSeed hf h table
  exact ⟨rfl, k, e, hbits, square_product_bounds hclose⟩

end

/-! ABS (R434, R435), and the classes that need no table. -/

theorem packZero_false (f : FpFormat) : packZero f false = 0 := by simp [packZero, packFields]

theorem nanBits2_eq (q : Bool) : nanBits2 q = warnNan2 ||| warnIf q warnInval := rfl

/-- A zero or a normal number loses its sign. -/
theorem absFp_packFields {f : FpFormat} (neg : Bool) {e frac : Nat} (he : e < f.emax) (hfrac : frac < 2 ^ f.fracBits)
    (hzero : e = 0 → frac = 0) : absFp f (unpack f (packFields f neg e frac)) (packFields f neg e frac) =
      ⟨packFields f false e frac, 0#11⟩ := by
  have hdef : f.emax = 2 ^ f.expBits - 1 := rfl
  have hexp : e < 2 ^ f.expBits := by omega
  have hbits := packFields_mod (neg := neg) hexp hfrac
  rw [unpack_eq, expField_packFields hexp hfrac, fracField_packFields hfrac, if_neg he.ne, ← hbits]
  split
  case isTrue h0 => rw [if_pos (hzero h0)]; rfl
  case isFalse => rfl

/-- Settles O60: normal numbers by the seeds, the other classes by the definitions. -/
theorem singleSourceValues : Obligations.SingleSourceValues := by
  refine ⟨?normals, ?abs, ?absFinite, ?classes, fun f _ table man exp => by rw [nanOut_eq_packNan]; rfl⟩
  case normals =>
    intro f hf table b neg man exp hunpack
    have hf := FpFormat.standard_of_mem hf
    have h := isNormal_of_unpack hf hunpack
    rw [hunpack, pattern_zero_eq_packZero]
    refine ⟨fun hle => ?_, fun hlt => rcpFp_of_large hf h hlt table neg, ?_⟩
    · obtain ⟨hwarn, k, e, hbits, hclose⟩ := rcpFp_of_small_spec hf h hle table neg
      exact ⟨hwarn, k, e, hbits.unpack_eq, hclose⟩
    · rintro rfl
      obtain ⟨hwarn, k, e, hbits, hclose⟩ := rsqrFp_normal_spec hf h table
      exact ⟨hwarn, k, e, hbits.unpack_eq, hclose⟩
  case abs =>
    intro f _ n q b
    rw [nanOut_eq_packNan, infinity_eq_packInf, nanBits2_eq]
    exact ⟨rfl, rfl, congrArg (FpResult.mk · (inex ||| den2)) (packZero_false f)⟩
  case absFinite =>
    intro f _ n e frac he hfrac hzero
    rw [pattern_eq_packFields, pattern_eq_packFields]
    exact absFp_packFields n he hfrac hzero
  case classes =>
    intro f _ table n q
    simp only [nanOut_eq_packNan, infinity_eq_packInf, pattern_zero_eq_packZero, nanBits2_eq]
    exact ⟨rfl, rfl, rfl, rfl, rfl, rfl, rfl, rfl, rfl⟩

end Sys2Proof.Machine
end

section
/-! Laws of the floating-point results (47_float_arith.md R440, 48_float_compare_convert.md R450, R470): the patterns
that can come out, the warnings that exclude each other, and the order of the numbers. -/

set_option Elab.async false

namespace Sys2Proof.Machine

open Sys2Proof.Claims

/-! Warnings that are not raised. -/

theorem or_and_eq_zero_iff {v w k : BitVec 11} : (v ||| w) &&& k = 0#11 ↔ v &&& k = 0#11 ∧ w &&& k = 0#11 := by
  rw [BitVec.and_comm, BitVec.and_or_distrib_left, BitVec.or_eq_zero_iff, BitVec.and_comm k, BitVec.and_comm k]

theorem warnIf_and_eq_zero {w k : BitVec 11} (c : Bool) (h : w &&& k = 0#11) : warnIf c w &&& k = 0#11 := by
  cases c
  · exact BitVec.zero_and
  · exact h

theorem denWarn_and_eq_zero {k : BitVec 11} (h1 : den1 &&& k = 0#11) (h2 : den2 &&& k = 0#11) (a b : Fp) :
    denWarn a b &&& k = 0#11 := by
  rw [denWarn_eq, or_and_eq_zero_iff]
  exact ⟨warnIf_and_eq_zero _ h1, warnIf_and_eq_zero _ h2⟩

theorem denBits_and_inval (a b : Fp) : denBits a b &&& inval = 0#11 := by
  rw [denBits_eq, or_and_eq_zero_iff]
  exact ⟨warnIf_and_eq_zero _ (by decide), warnIf_and_eq_zero _ (by decide)⟩

theorem nanPart_and_inex {bit : BitVec 11} (h : bit &&& inex = 0#11) (x : Fp) : nanPart bit x &&& inex = 0#11 := by
  cases x with
  | nan n q => exact or_and_eq_zero_iff.mpr ⟨h, warnIf_and_eq_zero q (by decide)⟩
  | zero | denormal | normal | inf => exact BitVec.zero_and

theorem nanBits_and_inex (a b : Fp) : nanBits a b &&& inex = 0#11 := by
  rw [nanBits_eq, or_and_eq_zero_iff]
  exact ⟨nanPart_and_inex (by decide) a, nanPart_and_inex (by decide) b⟩

/-- INEX and INVAL are not both raised. -/
def InexOrInval (w : BitVec 11) : Prop := ¬ (w &&& inex ≠ 0#11 ∧ w &&& inval ≠ 0#11)

theorem InexOrInval.of_no_inex {w : BitVec 11} (h : w &&& inex = 0#11) : InexOrInval w := fun hw => hw.1 h

theorem InexOrInval.of_no_inval {w : BitVec 11} (h : w &&& inval = 0#11) : InexOrInval w := fun hw => hw.2 h

/-! Patterns that can come out. -/

/-- The pattern has the format's width and is that of a zero, a normal number, an infinity or NaN_out. -/
structure CleanBits (f : FpFormat) (b : Nat) : Prop where
  fits : b < 2 ^ (f.fracBits + f.expBits + 1)
  notDenormal : expField f b = 0 → fracField f b = 0
  infOrNanOut : expField f b = f.emax → fracField f b = 0 ∨ fracField f b = 2 ^ f.fracBits - 1

theorem CleanBits.clean {f : FpFormat} {b : Nat} {w : BitVec 11} (h : CleanBits f b) (hw : InexOrInval w) :
    Clean f ⟨b, w⟩ := by
  obtain ⟨hfits, hden, htop⟩ := h
  exact ⟨by rwa [add_comm f.expBits], hden, htop, hw⟩

theorem CleanBits.clean_of_no_warning {f : FpFormat} {r : FpResult} (h : CleanBits f r.bits) (hw : r.warn = 0#11) :
    Clean f r :=
  h.clean (.of_no_inex (by rw [hw, BitVec.zero_and]))

section
variable {f : FpFormat}

theorem cleanBits_packFields (neg : Bool) {e frac : Nat} (he : e ≤ f.emax) (hfrac : frac < 2 ^ f.fracBits)
    (hden : e = 0 → frac = 0) (htop : e = f.emax → frac = 0 ∨ frac = 2 ^ f.fracBits - 1) :
    CleanBits f (packFields f neg e frac) := by
  have hdef : f.emax = 2 ^ f.expBits - 1 := rfl
  have hpow := Nat.two_pow_pos f.expBits
  have hexp : e < 2 ^ f.expBits := by omega
  refine ⟨packFields_lt hexp hfrac, ?_, ?_⟩ <;> rwa [expField_packFields hexp hfrac, fracField_packFields hfrac]

theorem cleanBits_packZero (neg : Bool) : CleanBits f (packZero f neg) :=
  cleanBits_packFields neg (Nat.zero_le _) (Nat.two_pow_pos _) (fun _ => rfl) fun _ => Or.inl rfl

theorem cleanBits_packInf (neg : Bool) : CleanBits f (packInf f neg) :=
  cleanBits_packFields neg le_rfl (Nat.two_pow_pos _) (fun _ => rfl) fun _ => Or.inl rfl

theorem cleanBits_of_normalBits {neg : Bool} {man b : Nat} {exp : Int} (h : NormalBits f neg man exp b) :
    CleanBits f b := by
  obtain ⟨htop, hzero, -⟩ := unpack_eq_normal_iff.mp h.unpack_eq
  exact ⟨h.fits, fun h0 => absurd h0 hzero, fun hmax => absurd hmax htop⟩

theorem cleanBits_packNan (hf : f.Standard) (neg : Bool) : CleanBits f (packNan f neg) := by
  have hpow := Nat.two_pow_pos f.fracBits
  have htop := hf.emax_eq
  exact cleanBits_packFields neg le_rfl (by omega) (fun h0 => by omega) fun _ => Or.inr rfl

theorem cleanBits_packLargest (hf : f.Standard) (neg : Bool) : CleanBits f (packLargest f neg) := by
  have hpow := Nat.two_pow_pos f.fracBits
  have htop := hf.emax_eq
  have hbias := hf.bias_ge
  exact cleanBits_packFields neg (by omega) (by omega) (fun h0 => by omega) fun _ => Or.inr rfl

theorem cleanBits_packSmallest (hf : f.Standard) (neg : Bool) : CleanBits f (packSmallest f neg) :=
  cleanBits_packFields neg (by have := hf.emax_eq; omega) (Nat.two_pow_pos _) (fun _ => rfl) fun _ => Or.inl rfl

/-! Rounded results (R411): a clean pattern, and INVAL is not raised. -/

/-- A clean pattern without INVAL. -/
structure CleanValid (f : FpFormat) (r : FpResult) : Prop where
  bits : CleanBits f r.bits
  valid : r.warn &&& inval = 0#11

theorem cleanValid_mk {b : Nat} {w : BitVec 11} (hb : CleanBits f b) (hw : w &&& inval = 0#11) :
    CleanValid f ⟨b, w⟩ := ⟨hb, hw⟩

theorem CleanValid.clean {r : FpResult} (h : CleanValid f r) : Clean f r := h.bits.clean (.of_no_inval h.valid)

theorem cleanValid_overflowResult (hf : f.Standard) (m : FpMode) (neg : Bool) :
    CleanValid f (overflowResult f m neg) := by
  unfold overflowResult
  split
  · exact ⟨cleanBits_packInf neg, or_and_eq_zero_iff.mpr ⟨by decide, warnIf_and_eq_zero _ (by decide)⟩⟩
  · exact cleanValid_mk (cleanBits_packLargest hf neg) (by decide)

theorem cleanValid_underflowResult (hf : f.Standard) (m : FpMode) (neg : Bool) :
    CleanValid f (underflowResult f m neg) := by
  unfold underflowResult
  split
  · exact cleanValid_mk (cleanBits_packSmallest hf neg) (by decide)
  · exact cleanValid_mk (cleanBits_packZero neg) (by decide)

/-- The exponent that is tested for underflow is not above the one that is packed. -/
theorem testedExp_le_carriedExp (m : FpMode) (p n : Nat) (e : Int) :
    testedExp m e (carriedExp p n e) ≤ carriedExp p n e := by
  have hle : e ≤ carriedExp p n e := by unfold carriedExp; split <;> omega
  unfold testedExp
  split
  · exact le_rfl
  · exact hle

theorem carriedFrac_lt {p n : Nat} (h : n ≤ 2 ^ (p + 1)) : carriedFrac p n < 2 ^ p := by
  have hpow := Nat.two_pow_pos p
  unfold carriedFrac
  split <;> omega

theorem cleanValid_packRounded (hf : f.Standard) (m : FpMode) (neg : Bool) (e : Int) {n : Nat}
    (hn : n ≤ 2 ^ (f.fracBits + 1)) (inexact : Bool) : CleanValid f (packRounded f m neg e n inexact) := by
  by_cases hover : (f.bias : Int) < carriedExp f.fracBits n e
  · rw [packRounded_of_over hover]
    exact cleanValid_overflowResult hf m neg
  by_cases hunder : testedExp m e (carriedExp f.fracBits n e) < 1 - f.bias
  · rw [packRounded_of_under hover hunder]
    exact cleanValid_underflowResult hf m neg
  rw [packRounded_of_normal hover hunder]
  have htop := hf.emax_eq
  have htested := testedExp_le_carriedExp m f.fracBits n e
  refine ⟨cleanBits_packFields neg ?_ (carriedFrac_lt hn) ?_ ?_, warnIf_and_eq_zero _ (by decide)⟩
  · omega
  · omega
  · omega

theorem quotient_scaleTo_lt (man p : Nat) : (scaleTo man p).1 < 2 ^ (p + 1) := by
  obtain rfl | hman := Nat.eq_zero_or_pos man
  · have hzero : scaleTo 0 p = (0 * 2 ^ (p - Nat.log2 0), 0, 1) := if_pos (by simp)
    rw [hzero, Nat.zero_mul]
    exact Nat.two_pow_pos _
  · exact (scaled_scaleTo hman p).quotient_lt

theorem roundedQuotient_le (m : FpMode) (neg : Bool) (c : Nat × Nat × Nat) : roundedQuotient m neg c ≤ c.1 + 1 := by
  unfold roundedQuotient
  split <;> omega

theorem cleanValid_roundPack (hf : f.Standard) (m : FpMode) (neg : Bool) (man : Nat) (exp : Int) :
    CleanValid f (roundPack f m neg man exp) := by
  rw [roundPack_eq]
  exact cleanValid_packRounded hf m neg _
    ((roundedQuotient_le m neg _).trans (quotient_scaleTo_lt man f.fracBits)) _

/-! Sums, differences and products. -/

theorem cleanValid_addFinite (hf : f.Standard) (m : FpMode) (a b : Fp) : CleanValid f (addFinite f m a b) := by
  by_cases h : scaledSum a b = 0
  · rw [addFinite_of_eq_zero f m h, pattern_zero_eq_packZero]
    exact ⟨cleanBits_packZero _, BitVec.zero_and⟩
  · rw [addFinite_of_ne f m h]
    exact cleanValid_roundPack hf ..

theorem info_or_denWarn_and_inval (a b : Fp) : (info ||| denWarn a b) &&& inval = 0#11 :=
  or_and_eq_zero_iff.mpr ⟨by decide, denWarn_and_eq_zero (by decide) (by decide) a b⟩

theorem clean_addFp (hf : f.Standard) (m : FpMode) (a b : Fp) : Clean f (addFp f m a b) := by
  by_cases hnan : a.isNan || b.isNan
  · rw [addFp_of_nan f m hnan, nanOut_eq_packNan]
    exact (cleanBits_packNan hf false).clean (.of_no_inex (nanBits_and_inex a b))
  obtain ⟨ha, hb⟩ := Bool.or_eq_false_iff.mp (Bool.eq_false_iff.mpr hnan)
  obtain ⟨x, rfl⟩ | ha := inf_or_finite ha <;> obtain ⟨y, rfl⟩ | hb := inf_or_finite hb
  · obtain rfl | hxy := eq_or_ne x y
    · rw [addFp_inf_same, infinity_eq_packInf]
      exact (cleanBits_packInf x).clean (.of_no_inex (by decide))
    · rw [addFp_inf_of_ne f m hxy, nanOut_eq_packNan]
      exact (cleanBits_packNan hf false).clean (.of_no_inex (by decide))
  · rw [addFp_inf_finite f m x hb, infinity_eq_packInf]
    exact (cleanBits_packInf x).clean (.of_no_inval (info_or_denWarn_and_inval ..))
  · rw [addFp_finite_inf f m y ha, infinity_eq_packInf]
    exact (cleanBits_packInf y).clean (.of_no_inval (info_or_denWarn_and_inval ..))
  · obtain ⟨hbits, hvalid⟩ := cleanValid_addFinite hf m (flushed a) (flushed b)
    rw [addFp_of_finite f m ha hb]
    exact hbits.clean (.of_no_inval (or_and_eq_zero_iff.mpr ⟨hvalid, denBits_and_inval a b⟩))

theorem clean_mulFp_of_flushed_zero (m : FpMode) {a b : Fp} {x : Bool} (ha : Finite a) (hb : Finite b)
    (h : flushed a = .zero x ∨ flushed b = .zero x) : Clean f (mulFp f m a b) := by
  rw [mulFp_of_flushed_zero f m ha hb h, pattern_zero_eq_packZero]
  exact (cleanBits_packZero _).clean (.of_no_inval (denBits_and_inval a b))

theorem clean_mulFp (hf : f.Standard) (m : FpMode) (a b : Fp) : Clean f (mulFp f m a b) := by
  have hinf (x y : Bool) : Clean f ⟨infinity f (x ^^ y), info⟩ := by
    rw [infinity_eq_packInf]
    exact (cleanBits_packInf _).clean (.of_no_inex (by decide))
  have hnan (x y : Bool) {w : BitVec 11} (hw : w &&& inex = 0#11) : Clean f ⟨nanOut f (x ^^ y), w⟩ := by
    rw [nanOut_eq_packNan]
    exact (cleanBits_packNan hf _).clean (.of_no_inex hw)
  by_cases hab : a.isNan || b.isNan
  · rw [mulFp_of_nan f m hab]
    exact hnan _ _ (nanBits_and_inex a b)
  obtain ⟨ha, hb⟩ := Bool.or_eq_false_iff.mp (Bool.eq_false_iff.mpr hab)
  obtain ⟨x, rfl⟩ | ha := inf_or_finite ha <;> obtain ⟨y, rfl⟩ | hb := inf_or_finite hb
  · rw [mulFp_inf_inf]
    exact hinf x y
  · obtain ⟨y, rfl⟩ | ⟨y, rfl⟩ | ⟨y, k, e, rfl⟩ := finite_cases hb
    · rw [mulFp_inf_zero]
      exact hnan x y (by decide)
    · rw [mulFp_inf_denormal]
      exact hnan x y (by decide)
    · rw [mulFp_inf_normal]
      exact hinf x y
  · obtain ⟨x, rfl⟩ | ⟨x, rfl⟩ | ⟨x, k, e, rfl⟩ := finite_cases ha
    · rw [mulFp_zero_inf]
      exact hnan x y (by decide)
    · rw [mulFp_denormal_inf]
      exact hnan x y (by decide)
    · rw [mulFp_normal_inf]
      exact hinf x y
  · obtain ⟨x, rfl⟩ | ⟨x, rfl⟩ | ⟨x, k, d, rfl⟩ := finite_cases ha
    · exact clean_mulFp_of_flushed_zero m ha hb (Or.inl rfl)
    · exact clean_mulFp_of_flushed_zero m ha hb (Or.inl rfl)
    · obtain ⟨y, rfl⟩ | ⟨y, rfl⟩ | ⟨y, l, e, rfl⟩ := finite_cases hb
      · exact clean_mulFp_of_flushed_zero m ha hb (Or.inr rfl)
      · exact clean_mulFp_of_flushed_zero m ha hb (Or.inr rfl)
      · exact (cleanValid_roundPack hf ..).clean

/-! Conversions. -/

theorem nanBits2_and_inex (q : Bool) : nanBits2 q &&& inex = 0#11 :=
  or_and_eq_zero_iff.mpr ⟨by decide, warnIf_and_eq_zero q (by decide)⟩

theorem clean_convertFp (hf : f.Standard) (m : FpMode) (a : Fp) : Clean f (convertFp f m a) := by
  cases a with
  | zero n => exact (cleanBits_packZero n).clean (.of_no_inex (by decide))
  | denormal n => exact (cleanBits_packZero n).clean (.of_no_inval (by decide))
  | normal n man exp => exact (cleanValid_roundPack hf m n man exp).clean
  | inf n => exact (cleanBits_packInf n).clean (.of_no_inex (by decide))
  | nan n q => exact (cleanBits_packNan hf false).clean (.of_no_inex (nanBits2_and_inex q))

theorem clean_fromInt (hf : f.Standard) (m : FpMode) (v : Int) : Clean f (fromInt f m v) := by
  unfold fromInt
  split
  · exact (cleanBits_packZero false).clean (.of_no_inex (by decide))
  · exact (cleanValid_roundPack hf ..).clean

theorem toInt32_inexOrInval (m : FpMode) (a : Fp) : InexOrInval (toInt32 m a).warn := by
  cases a with
  | zero n => exact .of_no_inex (w := 0#11) (by decide)
  | denormal n => exact .of_no_inval (w := inex ||| den2) (by decide)
  | normal n man exp =>
    unfold toInt32
    dsimp only
    split
    · exact .of_no_inval (w := inex ||| overBit) (by decide)
    · exact .of_no_inval (warnIf_and_eq_zero _ (by decide))
  | inf n => exact .of_no_inval (w := inex ||| overBit) (by decide)
  | nan n q => exact .of_no_inex (w := inval ||| nan2) (by decide)

/-! ABS, RCP and RSQR. -/

/-- Without its sign, a pattern that is none of an infinity, a NaN or a denormal. -/
theorem cleanBits_mod {b : Nat} (hden : expField f b = 0 → fracField f b = 0) (htop : expField f b ≠ f.emax) :
    CleanBits f (b % 2 ^ (f.fracBits + f.expBits)) where
  fits := (Nat.mod_lt _ (Nat.two_pow_pos _)).trans (Nat.pow_lt_pow_right one_lt_two (Nat.lt_succ_self _))
  notDenormal := by rwa [expField_mod le_rfl, fracField_mod (Nat.le_add_right ..)]
  infOrNanOut h := absurd (expField_mod le_rfl b ▸ h) htop

theorem clean_absFp (hf : f.Standard) (b : Nat) : Clean f (absFp f (unpack f b) b) := by
  rw [unpack_eq]
  split_ifs with htop hfrac hzero hfrac
  · exact (cleanBits_packInf false).clean (.of_no_inex (by decide))
  · exact (cleanBits_packNan hf false).clean (.of_no_inex (nanBits2_and_inex _))
  · exact (cleanBits_mod (fun _ => hfrac) htop).clean (.of_no_inex (by decide))
  · exact (cleanBits_packZero false).clean (.of_no_inval (by decide))
  · exact (cleanBits_mod (fun h0 => absurd h0 hzero) htop).clean (.of_no_inex (by decide))

theorem clean_rcpFp (hf : f.Standard) (table b : Nat) : Clean f (rcpFp f table (unpack f b)) := by
  cases hb : unpack f b with
  | zero n => exact (cleanBits_packInf n).clean (.of_no_inex (by decide))
  | denormal n => exact (cleanBits_packInf n).clean (.of_no_inval (by decide))
  | normal n man exp =>
    have h := isNormal_of_unpack hf hb
    obtain hle | hlt := le_or_gt (man * pow2 exp) (pow2 (maxExp f - 1))
    · obtain ⟨hwarn, k, e, hbits, -⟩ := rcpFp_of_small_spec hf h hle table n
      exact (cleanBits_of_normalBits hbits).clean_of_no_warning hwarn
    · rw [rcpFp_of_large hf h hlt]
      exact (cleanBits_packZero n).clean (.of_no_inval (by decide))
  | inf n => exact (cleanBits_packZero n).clean (.of_no_inex (by decide))
  | nan n q => exact (cleanBits_packNan hf false).clean (.of_no_inex (nanBits2_and_inex q))

theorem clean_rsqrFp (hf : f.Standard) (table b : Nat) : Clean f (rsqrFp f table (unpack f b)) := by
  cases hb : unpack f b with
  | zero n => exact (cleanBits_packInf n).clean (.of_no_inex (by decide))
  | denormal n => exact (cleanBits_packInf n).clean (.of_no_inval (by decide))
  | normal n man exp =>
    cases n with
    | false =>
      obtain ⟨hwarn, k, e, hbits, -⟩ := rsqrFp_normal_spec hf (isNormal_of_unpack hf hb) table
      exact (cleanBits_of_normalBits hbits).clean_of_no_warning hwarn
    | true => exact (cleanBits_packNan hf false).clean (.of_no_inex (by decide))
  | inf n =>
    cases n with
    | false => exact (cleanBits_packZero false).clean (.of_no_inex (by decide))
    | true => exact (cleanBits_packNan hf false).clean (.of_no_inex (by decide))
  | nan n q => exact (cleanBits_packNan hf false).clean (.of_no_inex (nanBits2_and_inex q))

end

/-! Compares (R450). -/

section
variable {a b : Fp}

theorem relateFp_of_nan (rel : FpRelation) (h : a.isNan || b.isNan) :
    relateFp rel a b = (false, unord ||| nanBits a b ||| warnIf (rel != .equal) inval) := by
  rw [nanBits_eq, ← nanWarn_eq]
  exact if_pos h

theorem relateFp_of_not_nan (rel : FpRelation) (h : ¬ (a.isNan || b.isNan)) :
    relateFp rel a b = (rel.holds (compareFp a b), denWarn a b) := if_neg h

theorem isNan_or_iff : IsNan a ∨ IsNan b ↔ (a.isNan || b.isNan) = true := by
  rw [Bool.or_eq_true, isNan_iff, isNan_iff]

theorem compareFp_of_finite (ha : Finite a) (hb : Finite b) : compareFp a b =
    Int.sign (a.flush.scaled (commonExp a.flush b.flush) - b.flush.scaled (commonExp a.flush b.flush)) := by
  obtain ⟨x, rfl⟩ | ⟨x, rfl⟩ | ⟨x, k, d, rfl⟩ := finite_cases ha <;>
    obtain ⟨y, rfl⟩ | ⟨y, rfl⟩ | ⟨y, l, e, rfl⟩ := finite_cases hb <;> rfl

theorem compareFp_inf_inf (x y : Bool) :
    compareFp (.inf x) (.inf y) = if x == y then 0 else if x then -1 else 1 := rfl

theorem compareFp_inf_finite (x : Bool) (hb : Finite b) : compareFp (.inf x) b = if x then -1 else 1 := by
  obtain ⟨y, rfl⟩ | ⟨y, rfl⟩ | ⟨y, l, e, rfl⟩ := finite_cases hb <;> rfl

theorem compareFp_finite_inf (y : Bool) (ha : Finite a) : compareFp a (.inf y) = if y then 1 else -1 := by
  obtain ⟨x, rfl⟩ | ⟨x, rfl⟩ | ⟨x, k, e, rfl⟩ := finite_cases ha <;> rfl

/-- Exchanging the sources turns the comparison round. -/
theorem compareFp_swap (h : ¬ (a.isNan || b.isNan)) : compareFp b a = -compareFp a b := by
  obtain ⟨ha, hb⟩ := Bool.or_eq_false_iff.mp (Bool.eq_false_iff.mpr h)
  obtain ⟨x, rfl⟩ | ha := inf_or_finite ha <;> obtain ⟨y, rfl⟩ | hb := inf_or_finite hb
  · rw [compareFp_inf_inf, compareFp_inf_inf]
    revert x y
    decide
  · rw [compareFp_inf_finite x hb, compareFp_finite_inf x hb]
    cases x <;> rfl
  · rw [compareFp_finite_inf y ha, compareFp_inf_finite y ha]
    cases y <;> rfl
  · rw [compareFp_of_finite hb ha, compareFp_of_finite ha hb, commonExp_comm, ← Int.sign_neg, neg_sub]

/-- Of a comparison exactly one relation holds. -/
theorem count_holds_eq_one (c : Int) :
    [FpRelation.less.holds c, FpRelation.equal.holds c, FpRelation.greater.holds c].count true = 1 := by
  unfold FpRelation.holds
  obtain h | rfl | h := lt_trichotomy c 0
  · simp [h, h.ne, h.le]
  · rfl
  · simp [h, h.ne', h.le]

theorem relateFp_inexOrInval (rel : FpRelation) (a b : Fp) : InexOrInval (relateFp rel a b).2 := by
  by_cases h : a.isNan || b.isNan
  · rw [relateFp_of_nan rel h]
    refine .of_no_inex (or_and_eq_zero_iff.mpr ⟨or_and_eq_zero_iff.mpr ⟨by decide, nanBits_and_inex a b⟩, ?_⟩)
    exact warnIf_and_eq_zero _ (by decide)
  · rw [relateFp_of_not_nan rel h]
    exact .of_no_inval (denWarn_and_eq_zero (by decide) (by decide) a b)

/-- Greater is less of the exchanged sources. -/
theorem relateFp_greater_eq_less (a b : Fp) : (relateFp .greater a b).1 = (relateFp .less b a).1 := by
  by_cases h : a.isNan || b.isNan
  · rw [relateFp_of_nan _ h, relateFp_of_nan _ (Bool.or_comm .. ▸ h)]
  · rw [relateFp_of_not_nan _ h, relateFp_of_not_nan _ (Bool.or_comm .. ▸ h), compareFp_swap h]
    simp only [FpRelation.holds, Int.neg_lt_zero_iff]

/-- A NaN raises UNORD. -/
theorem unord_of_nan (rel : FpRelation) (h : a.isNan || b.isNan) : (relateFp rel a b).2 &&& unord ≠ 0#11 := by
  rw [relateFp_of_nan rel h]
  intro hzero
  obtain ⟨⟨hunord, -⟩, -⟩ := (or_and_eq_zero_iff.trans (and_congr_left' or_and_eq_zero_iff)).mp hzero
  exact absurd hunord (by decide)

end

/-- Settles O57: each operation's results by the lemma about it, and the compares by the order of their sources. -/
theorem floatLaws : Obligations.FloatLaws := by
  refine ⟨?arithmetic, ?conversions, ?singleSource, ?warnings, ?trichotomy, relateFp_greater_eq_less, ?unordered⟩
  case arithmetic =>
    intro f hf m a b
    have hf := FpFormat.standard_of_mem hf
    simp only [List.forall_mem_cons]
    exact ⟨clean_addFp hf m a b, clean_addFp hf m a b.negate, clean_mulFp hf m a b, List.forall_mem_nil _⟩
  case conversions =>
    intro f hf m a v
    have hf := FpFormat.standard_of_mem hf
    simp only [List.forall_mem_cons]
    exact ⟨clean_convertFp hf m a, clean_fromInt hf m v, List.forall_mem_nil _⟩
  case singleSource =>
    intro f hf table b
    have hf := FpFormat.standard_of_mem hf
    simp only [List.forall_mem_cons]
    exact ⟨clean_absFp hf b, clean_rcpFp hf table b, clean_rsqrFp hf table b, List.forall_mem_nil _⟩
  case warnings =>
    intro m a b rel
    simp only [List.forall_mem_cons]
    exact ⟨toInt32_inexOrInval m a, relateFp_inexOrInval rel a b, List.forall_mem_nil _⟩
  case trichotomy =>
    intro a b ha hb
    have h : ¬ (a.isNan || b.isNan) := fun h => (isNan_or_iff.mpr h).elim ha hb
    simp only [relateFp_of_not_nan _ h]
    exact ⟨count_holds_eq_one _, fun _ => denWarn_and_eq_zero (by decide) (by decide) a b⟩
  case unordered =>
    intro a b rel h
    rw [isNan_or_iff] at h
    exact ⟨by rw [relateFp_of_nan rel h], unord_of_nan rel h⟩

end Sys2Proof.Machine
end

section
/-! Conversions (48_float_compare_convert.md R458 to R470): rounding to an integer against its relation
(`roundsToInt_of_roundsTo`), and values that a format represents, which `round_pack` keeps
(`roundPack_of_isNormal`). -/

set_option Elab.async false

namespace Sys2Proof.Machine

open Sys2Proof.Claims

/-! Rounding to an integer (R458). -/

/-- The whole part of `man * 2 ^ exp`, with the remainder and the divisor of the bits that are cut off. -/
def intParts (man : Nat) : Int → Nat × Nat × Nat
  | .ofNat k => (man * 2 ^ k, 0, 1)
  | .negSucc k => (man / 2 ^ (k + 1), man % 2 ^ (k + 1), 2 ^ (k + 1))

theorem intParts_rem_lt (man : Nat) (exp : Int) : (intParts man exp).2.1 < (intParts man exp).2.2 := by
  cases exp with
  | ofNat k => exact one_pos
  | negSucc k => exact Nat.mod_lt _ (Nat.two_pow_pos _)

theorem value_eq_intParts (man : Nat) (exp : Int) :
    man * pow2 exp = (intParts man exp).1 + (intParts man exp).2.1 / (intParts man exp).2.2 := by
  cases exp with
  | ofNat k => simp [intParts, pow2]
  | negSucc k =>
    have hd : ((2 ^ (k + 1) : Nat) : ℚ) ≠ 0 := Nat.cast_ne_zero.mpr (Nat.two_pow_pos _).ne'
    have hpow : pow2 (.negSucc k) = ((2 ^ (k + 1) : Nat) : ℚ)⁻¹ := by rw [← pow2_natCast, ← pow2_neg]; rfl
    rw [hpow, ← div_eq_mul_inv, div_eq_iff hd, intParts, add_mul, div_mul_cancel₀ _ hd]
    exact_mod_cast (Nat.div_add_mod' man _).symm

/-- The factor of a sign. -/
def signFactor (neg : Bool) : Int := if neg then -1 else 1

theorem signed_eq (neg : Bool) (man : Nat) (exp : Int) :
    signed neg man exp = signFactor neg * (man * pow2 exp) := by
  cases neg <;> simp [signed, signFactor]

theorem roundInt_eq (m : FpMode) (neg : Bool) (man : Nat) (exp : Int) : roundInt m neg man exp =
    (signFactor neg * roundedQuotient m neg (intParts man exp), (intParts man exp).2.1 == 0) := by
  cases exp with
  | ofNat k =>
    have hexact : roundedQuotient m neg (intParts man (.ofNat k)) = man * 2 ^ k :=
      roundedQuotient_of_not_up (roundsUp_of_exact one_pos)
    rw [hexact]
    rfl
  | negSucc k => rfl

/-- Rounding a magnitude to units of one is rounding the signed value to an integer. -/
theorem roundsToInt_of_roundsTo {m : FpMode} {neg : Bool} {y : ℚ} {n : Nat} (hy : 0 ≤ y)
    (h : RoundsTo m neg 0 y 0 n) : RoundsToInt m (signFactor neg * y) (signFactor neg * n) := by
  have hn : (0 : ℚ) ≤ n := n.cast_nonneg
  have hsign : ((signFactor neg : Int) : ℚ) * (signFactor neg : Int) = 1 := by cases neg <;> norm_num [signFactor]
  have habs (z : ℚ) : |((signFactor neg : Int) : ℚ) * z| = |z| := by cases neg <;> simp [signFactor]
  have hunit : pow2 (0 - (0 : Nat)) = 1 := by simp [pow2]
  unfold RoundsTo at h
  unfold RoundsToInt
  simp only [hunit, mul_one] at h
  push_cast
  rw [← mul_sub, habs, habs, habs, abs_of_nonneg hy, abs_of_nonneg hn]
  split_ifs at h ⊢ with hnearest htruncate hup hneg hneg
  · obtain ⟨hle, htie⟩ := h
    refine ⟨hle, fun heq => ?_⟩
    have htie := htie heq
    cases ht : m.tie with
    | toEven =>
      have heven : n % 2 = 0 := by simpa only [ht] using htie
      have hdvd : (2 : Int) ∣ n := Int.natCast_dvd_natCast.mpr (Nat.dvd_of_mod_eq_zero heven)
      exact Int.emod_eq_zero_of_dvd (hdvd.mul_left _)
    | awayFromZero => simpa only [ht] using htie
  · obtain ⟨hle, hlt⟩ := h
    refine ⟨hle, hlt, ?_⟩
    rw [mul_mul_mul_comm, hsign, one_mul]
    exact mul_nonneg hy hn
  all_goals
    obtain ⟨hle, hlt⟩ := h
    simp only [signFactor, hneg, if_true, if_false, Bool.false_eq_true, Int.cast_neg, Int.cast_one]
    constructor <;> linarith

/-- An integer is rounded to itself. -/
theorem eq_of_roundsToInt_intCast {m : FpMode} {n v : Int} (h : RoundsToInt m n v) : v = n := by
  unfold RoundsToInt at h
  split_ifs at h with hnearest htruncate hup
  · obtain ⟨hle, -⟩ := h
    have hlt : |n - v| < 1 := by
      rw [← Int.cast_sub, ← Int.cast_abs] at hle
      exact_mod_cast hle.trans_lt one_half_lt_one
    rw [abs_lt] at hlt
    omega
  · obtain ⟨hle, hlt, hsign⟩ := h
    have hle : |v| ≤ |n| := by exact_mod_cast hle
    have hlt : |n| < |v| + 1 := by exact_mod_cast hlt
    have hsign : 0 ≤ n * v := by exact_mod_cast hsign
    obtain heq | heq := abs_eq_abs.mp (le_antisymm hle (by omega))
    · exact heq
    · subst heq
      nlinarith
  · obtain ⟨hle, hlt⟩ := h
    have hle : n ≤ v := by exact_mod_cast hle
    have hlt : v < n + 1 := by exact_mod_cast hlt
    omega
  · obtain ⟨hle, hlt⟩ := h
    have hle : v ≤ n := by exact_mod_cast hle
    have hlt : n < v + 1 := by exact_mod_cast hlt
    omega

/-! A normal number to a 32-bit integer (R458). -/

/-- The integer that a value rounds to. -/
def roundedInt (m : FpMode) (neg : Bool) (man : Nat) (exp : Int) : Int :=
  signFactor neg * roundedQuotient m neg (intParts man exp)

theorem roundsToInt_roundedInt (m : FpMode) (neg : Bool) (man : Nat) (exp : Int) :
    RoundsToInt m (signed neg man exp) (roundedInt m neg man exp) := by
  have h := roundsTo_roundedQuotient (m := m) (neg := neg) (q := (intParts man exp).1) (intParts_rem_lt man exp) 0 0
  have hunit : pow2 (0 - (0 : Nat)) = 1 := by simp [pow2]
  rw [hunit, mul_one, ← value_eq_intParts] at h
  rw [signed_eq]
  exact roundsToInt_of_roundsTo (mul_nonneg man.cast_nonneg (pow2_pos exp).le) h

theorem intParts_exact_iff (m : FpMode) (neg : Bool) (man : Nat) (exp : Int) :
    (intParts man exp).2.1 = 0 ↔ (roundedInt m neg man exp : ℚ) = signed neg man exp := by
  have hsign : ((signFactor neg : Int) : ℚ) ≠ 0 := by cases neg <;> simp [signFactor]
  rw [signed_eq, roundedInt, Int.cast_mul, mul_right_inj' hsign, Int.cast_natCast, value_eq_intParts]
  exact (roundedQuotient_eq_iff (intParts_rem_lt man exp)).symm

/-- The limit of the wrong sign is never the result: rounding keeps the sign. -/
theorem roundedInt_sign (m : FpMode) (neg : Bool) (man : Nat) (exp : Int) :
    (neg = true → roundedInt m neg man exp ≤ 0) ∧ (neg = false → 0 ≤ roundedInt m neg man exp) := by
  constructor <;> rintro rfl <;> simp [roundedInt, signFactor]

theorem toInt32_eq (m : FpMode) (neg : Bool) (man : Nat) (exp : Int) : toInt32 m (.normal neg man exp) =
    if overflows 32 (roundedInt m neg man exp) then ⟨intLimit neg, inex ||| overBit⟩
    else ⟨(word (roundedInt m neg man exp)).toNat,
      bitIf (decide ((roundedInt m neg man exp : ℚ) ≠ signed neg man exp)) inex⟩ := by
  have hexact : decide ((roundedInt m neg man exp : ℚ) ≠ signed neg man exp) =
      !((intParts man exp).2.1 == 0) := by
    rw [Bool.eq_iff_iff, Bool.not_eq_true', beq_eq_false_iff_ne, decide_eq_true_iff, ne_eq, ne_eq,
      intParts_exact_iff m neg man exp]
  rw [hexact, toInt32, roundInt_eq]
  rfl

theorem overflows_eq_true_iff (v : Int) : overflows 32 v = true ↔ v < -2 ^ 31 ∨ 2 ^ 31 ≤ v := by
  rw [overflows, Bool.or_eq_true, decide_eq_true_iff, decide_eq_true_iff]

/-- A normal number by the integer it rounds to. -/
theorem toInt32_normal (m : FpMode) (neg : Bool) (man : Nat) (exp : Int) : toInt32 m (.normal neg man exp) =
    if 2 ^ 31 - 1 < roundedInt m neg man exp then ⟨0x7FFFFFFF, inex ||| overBit⟩
    else if roundedInt m neg man exp < -2 ^ 31 then ⟨0x80000000, inex ||| overBit⟩
    else ⟨(word (roundedInt m neg man exp)).toNat,
      bitIf (decide ((roundedInt m neg man exp : ℚ) ≠ signed neg man exp)) inex⟩ := by
  obtain ⟨hneg, hpos⟩ := roundedInt_sign m neg man exp
  have hover := overflows_eq_true_iff (roundedInt m neg man exp)
  rw [toInt32_eq]
  by_cases hhigh : 2 ^ 31 - 1 < roundedInt m neg man exp
  · obtain rfl : neg = false := Bool.eq_false_iff.mpr fun h => by linarith [hneg h]
    rw [if_pos hhigh, if_pos (hover.mpr (Or.inr (by omega)))]
    rfl
  by_cases hlow : roundedInt m neg man exp < -2 ^ 31
  · obtain rfl : neg = true := Bool.eq_true_of_not_eq_false fun h => by linarith [hpos h]
    rw [if_neg hhigh, if_pos hlow, if_pos (hover.mpr (Or.inl hlow))]
    rfl
  · rw [if_neg hhigh, if_neg hlow, if_neg (mt hover.mp (by omega))]

/-- A normal number whose value is a 32-bit integer gives that integer. -/
theorem toInt32_of_eq_intCast (m : FpMode) {neg : Bool} {man : Nat} {exp n : Int} (hv : signed neg man exp = n)
    (hlo : -2 ^ 31 ≤ n) (hhi : n < 2 ^ 31) : toInt32 m (.normal neg man exp) = ⟨(word n).toNat, 0#11⟩ := by
  have hround := roundsToInt_roundedInt m neg man exp
  rw [hv] at hround
  rw [toInt32_normal, eq_of_roundsToInt_intCast hround, if_neg (by omega), if_neg (by omega), hv]
  simp [bitIf]

/-! Values that a format represents. -/

theorem testedExp_self (m : FpMode) (e : Int) : testedExp m e e = e := by
  unfold testedExp
  split <;> rfl

/-- A quotient that needs no carry and no overflow or underflow. -/
theorem packRounded_of_isNormal {f : FpFormat} (m : FpMode) (neg : Bool) {k : Nat} {e : Int} (h : IsNormal f k e) :
    packRounded f m neg (e + f.fracBits) k false =
      ⟨packFields f neg (e + f.fracBits + f.bias).toNat (k - 2 ^ f.fracBits), 0#11⟩ := by
  obtain ⟨-, hlt, hlow, hhigh⟩ := h
  have hexp : carriedExp f.fracBits k (e + f.fracBits) = e + f.fracBits := if_neg hlt.ne
  have hfrac : carriedFrac f.fracBits k = k - 2 ^ f.fracBits := if_neg hlt.ne
  rw [packRounded_of_normal (by omega) (by rw [hexp, testedExp_self]; omega), hexp, hfrac]
  rfl

/-- A value has one exponent at which its mantissa is normal. -/
theorem log2_add_eq_of_isNormal {f : FpFormat} {man k : Nat} {exp e : Int} (hman : 0 < man) (h : IsNormal f k e)
    (hv : (man : ℚ) * pow2 exp = k * pow2 e) : man.log2 + exp = e + f.fracBits := by
  have hlt : pow2 (man.log2 + exp) < pow2 (e + f.fracBits + 1) := calc
    pow2 (man.log2 + exp) ≤ man * pow2 exp := pow2_log2_le_value hman exp
    _ = k * pow2 e := hv
    _ < (2 ^ (f.fracBits + 1) : Nat) * pow2 e := mul_lt_mul_of_pos_right (Nat.cast_lt.mpr h.man_lt) (pow2_pos e)
    _ = pow2 (e + f.fracBits + 1) := by rw [← pow2_natCast, ← pow2_add]; congr 1; push_cast; ring
  have hgt : pow2 (e + f.fracBits) < pow2 (man.log2 + exp + 1) := calc
    pow2 (e + f.fracBits) = (2 ^ f.fracBits : Nat) * pow2 e := by rw [← pow2_natCast, ← pow2_add, add_comm]
    _ ≤ k * pow2 e := mul_le_mul_of_nonneg_right (Nat.cast_le.mpr h.le_man) (pow2_pos e).le
    _ = man * pow2 exp := hv.symm
    _ < pow2 (man.log2 + exp + 1) := value_lt_pow2_log2 man exp
  rw [pow2_lt_pow2] at hlt hgt
  omega

/-- The quotient is that mantissa, and nothing is cut off. -/
theorem exists_scaleTo_of_isNormal {f : FpFormat} {man k : Nat} {exp e : Int} (hman : 0 < man) (h : IsNormal f k e)
    (hv : (man : ℚ) * pow2 exp = k * pow2 e) : ∃ d, 0 < d ∧ scaleTo man f.fracBits = (k, 0, d) := by
  have hrem := (scaled_scaleTo hman f.fracBits).rem_lt
  have hvalue := (scaled_scaleTo hman f.fracBits).value_mul_pow2 exp
  generalize scaleTo man f.fracBits = c at hrem hvalue ⊢
  obtain ⟨q, rem, d⟩ := c
  have hrem : rem < d := hrem
  rw [log2_add_eq_of_isNormal hman h hv, add_sub_cancel_right, hv] at hvalue
  have hquot : (k : ℚ) = q + rem / d := mul_right_cancel₀ (pow2_pos e).ne' hvalue
  have hfrac := remainder_fraction_lt_one hrem
  have hfrac0 : (0 : ℚ) ≤ rem / d := by positivity
  have hqk : q = k := by
    have hle : q ≤ k := by exact_mod_cast (by linarith : (q : ℚ) ≤ k)
    have hlt : k < q + 1 := by exact_mod_cast (by linarith : (k : ℚ) < q + 1)
    omega
  have hd : (d : ℚ) ≠ 0 := Nat.cast_ne_zero.mpr (by omega)
  have hzero : (rem : ℚ) / d = 0 := by rw [hqk] at hquot; linarith
  have hrem0 : rem = 0 := by simpa [hd] using hzero
  exact ⟨d, by omega, by rw [hqk, hrem0]⟩

/-- Rounding keeps a value that is a normal number of the format. -/
theorem roundPack_of_isNormal {f : FpFormat} (m : FpMode) (neg : Bool) {man k : Nat} {exp e : Int} (hman : 0 < man)
    (h : IsNormal f k e) (hv : (man : ℚ) * pow2 exp = k * pow2 e) : roundPack f m neg man exp =
      ⟨packFields f neg (e + f.fracBits + f.bias).toNat (k - 2 ^ f.fracBits), 0#11⟩ := by
  obtain ⟨d, hd, hscale⟩ := exists_scaleTo_of_isNormal hman h hv
  rw [roundPack_eq, hscale, log2_add_eq_of_isNormal hman h hv, roundedQuotient_of_not_up (roundsUp_of_exact hd)]
  exact packRounded_of_isNormal m neg h

theorem IsNormal.pos {f : FpFormat} {k : Nat} {e : Int} (h : IsNormal f k e) : 0 < k :=
  (Nat.two_pow_pos _).trans_le h.le_man

/-! Patterns from their fields, and back (47_float_arith.md R403). -/

section
variable {f : FpFormat} {b : Nat}

theorem packFields_of_fields (h : b < 2 ^ (f.fracBits + f.expBits + 1)) :
    packFields f (signField f b) (expField f b) (fracField f b) = b := by
  have hsign : (signField f b).toNat = b / 2 ^ f.fracBits / 2 ^ f.expBits := by
    have hlt : b / 2 ^ (f.fracBits + f.expBits) < 2 :=
      Nat.div_lt_of_lt_mul (by rwa [← pow_succ])
    rw [signField, Nat.mod_eq_of_lt hlt, Nat.div_div_eq_div_mul, ← pow_add]
    generalize b / 2 ^ (f.fracBits + f.expBits) = n at hlt
    obtain rfl | rfl : n = 0 ∨ n = 1 := by omega
    · rfl
    · rfl
  rw [packFields_eq_mul_add, hsign, expField, fracField, Nat.div_add_mod', Nat.div_add_mod']

theorem unpack_packZero (hf : f.Standard) (neg : Bool) : unpack f (packZero f neg) = .zero neg := by
  have htop := hf.emax_eq
  have hpos := Nat.two_pow_pos f.expBits
  rw [unpack_eq, packZero, expField_packFields hpos (Nat.two_pow_pos _), fracField_packFields (Nat.two_pow_pos _),
    signField_packFields hpos (Nat.two_pow_pos _), if_neg (by omega), if_pos rfl, if_pos rfl]

theorem unpack_packInf (neg : Bool) : unpack f (packInf f neg) = .inf neg := by
  have hlt : f.emax < 2 ^ f.expBits := Nat.sub_lt (Nat.two_pow_pos _) one_pos
  rw [unpack_eq, packInf, expField_packFields hlt (Nat.two_pow_pos _), fracField_packFields (Nat.two_pow_pos _),
    signField_packFields hlt (Nat.two_pow_pos _), if_pos rfl, if_pos rfl]

/-- A pattern of the format's width is the one of its normal number. -/
theorem packFields_of_unpack_normal {neg : Bool} {man : Nat} {exp : Int} (h : unpack f b = .normal neg man exp)
    (hb : b < 2 ^ (f.fracBits + f.expBits + 1)) :
    packFields f neg (exp + f.fracBits + f.bias).toNat (man - 2 ^ f.fracBits) = b := by
  obtain ⟨-, -, rfl, rfl, rfl⟩ := unpack_eq_normal_iff.mp h
  have hexp : ((expField f b : Int) - f.bias - f.fracBits + f.fracBits + f.bias).toNat = expField f b := by omega
  rw [hexp, Nat.add_sub_cancel_left, packFields_of_fields hb]

end

/-! An integer to a floating-point number and back (48_float_compare_convert.md R463 to R466). -/

/-- An integer of at most `p + 1` bits, or 2^(p+1), is a normal number. -/
theorem exists_isNormal_of_le {f : FpFormat} (hf : f.fracBits < f.bias) {n : Nat} (hpos : 0 < n)
    (hle : n ≤ 2 ^ (f.fracBits + 1)) : ∃ k e, IsNormal f k e ∧ (n : ℚ) = k * pow2 e := by
  obtain rfl | hlt := hle.eq_or_lt
  · have hlt := Nat.pow_lt_pow_right one_lt_two (Nat.lt_succ_self f.fracBits)
    refine ⟨2 ^ f.fracBits, 1, ⟨le_rfl, hlt, by omega, by omega⟩, ?_⟩
    rw [← pow2_natCast, ← pow2_natCast, ← pow2_add, Nat.cast_succ]
  · have hlog : n.log2 ≤ f.fracBits := Nat.lt_succ_iff.mp ((Nat.log2_lt hpos.ne').mpr hlt)
    obtain ⟨hk, hklt, -, hvalue⟩ := scaled_of_log2_le hpos hlog
    refine ⟨_, n.log2 - f.fracBits, ⟨hk, hklt, by omega, by omega⟩, ?_⟩
    rw [hvalue, Nat.cast_zero, zero_div, add_zero]

theorem rounded_fromInt {f : FpFormat} (hf : f.Standard) (m : FpMode) {v : Int} (hv : v ≠ 0) :
    Rounded f m (decide (v < 0)) |(v : ℚ)| (fromInt f m v) := by
  have habs : |(v : ℚ)| = v.natAbs * pow2 0 := by simp [pow2]
  rw [fromInt, if_neg hv, habs]
  exact rounded_roundPack hf m _ (Int.natAbs_pos.mpr hv) 0

/-- An integer that the format represents is converted to a normal number of its value, without warnings. -/
theorem fromInt_of_natAbs_le {f : FpFormat} (hf : f.fracBits < f.bias) (m : FpMode) {v : Int} (hv : v ≠ 0)
    (hle : v.natAbs ≤ 2 ^ (f.fracBits + 1)) : ∃ k e, IsNormal f k e ∧ signed (decide (v < 0)) k e = v ∧
      fromInt f m v =
        ⟨packFields f (decide (v < 0)) (e + f.fracBits + f.bias).toNat (k - 2 ^ f.fracBits), 0#11⟩ := by
  have hpos := Int.natAbs_pos.mpr hv
  obtain ⟨k, e, hk, hvalue⟩ := exists_isNormal_of_le hf hpos hle
  have hzero : pow2 0 = 1 := zpow_zero _
  refine ⟨k, e, hk, ?_, ?_⟩
  · have hsigned := signed_natAbs v 0
    rwa [signed_eq, hzero, mul_one, mul_one, hvalue, ← signed_eq] at hsigned
  · rw [fromInt, if_neg hv]
    exact roundPack_of_isNormal m _ hpos hk (by rw [hzero, mul_one, hvalue])

/-- There and back: the integer itself, with no warning either way. -/
theorem toInt32_fromInt {f : FpFormat} (hf : f.Standard) (hbias : f.fracBits < f.bias) (m k : FpMode) {n : Int}
    (hle : n.natAbs ≤ 2 ^ (f.fracBits + 1)) (hlo : -2 ^ 31 ≤ n) (hhi : n < 2 ^ 31) :
    (fromInt f m n).warn = 0#11 ∧ toInt32 k (unpack f (fromInt f m n).bits) = ⟨(word n).toNat, 0#11⟩ := by
  obtain rfl | hn := eq_or_ne n 0
  · have hzero : fromInt f m 0 = ⟨packZero f false, 0#11⟩ := if_pos rfl
    rw [hzero, unpack_packZero hf]
    exact ⟨rfl, rfl⟩
  · obtain ⟨man, exp, hman, hvalue, heq⟩ := fromInt_of_natAbs_le hbias m hn hle
    rw [heq, (normalBits_packFields hf _ hman).unpack_eq]
    exact ⟨rfl, toInt32_of_eq_intCast k hvalue hlo hhi⟩

/-! Single to double precision and back (R461, R467). -/

theorem standard_single : single.Standard := FpFormat.standard_of_mem (by decide)

theorem standard_double : double.Standard := FpFormat.standard_of_mem (by decide)

/-- A normal number of single precision is one of double precision, with 29 more fraction bits. -/
theorem IsNormal.widen {k : Nat} {e : Int} (h : IsNormal single k e) : IsNormal double (k * 2 ^ 29) (e - 29) := by
  obtain ⟨hk, hlt, hlow, hhigh⟩ := h
  simp only [single, FpFormat.bias] at hk hlt hlow hhigh
  constructor <;> simp only [double, FpFormat.bias] <;> omega

theorem widen_value (k : Nat) (e : Int) : (k : ℚ) * pow2 e = (k * 2 ^ 29 : Nat) * pow2 (e - 29) := by
  have hexp : e = (29 : Nat) + (e - 29) := by push_cast; ring
  rw [hexp, pow2_add, pow2_natCast, ← mul_assoc, ← Nat.cast_mul]
  congr 2
  push_cast
  ring

theorem convertFp_double_of_isNormal (m : FpMode) (neg : Bool) {k : Nat} {e : Int} (h : IsNormal single k e) :
    convertFp double m (.normal neg k e) =
      ⟨packFields double neg (e - 29 + double.fracBits + double.bias).toNat (k * 2 ^ 29 - 2 ^ double.fracBits),
        0#11⟩ :=
  roundPack_of_isNormal m neg h.pos h.widen (widen_value k e)

theorem convertFp_single_of_widened (m : FpMode) (neg : Bool) {k : Nat} {e : Int} (h : IsNormal single k e) :
    convertFp single m (.normal neg (k * 2 ^ 29) (e - 29)) =
      ⟨packFields single neg (e + single.fracBits + single.bias).toNat (k - 2 ^ single.fracBits), 0#11⟩ :=
  roundPack_of_isNormal m neg h.widen.pos h (widen_value k e).symm

/-- The class of a word that is no denormal, infinity or NaN. -/
theorem unpack_single_cases {b : Nat} (hden : expField single b ≠ 0 ∨ fracField single b = 0)
    (htop : expField single b ≠ single.emax) :
    (unpack single b = .zero (signField single b) ∧ expField single b = 0 ∧ fracField single b = 0) ∨
      ∃ neg k e, unpack single b = .normal neg k e := by
  rw [unpack_eq, if_neg htop]
  by_cases hzero : expField single b = 0
  · have hfrac := hden.resolve_left (not_not_intro hzero)
    rw [if_pos hzero, if_pos hfrac]
    exact Or.inl ⟨rfl, hzero, hfrac⟩
  · rw [if_neg hzero]
    exact Or.inr ⟨_, _, _, rfl⟩

/-- A zero or normal word survives double precision, with no warning. -/
theorem convertFp_single_double (m k : FpMode) (b : Word)
    (hden : expField single b.toNat ≠ 0 ∨ fracField single b.toNat = 0)
    (htop : expField single b.toNat ≠ single.emax) :
    (convertFp double m (unpack single b.toNat)).warn = 0#11 ∧
      convertFp single k (unpack double (convertFp double m (unpack single b.toNat)).bits) = ⟨b.toNat, 0#11⟩ := by
  obtain ⟨hunpack, hexp, hfrac⟩ | ⟨neg, man, e, hunpack⟩ := unpack_single_cases hden htop
  · have hbits : packZero single (signField single b.toNat) = b.toNat := by
      conv_rhs => rw [← packFields_of_fields (f := single) b.isLt, hexp, hfrac]
      rfl
    have hwide : convertFp double m (.zero (signField single b.toNat)) =
      ⟨packZero double (signField single b.toNat), 0#11⟩ := rfl
    rw [hunpack, hwide, unpack_packZero standard_double]
    exact ⟨rfl, congrArg (FpResult.mk · 0#11) hbits⟩
  · have hnormal := isNormal_of_unpack standard_single hunpack
    rw [hunpack, convertFp_double_of_isNormal m neg hnormal,
      (normalBits_packFields standard_double neg hnormal.widen).unpack_eq, convertFp_single_of_widened k neg hnormal,
      packFields_of_unpack_normal hunpack b.isLt]
    exact ⟨rfl, rfl⟩

/-- An infinity survives double precision, with INFO. -/
theorem convertFp_single_double_inf (m k : FpMode) (b : Word) (h : expField single b.toNat = single.emax)
    (hfrac : fracField single b.toNat = 0) :
    convertFp single k (unpack double (convertFp double m (unpack single b.toNat)).bits) = ⟨b.toNat, info⟩ := by
  have hbits : packInf single (signField single b.toNat) = b.toNat := by
    conv_rhs => rw [← packFields_of_fields (f := single) b.isLt, h, hfrac]
    rfl
  have hwide : convertFp double m (.inf (signField single b.toNat)) =
    ⟨packInf double (signField single b.toNat), info⟩ := rfl
  have hunpack : unpack single b.toNat = .inf (signField single b.toNat) := by
    rw [unpack_eq, if_pos h, if_pos hfrac]
  rw [hunpack, hwide, unpack_packInf]
  exact congrArg (FpResult.mk · info) hbits

/-- A normal number of single precision keeps its fields in double precision: the exponent field grows by the difference
of the biases, the fraction by 29 bits. -/
theorem convertFp_double_pattern (m : FpMode) (n : Bool) {e frac : Nat} (hlo : 1 ≤ e) (hhi : e ≤ 254)
    (hfrac : frac < 2 ^ 23) : convertFp double m (unpack single (pattern single n e frac)) =
      ⟨pattern double n (e + 896) (frac * 2 ^ 29), 0#11⟩ := by
  have hexp : e < 2 ^ single.expBits := by simp only [single]; omega
  have hfrac : frac < 2 ^ single.fracBits := hfrac
  have hunpack : unpack single (pattern single n e frac) =
      .normal n (2 ^ single.fracBits + frac) ((e : Int) - single.bias - single.fracBits) := by
    rw [pattern_eq_packFields, unpack_eq_normal_iff, expField_packFields hexp hfrac, fracField_packFields hfrac,
      signField_packFields hexp hfrac]
    refine ⟨?_, by omega, rfl, rfl, rfl⟩
    simp only [single, FpFormat.emax]
    omega
  have hexp' : ((e : Int) - single.bias - single.fracBits - 29 + double.fracBits + double.bias).toNat = e + 896 := by
    simp only [single, double, FpFormat.bias]
    omega
  have hfrac' : (2 ^ single.fracBits + frac) * 2 ^ 29 - 2 ^ double.fracBits = frac * 2 ^ 29 := by
    simp only [single, double]
    omega
  rw [hunpack, convertFp_double_of_isNormal m n (isNormal_of_unpack standard_single hunpack), pattern_eq_packFields,
    hexp', hfrac']

/-- Settles O58: integers by `toInt32_fromInt`, patterns by `convertFp_single_double`. -/
theorem conversionLaws : Obligations.ConversionLaws := by
  refine ⟨fun m k n hlo hhi => ?double, fun m k n hlo hhi => ?single, fun m k b => convertFp_single_double m k b,
    fun m k b h => ?infinity⟩
  case double => exact toInt32_fromInt standard_double (by decide) m k (by simp only [double]; omega) hlo hhi
  case single =>
    exact toInt32_fromInt standard_single (by decide) m k (by simp only [single]; omega) (by omega) (by omega)
  case infinity =>
    refine convertFp_single_double_inf m k b ?_ ?_
    · simp only [expField, single, FpFormat.emax]
      omega
    · simp only [fracField, single]
      omega

/-- Settles O59: rounding to an integer by `roundsToInt_roundedInt`, the other roundings by `rounded_roundPack`, and the
classes that need no rounding by the definitions. -/
theorem conversionValues : Obligations.ConversionValues := by
  refine ⟨fun m n q => ⟨?nan, rfl, rfl, rfl⟩, fun m n man exp _ => ?toInt, fun f hf m v => ⟨?zero, ?integer⟩,
    fun f hf m n q => ?format, fun m n e frac => convertFp_double_pattern m n⟩
  case nan => rfl
  case toInt => exact ⟨_, roundsToInt_roundedInt m n man exp, toInt32_normal m n man exp⟩
  case zero =>
    rintro rfl
    exact congrArg (FpResult.mk · 0#11) (packZero_false f)
  case integer => exact rounded_fromInt (FpFormat.standard_of_mem hf) m
  case format =>
    rw [nanOut_eq_packNan, infinity_eq_packInf, pattern_zero_eq_packZero, nanBits2_eq]
    exact ⟨rfl, rfl, rfl, rfl, fun man exp hman => rounded_roundPack (FpFormat.standard_of_mem hf) m n hman exp⟩

end Sys2Proof.Machine
end

section
/-! Interrupts (60_exceptions.md R485 to R498): the choice of the one to take (`State.interruptToTake_eq_some_iff`), the
seven empty cycles of its entry (`State.Entering`), and reset (70_reset_and_hazards.md R541 to R545). -/

set_option Elab.async false

namespace Sys2Proof.Machine

open Sys2Proof.Claims

/-! The interrupt to take. -/

theorem State.branchNear_eq_false_iff (s : State) : s.branchNear = false ↔ NoBranchNear s := by
  have hmem (c : List Issue) : c ∈ s.history.take 5 ↔ ∃ k < 5, s.history[k]? = some c := by
    rw [List.mem_iff_getElem?]
    refine exists_congr fun k => ?_
    rw [List.getElem?_take]
    split <;> simp [*]
  rw [Bool.eq_false_iff, ne_eq, State.branchNear]
  simp only [List.any_eq_true, beq_iff_eq, hmem, NoBranchNear]
  exact ⟨fun h k hk c hc j hj hb => h ⟨c, ⟨k, hk, hc⟩, j, hj, hb⟩,
    fun h ⟨c, ⟨k, hk, hc⟩, j, hj, hb⟩ => h k hk c hc j hj hb⟩

theorem State.interruptible_iff (s : State) :
    s.interruptible = true ↔ s.powerDown ≠ some .pd2 ∧ s.powerDown ≠ some .pd3 ∧ NoBranchNear s := by
  rw [State.interruptible, Bool.and_eq_true, Bool.and_eq_true, bne_iff_ne, bne_iff_ne, Bool.not_eq_true',
    State.branchNear_eq_false_iff, and_assoc]

/-- The lowest set bit, numbered from 4 (60_exceptions.md R485). -/
theorem lowestInt_eq_some_iff (bits : BitVec 12) (n : Nat) : lowestInt bits = some n ↔
    4 ≤ n ∧ n ≤ 15 ∧ bits.getLsbD (n - 4) = true ∧
      ∀ m, 4 ≤ m → m < n → bits.getLsbD (m - 4) = false := by
  simp only [lowestInt_eq, Option.map_eq_some_iff, List.find?_range_eq_some, List.mem_range, Bool.not_eq_true']
  constructor
  · rintro ⟨k, ⟨hbit, hk, hlow⟩, rfl⟩
    exact ⟨by omega, by omega, hbit, fun m hm hlt => hlow (m - 4) (by omega)⟩
  · rintro ⟨hge, hle, hbit, hlow⟩
    refine ⟨n - 4, ⟨hbit, by omega, fun j hj => ?_⟩, by omega⟩
    exact hlow (j + 4) (by omega) (by omega)

theorem pendingEnabled_iff (s : State) (n : Nat) : PendingEnabled s n ↔ (s.ifl &&& s.ie).getLsbD (n - 4) = true := by
  rw [PendingEnabled, BitVec.getLsbD_and, Bool.and_eq_true]

theorem State.lowestInt_pending_iff (s : State) (n : Nat) : lowestInt (s.ifl &&& s.ie) = some n ↔
    4 ≤ n ∧ n ≤ 15 ∧ PendingEnabled s n ∧ ∀ m, 4 ≤ m → m < n → ¬ PendingEnabled s m := by
  simp only [lowestInt_eq_some_iff, pendingEnabled_iff, Bool.not_eq_true]

/-- NMI first, then the maskable interrupts by their number. -/
theorem State.interruptToTake_of_interruptible {s : State} (h : s.interruptible = true) (n : Nat) :
    s.interruptToTake = some n ↔ FirstToTake s n := by
  unfold State.interruptToTake FirstToTake
  simp only [h, if_true, Bool.and_eq_true]
  by_cases hnmi : s.nmif = true ∧ s.nmie = true
  · rw [if_pos hnmi, Option.some_inj]
    exact ⟨fun hn => Or.inl ⟨hn.symm, hnmi⟩, fun hf => (hf.resolve_right fun hr => hr.1 hnmi).1.symm⟩
  by_cases hgie : s.gie = true ∧ s.nmie = true
  · rw [if_neg hnmi, if_pos hgie, State.lowestInt_pending_iff]
    constructor
    · exact fun ⟨hlo, hhi, hn, hfirst⟩ => Or.inr ⟨hnmi, hlo, hhi, hgie.1, hgie.2, hn, hfirst⟩
    · rintro (⟨-, hf⟩ | ⟨-, hlo, hhi, -, -, hn, hfirst⟩)
      · exact absurd hf hnmi
      · exact ⟨hlo, hhi, hn, hfirst⟩
  · rw [if_neg hnmi, if_neg hgie]
    simp only [reduceCtorEq, false_iff, not_or]
    exact ⟨fun h => hnmi h.2, fun ⟨_, _, _, hg, he, _⟩ => hgie ⟨hg, he⟩⟩

theorem State.interruptToTake_of_not_interruptible {s : State} (h : ¬ s.interruptible = true) :
    s.interruptToTake = none := if_neg h

theorem State.interruptToTake_eq_some_iff (s : State) (n : Nat) : s.interruptToTake = some n ↔
    NoBranchNear s ∧ s.powerDown ≠ some .pd2 ∧ s.powerDown ≠ some .pd3 ∧ FirstToTake s n := by
  by_cases h : s.interruptible = true
  · obtain ⟨h2, h3, hb⟩ := s.interruptible_iff.mp h
    rw [State.interruptToTake_of_interruptible h]
    exact ⟨fun hn => ⟨hb, h2, h3, hn⟩, fun ⟨_, _, _, hn⟩ => hn⟩
  · rw [State.interruptToTake_of_not_interruptible h]
    exact ⟨fun hn => (nomatch hn), fun ⟨hb, h2, h3, _⟩ => (h (s.interruptible_iff.mpr ⟨h2, h3, hb⟩)).elim⟩

theorem step_of_interrupt {s : State} {n : Nat} (hr : s.input.reset = false) (he : s.emptyLeft = 0)
    (hi : s.interruptToTake = some n) : step s = .next (s.takeInterrupt n).quiet := by
  simp [step, nextCycle, hr, he, hi]

/-- Settles O42: the choice by `State.interruptToTake_eq_some_iff`. -/
theorem interruptConditions : Obligations.InterruptConditions := by
  refine ⟨State.interruptToTake_eq_some_iff, fun s n hr he hi => ?_⟩
  rw [step_of_interrupt hr he hi, State.quiet, State.takeInterrupt_pc]

/-! The empty cycles of an interrupt entry (60_exceptions.md R497). -/

/-- An interrupt entry under way, nothing else in flight: the service packet's address `a` lands at the end of the cycle
`k` cycles from now. -/
structure State.Entering (s : State) (k : Nat) (a : Word) : Prop where
  branches : s.branches = [⟨a, k⟩]
  controls : s.controls = []
  nopLeft : s.nopLeft = 0
  idle : s.idle = false
  powerDown : s.powerDown = none

/-- The CPU fetches the packet at `a` next. -/
def State.ReadyAt (s : State) (a : Word) : Prop :=
  s.pc = a ∧ s.emptyLeft = 0 ∧ s.branches = [] ∧ s.nopLeft = 0 ∧ s.idle = false ∧ s.powerDown = none

theorem State.quiet_powerDown_of_none {s : State} (hc : s.controls = []) (h : s.powerDown = none) :
    s.quiet.powerDown = none := by
  have hw : ¬ s.Wakes := fun hw => by simp [hw.1] at h
  rw [State.quiet, (State.endCycle_power hc [] s.pc).1, State.latchFlags_of_not_wakes hw]
  exact h

theorem State.Entering.quiet {s : State} {k : Nat} {a : Word} (h : s.Entering (k + 1) a) : s.quiet.Entering k a := by
  obtain ⟨hbranches, hcontrols, hnop, hidle, hpower⟩ := h
  have hland : NoBranchLands s := by simp [NoBranchLands, hbranches]
  obtain ⟨-, hnop', hidle'⟩ := quiet_of_none_lands hcontrols hland
  refine ⟨?_, State.endCycle_controls .., hnop'.trans hnop, hidle'.trans hidle,
    State.quiet_powerDown_of_none hcontrols hpower⟩
  rw [State.quiet, State.endCycle_branches, hbranches]
  rfl

/-- The last empty cycle: the service packet's address lands. -/
theorem State.Entering.quiet_readyAt {s : State} {a : Word} (h : s.Entering 0 a) (ha : a.toNat % 4 = 0)
    (he : s.emptyLeft = 0) : s.quiet.ReadyAt a := by
  obtain ⟨hbranches, hcontrols, hnop, hidle, hpower⟩ := h
  have hland : BranchLands s a := ⟨by rw [hbranches]; rfl, ha⟩
  obtain ⟨hpc, hnop', hidle'⟩ := quiet_of_lands hcontrols hland
  refine ⟨hpc, (State.endCycle_emptyLeft ..).trans he, ?_, hnop', hidle',
    State.quiet_powerDown_of_none hcontrols hpower⟩
  rw [State.quiet, State.endCycle_branches, hbranches]
  rfl

theorem State.after_succ_of_step {s t : State} (h : step s = .next t) (n : Nat) : s.after (n + 1) = t.after n := by
  rw [State.after, h]

theorem step_of_emptyLeft {s : State} {k : Nat} (hr : s.input.reset = false) (he : s.emptyLeft = k + 1) :
    step s = .next { s with emptyLeft := k }.quiet := by
  simp [step, nextCycle, hr, he]

/-- No reset input in the next cycles: none in this one, and none in those after it. -/
theorem State.noReset_of_take {s : State} {n : Nat} (h : ∀ c ∈ s.inputs.take (n + 1), c.reset = false) :
    s.input.reset = false ∧ ∀ c ∈ s.inputs.tail.take n, c.reset = false := by
  unfold State.input
  cases hs : s.inputs with
  | nil => simp
  | cons c rest =>
    rw [hs, List.take_succ_cons] at h
    exact ⟨h c List.mem_cons_self, fun d hd => h d (List.mem_cons_of_mem c hd)⟩

/-- The rest of an interrupt entry: `k` cycles before the one at whose end the service packet's address lands. -/
theorem State.Entering.after {k : Nat} {a : Word} (ha : a.toNat % 4 = 0) {s : State} (h : s.Entering k a)
    (he : s.emptyLeft = k + 1) (hr : ∀ c ∈ s.inputs.take (k + 1), c.reset = false) :
    ∃ u, s.after (k + 1) = some u ∧ u.ReadyAt a ∧ (s.device.externalWriters = false → u.mem = s.mem) := by
  induction k generalizing s with
  | zero =>
    obtain ⟨hreset, -⟩ := State.noReset_of_take hr
    have hentering : State.Entering { s with emptyLeft := 0 } 0 a :=
      ⟨h.branches, h.controls, h.nopLeft, h.idle, h.powerDown⟩
    exact ⟨_, State.after_succ_of_step (step_of_emptyLeft hreset he) 0, hentering.quiet_readyAt ha rfl,
      State.quiet_mem { s with emptyLeft := 0 }⟩
  | succ k ih =>
    obtain ⟨hreset, hlater⟩ := State.noReset_of_take hr
    have hentering : State.Entering { s with emptyLeft := k + 1 } (k + 1) a :=
      ⟨h.branches, h.controls, h.nopLeft, h.idle, h.powerDown⟩
    obtain ⟨u, hu, hready, hmem⟩ := ih hentering.quiet (by rw [State.quiet, State.endCycle_emptyLeft])
      (by rwa [State.quiet, State.endCycle_inputs])
    refine ⟨u, (State.after_succ_of_step (step_of_emptyLeft hreset he) _).trans hu, hready, fun hx => ?_⟩
    exact (hmem (by rwa [State.quiet, State.endCycle_device])).trans
      (State.quiet_mem { s with emptyLeft := k + 1 } hx)

/-! The first cycle of an interrupt entry. -/

/-- What a quiet cycle without control effects leaves in the registers that an interrupt writes. -/
theorem State.quiet_enables {s : State} (hc : s.controls = []) :
    s.quiet.irp = s.irp ∧ s.quiet.nrp = s.nrp ∧ s.quiet.gie = s.gie ∧ s.quiet.pgie = s.pgie ∧
      s.quiet.nmie = s.nmie := by
  rw [State.quiet, State.endCycle_eq, State.landControls_of_nil (by rw [State.latchFlags_controls, hc])]
  exact ⟨s.latchFlags_irp, s.latchFlags_nrp, s.latchFlags_gie, s.latchFlags_pgie, s.latchFlags_nmie⟩

theorem State.servicePacket_eq_word (s : State) (n : Nat) :
    s.servicePacket n = word (s.istb.toNat * 2 ^ 10 + 32 * n : Nat) := by
  apply BitVec.eq_of_toNat_eq
  rw [State.servicePacket, word, BitVec.ofInt_natCast, BitVec.toNat_add, toNat_append_eq_add]
  simp

theorem State.servicePacket_aligned (s : State) (n : Nat) : (s.servicePacket n).toNat % 4 = 0 := by
  rw [State.servicePacket_eq_word, word, BitVec.ofInt_natCast, BitVec.toNat_ofNat]
  omega

theorem State.takeInterrupt_entering {s : State} (hb : s.branches = []) (hc : s.controls = []) (n : Nat) :
    (s.takeInterrupt n).Entering 6 (s.servicePacket n) := by
  obtain ⟨pwrd, ht⟩ := s.takeInterrupt_frame n
  rw [ht]
  split <;> exact ⟨by simp [hb], hc, rfl, rfl, rfl⟩

/-- What no interrupt changes before its first cycle ends. -/
theorem State.takeInterrupt_keeps (s : State) (n : Nat) : (s.takeInterrupt n).device = s.device ∧
    (s.takeInterrupt n).inputs = s.inputs ∧ (s.takeInterrupt n).mem = s.mem := by
  obtain ⟨pwrd, ht⟩ := s.takeInterrupt_frame n
  rw [ht]
  split <;> exact ⟨rfl, rfl, rfl⟩

theorem State.input_congr {s t : State} (h : t.inputs = s.inputs) : t.input = s.input := by
  rw [State.input, State.input, h]

/-- NMI: the return address in NRP, NMIE and the flag cleared. -/
theorem State.takeInterrupt_quiet_nmi {s : State} (hc : s.controls = []) :
    (s.takeInterrupt 1).quiet.nrp = s.pc ∧ (s.takeInterrupt 1).quiet.irp = s.irp ∧
      (s.takeInterrupt 1).quiet.nmie = false ∧ (s.takeInterrupt 1).quiet.gie = s.gie ∧
      (s.takeInterrupt 1).quiet.pgie = s.pgie ∧ (s.takeInterrupt 1).quiet.nmif = s.input.nmi := by
  obtain ⟨hirp, hnrp, hgie, hpgie, hnmie⟩ := State.quiet_enables (s := s.takeInterrupt 1) hc
  rw [hirp, hnrp, hgie, hpgie, hnmie]
  exact ⟨rfl, rfl, rfl, rfl, rfl, State.endCycle_nmif ..⟩

/-- The acknowledged flag is 0 unless an input or a write to ISR sets it again. -/
theorem getLsbD_nextFlags_of_acknowledged {s t : State} {k : Nat} (hk : k < 12) (hinputs : t.inputs = s.inputs)
    (hisr : t.isrPend = s.isrPend) (hifl : t.ifl = s.ifl &&& ~~~(1#12 <<< k)) :
    t.nextFlags.getLsbD k = (s.input.ints.getLsbD k || s.isrPend.getLsbD k) := by
  have hflag : t.ifl.getLsbD k = false := by simp [hifl, hk]
  rw [getLsbD_nextFlags t k hk, hflag, hisr, State.input_congr hinputs, ite_self, Bool.if_true_left, Bool.or_false,
    Bool.decide_eq_true]

/-- A maskable interrupt: the return address in IRP, GIE saved in PGIE and cleared, the flag cleared unless its input
or a write to ISR sets it again. -/
theorem State.takeInterrupt_quiet_maskable {s : State} (hc : s.controls = []) {n : Nat} (hn : n ≠ 1)
    (hhi : n ≤ 15) :
    (s.takeInterrupt n).quiet.irp = s.pc ∧ (s.takeInterrupt n).quiet.nrp = s.nrp ∧
      (s.takeInterrupt n).quiet.pgie = s.gie ∧ (s.takeInterrupt n).quiet.gie = false ∧
      (s.takeInterrupt n).quiet.nmie = s.nmie ∧ (s.takeInterrupt n).quiet.ifl.getLsbD (n - 4) =
        (s.input.ints.getLsbD (n - 4) || s.isrPend.getLsbD (n - 4)) := by
  obtain ⟨pwrd, ht⟩ := s.takeInterrupt_frame n
  simp only [if_neg hn] at ht
  obtain ⟨hirp, hnrp, hgie, hpgie, hnmie⟩ := State.quiet_enables (s := s.takeInterrupt n) (by rw [ht, hc])
  rw [hirp, hnrp, hgie, hpgie, hnmie, State.quiet, State.endCycle_ifl, ht]
  exact ⟨rfl, rfl, rfl, rfl, rfl, getLsbD_nextFlags_of_acknowledged (by omega) rfl rfl rfl⟩

theorem firstToTake_le {s : State} {n : Nat} (h : FirstToTake s n) : n ≤ 15 := by
  obtain ⟨rfl, -⟩ | ⟨-, -, hle, -⟩ := h
  · decide
  · exact hle

/-- Settles O43: the first cycle is a quiet one of `State.takeInterrupt`, and the six after it bring the service packet's
address to `pc` (`State.Entering.after`). -/
theorem interruptEntry : Obligations.InterruptEntry := by
  intro s n he hi hb hc hr
  obtain ⟨hreset, hlater⟩ := State.noReset_of_take hr
  have hstep := step_of_interrupt hreset he hi
  have hentering := (State.takeInterrupt_entering hb hc n).quiet
  obtain ⟨hdevice, hinputs, hmem⟩ := s.takeInterrupt_keeps n
  have hquietMem (hx : s.device.externalWriters = false) : (s.takeInterrupt n).quiet.mem = s.mem :=
    (State.quiet_mem _ (by rwa [hdevice])).trans hmem
  refine ⟨⟨_, hstep, hentering.nopLeft, hentering.idle, hentering.powerDown, hquietMem, ?nmi,
    fun hn => ?maskable⟩, ?_⟩
  case nmi =>
    rintro rfl
    exact State.takeInterrupt_quiet_nmi hc
  case maskable =>
    obtain ⟨-, -, -, hfirst⟩ := (s.interruptToTake_eq_some_iff n).mp hi
    exact State.takeInterrupt_quiet_maskable hc hn (firstToTake_le hfirst)
  obtain ⟨-, hcount, -⟩ := s.takeInterrupt_entry n
  obtain ⟨u, hu, ⟨hpc, hempty, hbranches, hnop, hidle, hpower⟩, hkept⟩ :=
    hentering.after (s.servicePacket_aligned n) (by rw [State.quiet, State.endCycle_emptyLeft, hcount])
      (by rwa [State.quiet, State.endCycle_inputs, hinputs])
  refine ⟨u, (State.after_succ_of_step hstep 6).trans hu, hpc.trans (s.servicePacket_eq_word n), hempty, hbranches,
    hnop, hidle, hpower, fun hx => ?_⟩
  exact (hkept (by rwa [State.quiet, State.endCycle_device, hdevice])).trans (hquietMem hx)

/-! Reset (60_exceptions.md R498, 70_reset_and_hazards.md R541 to R545). -/

theorem step_of_reset {s : State} (h : s.input.reset = true) : step s = .next s.warmReset := by
  simp [step, nextCycle, h]

/-- Settles O50: the step is `State.warmReset`, which keeps only the named fields. -/
theorem resetInput : Obligations.ResetInput := by
  intro s h
  refine ⟨s.warmReset, step_of_reset h, rfl, fun hx => ?_⟩
  rw [State.warmReset_mem, State.warmReset_codeStores, State.landExternal_of_none (State.external_of_base hx)]
  exact ⟨rfl, rfl⟩

/-- Settles O49: NMIE is 0 after reset, which keeps every interrupt away; the other values are those of
`State.reset`. -/
theorem resetValues : Obligations.ResetValues := by
  refine ⟨rfl, by decide, rfl, by decide, rfl, rfl, rfl, rfl, rfl, rfl, rfl, rfl, rfl, rfl, rfl, rfl, ?_⟩
  exact State.interruptToTake_of_nmie_clear rfl

end Sys2Proof.Machine
end

section
/-! A packet's instructions one after another, in the order of their accesses (20_memory.md R108,
40_execution_model.md R176). -/

set_option Elab.async false

namespace Sys2Proof.Machine

open Sys2Proof.Claims

theorem runAll_cons_of_next {i : Instr} {p : List Instr} {s t : State} (h : exec i s = .next t) :
    runAll (i :: p) s = runAll p t := by
  rw [runAll, h]

theorem runAll_append_of_next {p : List Instr} (q : List Instr) {s u : State} (h : runAll p s = .next u) :
    runAll (p ++ q) s = runAll q u := by
  induction p generalizing s with
  | nil => rw [Host.Outcome.next.inj h, List.nil_append]
  | cons i rest ih =>
    rw [runAll] at h
    split at h
    · rename_i t ht
      rw [List.cons_append, runAll_cons_of_next ht, ih h]
    · cases h
    · cases h

/-- Settles O27: the packet in the order of its accesses is its loads, then its stores (`runAll_append_of_next`). -/
theorem stepRunsPacket : Obligations.StepRunsPacket := by
  intro s p hf hp
  rw [step_of_packet hf hp]
  refine ⟨fun r hr => issuePacket_of_refusal hr, fun hr u t hu ht => ?_⟩
  have hrun : runAll (memoryOrder p) s = .next t := (runAll_append_of_next _ hu).trans ht
  exact issuePacket_of_next hr hrun

end Sys2Proof.Machine
end

section
/-! Loads and stores whatever the address and the AMR mode (20_memory.md R101, R102, R105;
93_implementation_defined.md U3, U12): what each load can change, and what a store leaves in the bytes of its aligned container and elsewhere. -/

set_option Elab.async false

namespace Sys2Proof.Machine

open Sys2Proof.Claims

/-! The aligned container of an access. -/

theorem container_toNat (ea : Word) (n : Nat) : (container ea n).toNat = ea.toNat / n * n := by
  have hle : ea.toNat % n ≤ ea.toNat := Nat.mod_le ..
  have hoffset : (BitVec.ofNat 32 (ea.toNat % n)).toNat = ea.toNat % n :=
    (BitVec.toNat_ofNat ..).trans (Nat.mod_eq_of_lt (hle.trans_lt ea.isLt))
  have hsplit : ea.toNat / n * n + ea.toNat % n = ea.toNat := Nat.div_add_mod' ..
  rw [container, BitVec.toNat_sub_of_le (BitVec.le_def.2 (hoffset.trans_le hle)), hoffset]
  omega

theorem container_aligned (ea : Word) (n : Nat) : (container ea n).toNat % n = 0 := by
  rw [container_toNat, Nat.mul_mod_left]

theorem containerByte_eq (ea : Word) (n k : Nat) : containerByte ea n k = (container ea n).toNat + k := by
  rw [containerByte, container_toNat]

theorem containerByte_of_aligned {ea : Word} {n : Nat} (ha : ea.toNat % n = 0) (k : Nat) :
    containerByte ea n k = ea.toNat + k := by
  rw [containerByte, Nat.div_mul_cancel (Nat.dvd_of_mod_eq_zero ha)]

section
variable {s : State} {ea : Word} {n : Nat}

theorem State.touched_eq (hn : n ∣ 2 ^ 32) :
    s.touched ea n = (List.range n).map (byteAddress s (container ea n) n) :=
  laneAddresses_of_aligned hn (container_aligned ea n)

theorem State.mem_touched_iff (hn : n ∣ 2 ^ 32) {a : Nat} :
    a ∈ s.touched ea n ↔ ∃ k < n, a = containerByte ea n k := by
  rw [State.touched_eq hn, List.mem_map]
  simp only [List.mem_range, containerByte_eq]
  exact exists_byteAddress_iff s _ n a

theorem State.touched_lt {a : Nat} (h : a ∈ s.touched ea n) : a < 2 ^ 32 := mem_laneAddresses_lt h

theorem State.touched_nodup (hn : n ∣ 2 ^ 32) : (s.touched ea n).Nodup := by
  rw [State.touched_eq hn]
  exact List.nodup_range.map_on fun j hj k hk h => byteAddress_inj (List.mem_range.1 hj) (List.mem_range.1 hk) h

theorem State.touched_length (s : State) (ea : Word) (n : Nat) : (s.touched ea n).length = n := by
  rw [State.touched, laneAddresses, List.length_map, List.length_range]

/-- An access is defined exactly where the spec gives it a meaning. -/
theorem State.defines_iff (hn : n ∣ 2 ^ 32) : s.defines ea n = true ↔ Proper s ea n := by
  refine ⟨fun h => ?_, State.defines_of_proper hn⟩
  simp only [State.defines, aligned, Bool.and_eq_true, beq_iff_eq, List.all_eq_true] at h
  obtain ⟨haligned, hbacked⟩ := h
  exact ⟨haligned, fun k hk =>
    (dataBacked_iff ..).1 (hbacked _ ((State.mem_touched_of_aligned hn haligned).2 ⟨k, hk, rfl⟩))⟩

theorem State.load_of_not_accessible (hn : n ∣ 2 ^ 32) (h : ¬ Accessible s ea n) : s.load ea n = none := by
  refine Option.eq_none_iff_forall_ne_some.2 fun v hv => h ?_
  obtain ⟨hdefined, hquiet, -⟩ := State.load_eq_some hv
  have hproper := (State.defines_iff hn).1 hdefined
  refine ⟨hproper, fun k hk hc => ?_⟩
  have hfree := hquiet _ ((State.mem_touched_of_aligned hn hproper.1).2 ⟨k, hk, rfl⟩)
  rw [(s.contested_iff (toNat_add_lt_of_aligned hn hproper.1 hk)).2 hc] at hfree
  cases hfree

end

/-! What a load changes. -/

theorem onlyWrites_trans {s t u : State} (h : OnlyWrites s t) (k : OnlyWrites t u) : OnlyWrites s u := by
  unfold OnlyWrites at h k ⊢
  rw [k, h]

theorem State.updateBase_onlyWrites {γ : Type} (s : State) (o : Mem γ) (sh : Nat) :
    OnlyWrites s (s.updateBase o sh) := by
  have hdraw : OnlyWrites s (s.drawFor (s.modified o sh)) := by
    cases s.modified o sh <;> rfl
  unfold State.updateBase
  split
  · exact hdraw
  · exact hdraw
  · exact onlyWrites_trans hdraw rfl

theorem State.finishLoad_onlyWrites (s : State) (side : Side) (dst : Reg) (extend : Nat → Word) (r : Option Nat) :
    OnlyWrites s (s.finishLoad side dst extend r) := by
  cases r <;> rfl

theorem State.finishLoad_writes (s : State) (side : Side) (dst : Reg) (extend : Nat → Word) (r : Option Nat) :
    ∃ v, (s.finishLoad side dst extend r).writes = s.writes ++ [lands side dst 4 v] := by
  cases r with
  | some v => exact ⟨extend v, rfl⟩
  | none => exact ⟨s.freeWord, rfl⟩

theorem State.finishLoadPair_onlyWrites (s : State) (side : Side) (dst : Pair) (r : Option Nat) :
    OnlyWrites s (s.finishLoadPair side dst r) := by
  cases r <;> rfl

theorem State.finishLoadPair_writes (s : State) (side : Side) (dst : Pair) (r : Option Nat) :
    ∃ v u, (s.finishLoadPair side dst r).writes =
      s.writes ++ [lands side (Pair.even dst) 4 v, lands side (Pair.odd dst) 4 u] := by
  cases r with
  | some v => exact ⟨BitVec.ofNat 32 v, BitVec.ofNat 32 (v / 2 ^ 32), List.append_assoc ..⟩
  | none => exact ⟨s.freeWord, s.draw.freeWord, List.append_assoc ..⟩

section
variable {s : State} {extend : Nat → Word}

theorem issueLoad_completes {o : Mem Reg} (sh : Nat) (hc : s.holds o.cond = true) :
    ∃ t, issueLoad o sh extend s = .next t ∧ OnlyWrites s t ∧ (addressMode s o.unit o.base ≠ 3 →
      ∃ v, t.writes = s.writes ++ (baseUpdate s o sh ++ [lands o.side o.data 4 v])) := by
  rw [issueLoad, guarded_of_true _ hc]
  refine ⟨_, rfl, onlyWrites_trans (s.updateBase_onlyWrites o sh) (State.finishLoad_onlyWrites ..), fun hm => ?_⟩
  simp only [State.updateBase_of_defined hm, ← List.append_assoc]
  exact State.finishLoad_writes ..

theorem issueLoadK_completes {o : MemK} (sh : Nat) (hc : s.holds o.cond = true) :
    ∃ t, issueLoadK o sh extend s = .next t ∧ OnlyWrites s t ∧
      ∃ v, t.writes = s.writes ++ [lands o.side o.data 4 v] := by
  rw [issueLoadK, guarded_of_true _ hc]
  exact ⟨_, rfl, State.finishLoad_onlyWrites .., State.finishLoad_writes ..⟩

theorem execLddw_completes {o : Mem Pair} (hc : s.holds o.cond = true) :
    ∃ t, execLddw o s = .next t ∧ OnlyWrites s t ∧ (addressMode s o.unit o.base ≠ 3 →
      ∃ v u, t.writes = s.writes ++ (baseUpdate s o 3 ++
        [lands o.side (Pair.even o.data) 4 v, lands o.side (Pair.odd o.data) 4 u])) := by
  rw [execLddw, guarded_of_true _ hc]
  refine ⟨_, rfl, onlyWrites_trans (s.updateBase_onlyWrites o 3) (State.finishLoadPair_onlyWrites ..), fun hm => ?_⟩
  simp only [State.updateBase_of_defined hm, ← List.append_assoc]
  exact State.finishLoadPair_writes ..

/-- A load of an undefined value queues its base update and a free word. -/
theorem issueLoad_of_not_accessible {o : Mem Reg} (sh : Nat) (hc : s.holds o.cond = true)
    (hm : addressMode s o.unit o.base ≠ 3) (ha : ¬ Accessible s (dataAddress s o sh) (2 ^ sh)) (hsh : sh ≤ 32) :
    issueLoad o sh extend s = .next
      { queue s (baseUpdate s o sh ++ [lands o.side o.data 4 (Config.freeWord s.free)]) with free := s.free + 1 } := by
  rw [issueLoad, guarded_of_true _ hc, State.updateBase_of_defined hm, State.effective_of_defined hm,
    State.load_of_not_accessible (Nat.pow_dvd_pow 2 hsh) ha, ← queue_queue]
  rfl

theorem issueLoadK_of_not_accessible {o : MemK} (sh : Nat) (hc : s.holds o.cond = true)
    (ha : ¬ Accessible s (farAddress s o sh) (2 ^ sh)) (hsh : sh ≤ 32) :
    issueLoadK o sh extend s = .next
      { queue s [lands o.side o.data 4 (Config.freeWord s.free)] with free := s.free + 1 } := by
  rw [issueLoadK, guarded_of_true _ hc, State.effectiveK_eq_farAddress,
    State.load_of_not_accessible (Nat.pow_dvd_pow 2 hsh) ha]
  rfl

theorem execLddw_of_not_accessible {o : Mem Pair} (hc : s.holds o.cond = true)
    (hm : addressMode s o.unit o.base ≠ 3) (ha : ¬ Accessible s (dataAddress s o 3) 8) :
    execLddw o s = .next { queue s (baseUpdate s o 3 ++
      [lands o.side (Pair.even o.data) 4 (Config.freeWord s.free),
       lands o.side (Pair.odd o.data) 4 (Config.freeWord (s.free + 1))]) with free := s.free + 2 } := by
  rw [execLddw, guarded_of_true _ hc, State.updateBase_of_defined hm, State.effective_of_defined hm,
    State.load_of_not_accessible (by decide) ha, ← queue_queue]
  simp only [State.finishLoadPair, State.putWord, State.draw, State.freeWord, queue, lands, List.append_assoc,
    List.cons_append, List.nil_append]

end

/-! What a store leaves in memory. -/

theorem State.memories_eq_iff {s t : State} :
    t.memories = s.memories ↔ t.mem = s.mem ∧ t.stored = s.stored ∧ t.codeStores = s.codeStores := by
  simp only [State.memories, Prod.mk.injEq]

theorem onlyStores_of_onlyWrites {s t u : State} (h : OnlyWrites s t) (k : OnlyStores t u) : OnlyStores s u := by
  unfold OnlyWrites at h
  unfold OnlyStores at k ⊢
  rw [k, h]

theorem State.storeByte_contested (s : State) (a : Nat) (b : Byte) (x : Nat) :
    (s.storeByte a b).contested x = s.contested x := rfl

theorem State.storeBytes_free (cells : List (Nat × Byte)) (s : State) :
    (s.storeBytes cells).free = s.free + cells.length := by
  induction cells generalizing s with
  | nil => rfl
  | cons c rest ih =>
    rw [State.storeBytes, ih, State.storeByte_free, List.length_cons]
    omega

/-- Each cell of a store is read back, free where the byte was stored already or another bus master writes it. -/
theorem State.readByte_storeBytes {cells : List (Nat × Byte)} {s : State} (hw : Memory.wf s.mem = true)
    (hlt : ∀ c ∈ cells, c.1 < 2 ^ 32) (hnodup : (cells.map Prod.fst).Nodup) (i : Nat) (hi : i < cells.length) :
    readByte (s.storeBytes cells).mem cells[i].1 =
      if cells[i].1 ∈ s.stored ∨ s.contested cells[i].1 = true then freeByte (s.free + i) else cells[i].2 := by
  induction cells generalizing s i with
  | nil => exact absurd hi (Nat.not_lt_zero i)
  | cons d rest ih =>
    obtain ⟨hfirst, hrest⟩ := List.nodup_cons.1 hnodup
    have hne : ∀ c ∈ rest, c.1 ≠ d.1 := fun c hmem h => hfirst (h ▸ List.mem_map_of_mem hmem)
    have hwf := s.storeByte_mem_wf d.1 d.2 hw (hlt d List.mem_cons_self)
    have hltRest : ∀ c ∈ rest, c.1 < 2 ^ 32 := fun c hmem => hlt c (List.mem_cons_of_mem _ hmem)
    rw [State.storeBytes]
    cases i with
    | zero =>
      rw [List.getElem_cons_zero, State.storeBytes_frame rest _ _ hwf hltRest hne, State.storeByte_mem,
        readByte_writeByte _ _ _ _ hw, if_pos rfl, Nat.add_zero]
    | succ i =>
      have hi' : i < rest.length := Nat.lt_of_succ_lt_succ hi
      have hstored : rest[i].1 ∈ (s.storeByte d.1 d.2).stored ↔ rest[i].1 ∈ s.stored := by
        rw [State.storeByte_stored, List.mem_cons, or_iff_right (hne _ (List.getElem_mem hi'))]
      rw [List.getElem_cons_succ, ih hwf hltRest hrest i hi', State.storeByte_free]
      exact if_congr (or_congr_left hstored) (by rw [Nat.add_right_comm, Nat.add_assoc]) rfl

theorem freeBytes_length (m n : Nat) : (freeBytes m n).length = n := by
  induction n generalizing m with
  | zero => rfl
  | succ n ih => rw [freeBytes, List.length_cons, ih]

theorem freeBytes_getElem (m n k : Nat) (hk : k < (freeBytes m n).length) : (freeBytes m n)[k] = freeByte (m + k) := by
  induction n generalizing m k with
  | zero => exact absurd hk (Nat.not_lt_zero k)
  | succ n ih =>
    cases k with
    | zero => rfl
    | succ k => exact (ih (m + 1) k (Nat.lt_of_succ_lt_succ hk)).trans (by rw [Nat.add_assoc, Nat.add_comm 1])

theorem splitBytes_length (v n : Nat) : (splitBytes v n).length = n := by
  rw [splitBytes_eq_map_range, List.length_map, List.length_range]

section
variable {s : State} {ea : Word} {n : Nat}

/-- A store writes one byte to each address it touches, whatever the bytes are. -/
theorem State.exists_store_eq (s : State) (ea : Word) (n : Nat) (v : Word) :
    ∃ free bytes, bytes.length = n ∧
      s.store ea n v = ({ s with free := free } : State).storeBytes ((s.touched ea n).zip bytes) := by
  rcases s.store_cases ea n v with ⟨-, h⟩ | ⟨-, h⟩
  · exact ⟨s.free, _, splitBytes_length .., h⟩
  · exact ⟨s.free + n, _, freeBytes_length .., h⟩

theorem State.touched_zip_map_fst {bytes : List Byte} (h : bytes.length = n) :
    ((s.touched ea n).zip bytes).map Prod.fst = s.touched ea n :=
  List.map_fst_zip (by rw [s.touched_length, h])

theorem State.touched_zip_lt {bytes : List Byte} : ∀ c ∈ (s.touched ea n).zip bytes, c.1 < 2 ^ 32 :=
  fun _ hc => State.touched_lt (List.of_mem_zip hc).1

/-- A store changes memory and its records, and draws free values. -/
theorem State.store_fields (s : State) (ea : Word) (n : Nat) (v : Word) :
    s.store ea n v = { s with
      mem := (s.store ea n v).mem, stored := (s.store ea n v).stored, codeStores := (s.store ea n v).codeStores,
      free := (s.store ea n v).free } := by
  obtain ⟨free, bytes, -, h⟩ := s.exists_store_eq ea n v
  obtain ⟨mem, stored, codeStores, last, he, -⟩ :=
    State.storeBytes_spec ((s.touched ea n).zip bytes) { s with free := free }
  rw [h, he]

theorem State.store_writes (s : State) (ea : Word) (n : Nat) (v : Word) : (s.store ea n v).writes = s.writes := by
  rw [State.store_fields]

theorem State.store_onlyStores (s : State) (ea : Word) (n : Nat) (v : Word) : OnlyStores s (s.store ea n v) := by
  rw [OnlyStores, State.store_writes]
  exact s.store_fields ea n v

/-- No store changes a byte outside its aligned container. -/
theorem State.store_frame (hw : Memory.wf s.mem = true) (v : Word) {a : Nat} (ha : a ∉ s.touched ea n) :
    readByte (s.store ea n v).mem a = readByte s.mem a := by
  obtain ⟨free, bytes, -, h⟩ := s.exists_store_eq ea n v
  rw [h, State.storeBytes_frame _ { s with free := free } a hw State.touched_zip_lt]
  exact fun c hc hca => ha (hca ▸ (List.of_mem_zip hc).1)

theorem State.store_frame_containerByte (hn : n ∣ 2 ^ 32) (hw : Memory.wf s.mem = true) (v : Word) {a : Nat}
    (ha : ∀ k < n, a ≠ containerByte ea n k) : readByte (s.store ea n v).mem a = readByte s.mem a :=
  State.store_frame hw v fun h => by
    obtain ⟨k, hk, hka⟩ := (State.mem_touched_iff hn).1 h
    exact ha k hk hka

/-- A store that the spec gives no meaning leaves free bytes in its container. -/
theorem State.store_drawn_of_not_proper (hn : n ∣ 2 ^ 32) (hw : Memory.wf s.mem = true) (hp : ¬ Proper s ea n)
    (v : Word) {k : Nat} (hk : k < n) : Drawn s (s.store ea n v) (readByte (s.store ea n v).mem (containerByte ea n k)) := by
  rcases s.store_cases ea n v with ⟨hd, -⟩ | ⟨-, h⟩
  · exact absurd ((State.defines_iff hn).1 hd) hp
  have hlen : ((s.touched ea n).zip (freeBytes s.free n)).length = n := by
    rw [List.length_zip, s.touched_length, freeBytes_length, Nat.min_self]
  have hnodup : (((s.touched ea n).zip (freeBytes s.free n)).map Prod.fst).Nodup := by
    rw [State.touched_zip_map_fst (freeBytes_length ..)]
    exact State.touched_nodup hn
  have hmem : containerByte ea n k ∈ s.touched ea n := (State.mem_touched_iff hn).2 ⟨k, hk, rfl⟩
  obtain ⟨i, hi, hik⟩ := List.getElem_of_mem hmem
  have hin : i < n := s.touched_length ea n ▸ hi
  have hread := State.readByte_storeBytes (s := { s with free := s.free + n }) hw State.touched_zip_lt hnodup i
    (hlen.symm ▸ hin)
  rw [List.getElem_zip, hik, freeBytes_getElem] at hread
  have hfree : (s.store ea n v).free = s.free + n + n := by
    rw [h, State.storeBytes_free, hlen]
  rw [Drawn, hfree, h, hread]
  split
  · exact ⟨s.free + n + i, by omega, by omega, rfl⟩
  · exact ⟨s.free + i, by omega, by omega, rfl⟩

end

section
variable {s : State}

theorem issueStore_completes {o : Mem Reg} (sh : Nat) (hc : s.holds o.cond = true) (hw : Memory.wf s.mem = true)
    (hsh : sh ≤ 32) :
    ∃ t, issueStore o sh s = .next t ∧ OnlyStores s t ∧ (addressMode s o.unit o.base ≠ 3 →
      t.writes = s.writes ++ baseUpdate s o sh) ∧
      ∀ a, (∀ k < 2 ^ sh, a ≠ containerByte (s.effective o sh) (2 ^ sh) k) → readByte t.mem a = readByte s.mem a := by
  obtain ⟨hmem, -, -⟩ := State.memories_eq_iff.1 (s.updateBase_memories o sh)
  rw [issueStore, guarded_of_true _ hc]
  refine ⟨_, rfl, onlyStores_of_onlyWrites (s.updateBase_onlyWrites o sh) (State.store_onlyStores ..),
    fun hm => ?writes, fun a ha => ?frame⟩
  case writes => rw [State.store_writes, State.updateBase_of_defined hm, queue]
  case frame =>
    rw [State.store_frame_containerByte (Nat.pow_dvd_pow 2 hsh) (hmem.symm ▸ hw) _ ha, hmem]

theorem issueStoreK_completes {o : MemK} (sh : Nat) (hc : s.holds o.cond = true) (hw : Memory.wf s.mem = true)
    (hsh : sh ≤ 32) :
    ∃ t, issueStoreK o sh s = .next t ∧ OnlyStores s t ∧ t.writes = s.writes ∧
      ∀ a, (∀ k < 2 ^ sh, a ≠ containerByte (s.effectiveK o sh) (2 ^ sh) k) → readByte t.mem a = readByte s.mem a := by
  rw [issueStoreK, guarded_of_true _ hc]
  exact ⟨_, rfl, State.store_onlyStores .., State.store_writes ..,
    fun a ha => State.store_frame_containerByte (Nat.pow_dvd_pow 2 hsh) hw _ ha⟩

theorem issueStore_of_not_proper {o : Mem Reg} (sh : Nat) (hc : s.holds o.cond = true)
    (hm : addressMode s o.unit o.base ≠ 3) (hp : ¬ Proper s (dataAddress s o sh) (2 ^ sh)) (hw : Memory.wf s.mem = true)
    (hsh : sh ≤ 32) :
    ∃ t, issueStore o sh s = .next t ∧ OnlyStores s t ∧ t.writes = s.writes ++ baseUpdate s o sh ∧
      (∀ k < 2 ^ sh, Drawn s t (readByte t.mem (containerByte (dataAddress s o sh) (2 ^ sh) k))) ∧
      ∀ a, (∀ k < 2 ^ sh, a ≠ containerByte (dataAddress s o sh) (2 ^ sh) k) → readByte t.mem a = readByte s.mem a := by
  obtain ⟨t, ht, honly, hwrites, hframe⟩ := issueStore_completes sh hc hw hsh
  rw [State.effective_of_defined hm] at hframe
  refine ⟨t, ht, honly, hwrites hm, fun k hk => ?_, hframe⟩
  rw [issueStore, guarded_of_true _ hc, State.updateBase_of_defined hm, State.effective_of_defined hm] at ht
  rw [← Host.Outcome.next.inj ht]
  exact State.store_drawn_of_not_proper (s := queue s _) (Nat.pow_dvd_pow 2 hsh) hw hp _ hk

theorem issueStoreK_of_not_proper {o : MemK} (sh : Nat) (hc : s.holds o.cond = true)
    (hp : ¬ Proper s (farAddress s o sh) (2 ^ sh)) (hw : Memory.wf s.mem = true) (hsh : sh ≤ 32) :
    ∃ t, issueStoreK o sh s = .next t ∧ OnlyStores s t ∧ t.writes = s.writes ∧
      (∀ k < 2 ^ sh, Drawn s t (readByte t.mem (containerByte (farAddress s o sh) (2 ^ sh) k))) ∧
      ∀ a, (∀ k < 2 ^ sh, a ≠ containerByte (farAddress s o sh) (2 ^ sh) k) → readByte t.mem a = readByte s.mem a := by
  obtain ⟨t, ht, honly, hwrites, hframe⟩ := issueStoreK_completes sh hc hw hsh
  rw [State.effectiveK_eq_farAddress] at hframe
  refine ⟨t, ht, honly, hwrites, fun k hk => ?_, hframe⟩
  rw [issueStoreK, guarded_of_true _ hc, State.effectiveK_eq_farAddress] at ht
  rw [← Host.Outcome.next.inj ht]
  exact State.store_drawn_of_not_proper (Nat.pow_dvd_pow 2 hsh) hw hp _ hk

end

/-- Settles O14: a load queues writes and at most draws free values, and a store changes no byte outside its container,
also where the address itself is free. -/
theorem accessesComplete : Obligations.AccessesComplete := by
  refine ⟨fun o s hc => ?ldb, fun o s hc => ?ldbK, fun o s hc => ?ldbu, fun o s hc => ?ldbuK, fun o s hc => ?ldh,
    fun o s hc => ?ldhK, fun o s hc => ?ldhu, fun o s hc => ?ldhuK, fun o s hc => ?ldw, fun o s hc => ?ldwK,
    fun o s hc => ?lddw, fun o s hc hw => ?stb, fun o s hc hw => ?stbK, fun o s hc hw => ?sth, fun o s hc hw => ?sthK,
    fun o s hc hw => ?stw, fun o s hc hw => ?stwK⟩
  case ldb | ldbu => exact issueLoad_completes 0 hc
  case ldh | ldhu => exact issueLoad_completes 1 hc
  case ldw => exact issueLoad_completes 2 hc
  case ldbK | ldbuK => exact issueLoadK_completes 0 hc
  case ldhK | ldhuK => exact issueLoadK_completes 1 hc
  case ldwK => exact issueLoadK_completes 2 hc
  case lddw => exact execLddw_completes hc
  case stb => exact issueStore_completes 0 hc hw (by decide)
  case sth => exact issueStore_completes 1 hc hw (by decide)
  case stw => exact issueStore_completes 2 hc hw (by decide)
  case stbK => exact issueStoreK_completes 0 hc hw (by decide)
  case sthK => exact issueStoreK_completes 1 hc hw (by decide)
  case stwK => exact issueStoreK_completes 2 hc hw (by decide)

/-- Settles O15: a load of an undefined value draws it (`State.load_of_not_accessible`), and a store without a meaning
fills its container with drawn bytes (`State.store_drawn_of_not_proper`). -/
theorem undefinedAccessesAreFree : Obligations.UndefinedAccessesAreFree := by
  refine ⟨fun o s hc hm ha => ?ldb, fun o s hc ha => ?ldbK, fun o s hc hm ha => ?ldbu, fun o s hc ha => ?ldbuK,
    fun o s hc hm ha => ?ldh, fun o s hc ha => ?ldhK, fun o s hc hm ha => ?ldhu, fun o s hc ha => ?ldhuK,
    fun o s hc hm ha => ?ldw, fun o s hc ha => ?ldwK, fun o s hc hm ha => ?lddw, fun o s hc hm hp hw => ?stb,
    fun o s hc hp hw => ?stbK, fun o s hc hm hp hw => ?sth, fun o s hc hp hw => ?sthK, fun o s hc hm hp hw => ?stw,
    fun o s hc hp hw => ?stwK⟩
  case ldb | ldbu => exact issueLoad_of_not_accessible 0 hc hm ha (by decide)
  case ldh | ldhu => exact issueLoad_of_not_accessible 1 hc hm ha (by decide)
  case ldw => exact issueLoad_of_not_accessible 2 hc hm ha (by decide)
  case ldbK | ldbuK => exact issueLoadK_of_not_accessible 0 hc ha (by decide)
  case ldhK | ldhuK => exact issueLoadK_of_not_accessible 1 hc ha (by decide)
  case ldwK => exact issueLoadK_of_not_accessible 2 hc ha (by decide)
  case lddw => exact execLddw_of_not_accessible hc hm ha
  case stb => exact issueStore_of_not_proper 0 hc hm hp hw (by decide)
  case sth => exact issueStore_of_not_proper 1 hc hm hp hw (by decide)
  case stw => exact issueStore_of_not_proper 2 hc hm hp hw (by decide)
  case stbK => exact issueStoreK_of_not_proper 0 hc hp hw (by decide)
  case sthK => exact issueStoreK_of_not_proper 1 hc hp hw (by decide)
  case stwK => exact issueStoreK_of_not_proper 2 hc hp hw (by decide)

end Sys2Proof.Machine
end

section
/-! Several accesses to one byte in a cycle (20_memory.md R108, R109, R112): a packet's load before its store, bytes that
two stores or a store and another bus master write, and what other bus masters leave at the end of the cycle. -/

set_option Elab.async false

namespace Sys2Proof.Machine

open Sys2Proof.Claims

/-! Every form of load and of store. -/

section
variable {s : State} {i : Instr} {ea : Word} {n : Nat} {v : Word} {ws upd : List PendingWrite}

theorem issueStore_eq {o : Mem Reg} (sh : Nat) (hc : s.holds o.cond = true) (hm : addressMode s o.unit o.base ≠ 3) :
    issueStore o sh s = .next
      ((queue s (baseUpdate s o sh)).store (dataAddress s o sh) (2 ^ sh) (s.reg ⟨o.side, o.data⟩)) := by
  rw [issueStore, guarded_of_true _ hc, State.updateBase_of_defined hm, State.effective_of_defined hm, State.src]

theorem issueStoreK_eq {o : MemK} (sh : Nat) (hc : s.holds o.cond = true) :
    issueStoreK o sh s = .next ((queue s []).store (farAddress s o sh) (2 ^ sh) (s.reg ⟨o.side, o.data⟩)) := by
  rw [issueStoreK, guarded_of_true _ hc, State.effectiveK_eq_farAddress, State.src, queue_nil]

theorem exec_of_isStore (h : IsStore s i ea n v upd) (hc : s.holds i.condition = true) :
    exec i s = .next ((queue s upd).store ea n v) := by
  obtain ⟨o, hm, rfl, ⟨rfl, rfl, rfl, rfl⟩ | ⟨rfl, rfl, rfl, rfl⟩ | ⟨rfl, rfl, rfl, rfl⟩⟩ |
    ⟨o, rfl, rfl, ⟨rfl, rfl, rfl⟩ | ⟨rfl, rfl, rfl⟩ | ⟨rfl, rfl, rfl⟩⟩ := h
  · exact issueStore_eq 0 hc hm
  · exact issueStore_eq 1 hc hm
  · exact issueStore_eq 2 hc hm
  · exact issueStoreK_eq 0 hc
  · exact issueStoreK_eq 1 hc
  · exact issueStoreK_eq 2 hc

/-- A store is one by its timing too, and its size divides the address space. -/
theorem isStore_spec (h : IsStore s i ea n v upd) : isStore i = true ∧ n ∣ 2 ^ 32 := by
  obtain ⟨o, -, -, ⟨rfl, -, rfl, -⟩ | ⟨rfl, -, rfl, -⟩ | ⟨rfl, -, rfl, -⟩⟩ |
    ⟨o, -, -, ⟨rfl, -, rfl⟩ | ⟨rfl, -, rfl⟩ | ⟨rfl, -, rfl⟩⟩ := h
  all_goals exact ⟨rfl, by decide⟩

/-- A store is the same after writes are queued: registers and AMR do not change before the cycle ends. -/
theorem isStore_queue (h : IsStore s i ea n v upd) (ws : List PendingWrite) : IsStore (queue s ws) i ea n v upd := h

theorem isStore_of_isLoad (h : IsLoad s i ea n ws) : isStore i = false := by
  obtain ⟨o, -, ⟨rfl, -⟩ | ⟨rfl, -⟩ | ⟨rfl, -⟩ | ⟨rfl, -⟩ | ⟨rfl, -⟩⟩ | ⟨o, -, rfl, -⟩ |
    ⟨o, ⟨rfl, -⟩ | ⟨rfl, -⟩ | ⟨rfl, -⟩ | ⟨rfl, -⟩ | ⟨rfl, -⟩⟩ := h
  all_goals rfl

theorem exec_of_isLoad (h : IsLoad s i ea n ws) (hc : s.holds i.condition = true) (ha : Accessible s ea n) :
    exec i s = .next (queue s ws) := by
  obtain ⟨ldb, ldbK, ldbu, ldbuK, ldh, ldhK, ldhu, ldhuK, ldw, ldwK, lddw⟩ := loadResults
  obtain ⟨o, hm, ⟨rfl, rfl, rfl, rfl⟩ | ⟨rfl, rfl, rfl, rfl⟩ | ⟨rfl, rfl, rfl, rfl⟩ | ⟨rfl, rfl, rfl, rfl⟩ |
      ⟨rfl, rfl, rfl, rfl⟩⟩ | ⟨o, hm, rfl, rfl, rfl, rfl⟩ |
    ⟨o, ⟨rfl, rfl, rfl, rfl⟩ | ⟨rfl, rfl, rfl, rfl⟩ | ⟨rfl, rfl, rfl, rfl⟩ | ⟨rfl, rfl, rfl, rfl⟩ |
      ⟨rfl, rfl, rfl, rfl⟩⟩ := h
  · exact ldb o s hc hm ha
  · exact ldbu o s hc hm ha
  · exact ldh o s hc hm ha
  · exact ldhu o s hc hm ha
  · exact ldw o s hc hm ha
  · exact lddw o s hc hm ha
  · exact ldbK o s hc ha
  · exact ldbuK o s hc ha
  · exact ldhK o s hc ha
  · exact ldhuK o s hc ha
  · exact ldwK o s hc ha

end

/-! A load and a store in one packet. -/

theorem memoryOrder_pair {i j : Instr} {p : List Instr} (hi : isStore i = false) (hj : isStore j = true)
    (hp : p = [i, j] ∨ p = [j, i]) : memoryOrder p = [i, j] := by
  rcases hp with rfl | rfl <;> simp [memoryOrder, hi, hj]

/-- Settles O30: the load runs first, and the store stores in the state that the load leaves, whose memory is still that
of the packet's start. -/
theorem loadBeforeStore : Obligations.LoadBeforeStore := by
  intro i j s ea fa n m v ws upd p hload hstore hci hcj hea hfa hw hs hp
  obtain ⟨hj, hm⟩ := isStore_spec hstore
  have hfirst : exec i s = .next (queue s ws) := exec_of_isLoad hload hci hea
  have hsecond : exec j (queue s ws) = .next ((queue (queue s ws) upd).store fa m v) :=
    exec_of_isStore (isStore_queue hstore ws) hcj
  rw [memoryOrder_pair (isStore_of_isLoad hload) hj hp, runAll_cons_of_next hfirst, runAll_singleton, hsecond]
  exact ⟨_, rfl, stored_of_queue (stored_store_of_accessible (s := queue (queue s ws) upd) hm hfa hw hs v)⟩

/-! Bytes that are written twice. -/

section
variable {s : State} {ea : Word} {n : Nat}

theorem byteAddress_lt (hn : n ∣ 2 ^ 32) (ha : ea.toNat % n = 0) {k : Nat} (hk : k < n) :
    byteAddress s ea n k < 2 ^ 32 := by
  obtain ⟨j, hj, h⟩ := (exists_byteAddress_iff s ea n _).1 ⟨k, hk, rfl⟩
  exact h ▸ toNat_add_lt_of_aligned hn ha hj

/-- Each byte of a defined store, in a cycle in which other stores and other bus masters may write it. -/
theorem State.readByte_store_of_proper (hn : n ∣ 2 ^ 32) (hw : Memory.wf s.mem = true) (hp : Proper s ea n) (v : Word)
    {k : Nat} (hk : k < n) :
    readByte (s.store ea n v).mem (byteAddress s ea n k) =
      if byteAddress s ea n k ∈ s.stored ∨ s.contested (byteAddress s ea n k) = true then freeByte (s.free + k)
      else BitVec.ofNat 8 (v.toNat / 256 ^ k) := by
  have hlt : ∀ c ∈ storeCells s ea n v, c.1 < 2 ^ 32 := fun c hc => by
    obtain ⟨j, hj, rfl⟩ := mem_storeCells.1 hc
    exact byteAddress_lt hn hp.1 hj
  have hlen : k < (storeCells s ea n v).length := by
    rw [storeCells, List.length_map, List.length_range]
    exact hk
  have hread := State.readByte_storeBytes hw hlt storeCells_nodup k hlen
  have hcell : (storeCells s ea n v)[k] = (byteAddress s ea n k, BitVec.ofNat 8 (v.toNat / 256 ^ k)) := by
    simp [storeCells]
  rw [hcell] at hread
  rw [State.store_of_proper hn hp]
  exact hread

theorem State.store_free_of_proper (hn : n ∣ 2 ^ 32) (hp : Proper s ea n) (v : Word) :
    (s.store ea n v).free = s.free + n := by
  rw [State.store_of_proper hn hp, State.storeBytes_free, storeCells, List.length_map, List.length_range]

/-- A byte of a defined store that a store of the cycle has written already, or that another bus master writes. -/
theorem State.store_drawn_of_contested (hn : n ∣ 2 ^ 32) (hw : Memory.wf s.mem = true) (hp : Proper s ea n) (v : Word)
    {k : Nat} (hk : k < n) (h : byteAddress s ea n k ∈ s.stored ∨ Contested s (byteAddress s ea n k)) :
    Drawn s (s.store ea n v) (readByte (s.store ea n v).mem (byteAddress s ea n k)) := by
  have hfree := h.imp_right (s.contested_iff (byteAddress_lt hn hp.1 hk)).2
  rw [Drawn, State.store_free_of_proper hn hp, State.readByte_store_of_proper hn hw hp v hk, if_pos hfree]
  exact ⟨s.free + k, by omega, by omega, rfl⟩

theorem State.store_read_of_uncontested (hn : n ∣ 2 ^ 32) (hw : Memory.wf s.mem = true) (hp : Proper s ea n) (v : Word)
    {k : Nat} (hk : k < n) (hs : byteAddress s ea n k ∉ s.stored) (hc : ¬ Contested s (byteAddress s ea n k)) :
    readByte (s.store ea n v).mem (byteAddress s ea n k) = BitVec.ofNat 8 (v.toNat / 256 ^ k) := by
  have hkept : ¬ (byteAddress s ea n k ∈ s.stored ∨ s.contested (byteAddress s ea n k) = true) :=
    not_or.2 ⟨hs, mt (s.contested_iff (byteAddress_lt hn hp.1 hk)).1 hc⟩
  rw [State.readByte_store_of_proper hn hw hp v hk, if_neg hkept]

end

/-! The writes of other bus masters. -/

theorem mem_insertAddress_iff {a b : Nat} {l : List Nat} : b ∈ insertAddress a l ↔ b = a ∨ b ∈ l := by
  refine ⟨mem_insertAddress, fun h => ?_⟩
  induction l with
  | nil => simpa [insertAddress] using h
  | cons k rest ih =>
    rw [insertAddress]
    split
    · exact List.mem_cons.2 h
    · split
      · rename_i hak
        exact h.elim (fun hb => List.mem_cons.2 (.inl (hb.trans hak))) id
      · rcases h with hb | hb
        · exact List.mem_cons_of_mem _ (ih (.inl hb))
        · exact List.mem_cons.2 ((List.mem_cons.1 hb).imp_right fun hb => ih (.inr hb))

theorem mem_insertAddresses_iff {addrs l : List Nat} {b : Nat} : b ∈ insertAddresses addrs l ↔ b ∈ addrs ∨ b ∈ l := by
  induction addrs with
  | nil => simp [insertAddresses]
  | cons a rest ih =>
    rw [insertAddresses, List.foldr_cons, mem_insertAddress_iff, ← insertAddresses, ih, List.mem_cons, or_assoc]

/-- A byte reads as the last value written to it. -/
theorem readByte_writeBytes {cells : List (Nat × Byte)} {m : Memory} (hw : Memory.wf m = true)
    (hlt : ∀ c ∈ cells, c.1 < 2 ^ 32) (a : Nat) :
    readByte (writeBytes m cells) a = ((cells.filter fun c => c.1 == a).getLast?.map Prod.snd).getD (readByte m a) := by
  induction cells generalizing m with
  | nil => rfl
  | cons c rest ih =>
    have hwf := writeByte_wf m c.1 c.2 hw (hlt c List.mem_cons_self)
    rw [writeBytes, ih hwf fun d hd => hlt d (List.mem_cons_of_mem _ hd), readByte_writeByte _ _ _ _ hw,
      List.filter_cons]
    by_cases h : c.1 = a
    · rw [if_pos h.symm, if_pos (beq_iff_eq.2 h), List.getLast?_cons]
      cases (rest.filter fun c => c.1 == a).getLast? <;> rfl
    · rw [if_neg (Ne.symm h), if_neg (mt beq_iff_eq.1 h)]

section
variable {s : State}

theorem State.mem_external_iff (hx : s.device.externalWriters = true) {c : Host.Cell} :
    c ∈ s.external ↔ c ∈ s.input.external ∧ c.1 < 2 ^ 32 := by
  rw [State.external, if_pos hx, List.mem_filter, decide_eq_true_eq]

/-- The writes to one address among those that land: all or, where a store of the cycle has written, none. -/
theorem State.landing_filter (s : State) (a : Nat) :
    (s.external.filter fun c => decide (c.1 ∉ s.stored)).filter (fun c => c.1 == a) =
      if a ∈ s.stored then [] else s.external.filter fun c => c.1 == a := by
  rw [List.filter_filter]
  split
  · rename_i ha
    refine List.filter_eq_nil_iff.2 fun c _ h => ?_
    simp only [Bool.and_eq_true, beq_iff_eq, decide_eq_true_eq] at h
    exact h.2 (h.1 ▸ ha)
  · rename_i ha
    refine List.filter_congr fun c _ => ?_
    by_cases h : c.1 = a
    · simp [h, ha]
    · simp [h]

theorem State.readByte_landExternal (hw : Memory.wf s.mem = true) (a : Nat) :
    readByte s.landExternal.mem a = if a ∈ s.stored then readByte s.mem a
      else ((s.external.filter fun c => c.1 == a).getLast?.map Prod.snd).getD (readByte s.mem a) := by
  rw [State.landExternal_mem, readByte_writeBytes hw fun c hc => s.external_lt c (List.mem_filter.1 hc).1,
    State.landing_filter]
  split <;> rfl

theorem State.external_filter_of_lt (hx : s.device.externalWriters = true) {a : Nat} (ha : a < 2 ^ 32) :
    (s.external.filter fun c => c.1 == a) = s.input.external.filter fun c => c.1 == a := by
  rw [State.external, if_pos hx, List.filter_filter]
  refine List.filter_congr fun c _ => ?_
  by_cases h : c.1 = a
  · rw [decide_eq_true (h ▸ ha : c.1 < 2 ^ 32), Bool.and_true]
  · simp [h]

end

/-- Settles O31: a store byte by byte (`State.readByte_store_of_proper`), and the end of a cycle by the writes that land
in it (`State.readByte_landExternal`). -/
theorem contestedBytes : Obligations.ContestedBytes := by
  refine ⟨fun i s ea n v upd hi hc hp hw => ?store, fun s issues seq hx => ?base, fun s issues seq hx hw =>
    ⟨fun a hne => ?untouched, fun a b ha hs hlast => ?last, fun a ha => ?stored, fun c hc hlt => ?recorded⟩⟩
  case store =>
    obtain ⟨-, hn⟩ := isStore_spec hi
    refine ⟨_, exec_of_isStore hi hc, fun k hk h => ?_, fun k hk hs hf => ?_, fun a ha => ?_⟩
    · exact State.store_drawn_of_contested (s := queue s upd) hn hw hp v hk h
    · exact State.store_read_of_uncontested (s := queue s upd) hn hw hp v hk hs hf
    · exact State.store_frame_containerByte (s := queue s upd) hn hw v fun k hk =>
        containerByte_of_aligned hp.1 k ▸ ha k hk
  case base =>
    rw [State.endCycle_mem, State.endCycle_codeStores, State.landExternal_of_none (State.external_of_base hx)]
    exact ⟨rfl, rfl⟩
  case untouched =>
    have hnone : (s.external.filter fun c => c.1 == a) = [] :=
      List.filter_eq_nil_iff.2 fun c hc h => hne c ((State.mem_external_iff hx).1 hc).1 (beq_iff_eq.1 h)
    rw [State.endCycle_mem, State.readByte_landExternal hw, hnone]
    exact ite_self _
  case last =>
    rw [State.endCycle_mem, State.readByte_landExternal hw, if_neg hs, State.external_filter_of_lt hx ha, hlast]
    rfl
  case stored => rw [State.endCycle_mem, State.readByte_landExternal hw, if_pos ha]
  case recorded =>
    rw [State.endCycle_codeStores, State.landExternal_codeStores, mem_insertAddresses_iff]
    exact .inl (List.mem_map_of_mem ((State.mem_external_iff hx).2 ⟨hc, hlt⟩))

end Sys2Proof.Machine
end

section
/-! Code that is no longer known (20_memory.md R98, R105, R112, R114): a store records the shared bytes of its container,
no step forgets one, and a fetch of a recorded byte returns a free one. -/

set_option Elab.async false

namespace Sys2Proof.Machine

open Sys2Proof.Claims

/-! What the fetch view has behind an address. -/

theorem fetchBacked_iff (s : State) (a : Nat) : fetchBacked s.device a = true ↔ InCode s a := by
  unfold fetchBacked InCode
  cases fetchRegion s.device a <;> simp [isMemory]

theorem fetchShares_iff (s : State) (a : Nat) : fetchShares s.device a = true ↔ SharedByte s a := by
  unfold fetchShares SharedByte
  cases fetchRegion s.device a <;> simp

/-! What a store records. -/

theorem State.mem_codeStores_storeByte (s : State) (x : Nat) (b : Byte) (a : Nat) :
    a ∈ (s.storeByte x b).codeStores ↔ a ∈ s.codeStores ∨ (a = x ∧ fetchShares s.device a = true) := by
  rw [State.storeByte_codeStores]
  split
  · rename_i hx
    have hshared : a = x ∧ fetchShares s.device a = true ↔ a = x := and_iff_left_of_imp fun h => h ▸ hx
    rw [mem_insertAddress_iff, hshared, or_comm]
  · rename_i hx
    have hunshared : ¬ (a = x ∧ fetchShares s.device a = true) := fun ⟨h, hs⟩ => hx (h ▸ hs)
    rw [or_iff_left hunshared]

theorem State.mem_codeStores_storeBytes (cells : List (Nat × Byte)) (s : State) (a : Nat) :
    a ∈ (s.storeBytes cells).codeStores ↔
      a ∈ s.codeStores ∨ (a ∈ cells.map Prod.fst ∧ fetchShares s.device a = true) := by
  induction cells generalizing s with
  | nil => simp [State.storeBytes]
  | cons c rest ih =>
    rw [State.storeBytes, ih, State.mem_codeStores_storeByte, State.storeByte_device, List.map_cons, List.mem_cons]
    tauto

section
variable {s t : State} {a : Nat}

/-- A store records what its container shares with the fetch view, whatever the access. -/
theorem State.mem_codeStores_store (s : State) (ea : Word) (n : Nat) (v : Word) (a : Nat) :
    a ∈ (s.store ea n v).codeStores ↔ a ∈ s.codeStores ∨ (a ∈ s.touched ea n ∧ fetchShares s.device a = true) := by
  obtain ⟨free, bytes, hlen, h⟩ := s.exists_store_eq ea n v
  rw [h, State.mem_codeStores_storeBytes, State.touched_zip_map_fst hlen]

/-- `t` has memory and its records as `s` has them, or as a store in `s` leaves them. -/
def State.MayStore (s t : State) : Prop :=
  t.memories = s.memories ∨
    ∃ u ea n v, u.memories = s.memories ∧ u.device = s.device ∧ t = State.store u ea n v

theorem State.updateBase_device {γ : Type} (s : State) (o : Mem γ) (sh : Nat) :
    (s.updateBase o sh).device = s.device := by
  rw [(s.updateBase_grows o sh).frame]

theorem issueStore_mayStore {o : Mem Reg} {sh : Nat} (h : issueStore o sh s = .next t) : s.MayStore t := by
  rcases issueStore_next h with ⟨-, rfl⟩ | ⟨-, rfl⟩
  · exact .inl rfl
  · exact .inr ⟨_, _, _, _, s.updateBase_memories o sh, s.updateBase_device o sh, rfl⟩

theorem issueStoreK_mayStore {o : MemK} {sh : Nat} (h : issueStoreK o sh s = .next t) : s.MayStore t := by
  rcases guarded_next h with ⟨-, rfl⟩ | ⟨-, h⟩
  · exact .inl rfl
  · exact .inr ⟨s, _, _, _, rfl, rfl, (Host.Outcome.next.inj h).symm⟩

/-- Whatever the instruction, memory and its records change by a store alone. -/
theorem exec_mayStore {i : Instr} (h : exec i s = .next t) : s.MayStore t := by
  by_cases hi : (issueOf i).timing = .store
  · cases i
    case stb | sth | stw => exact issueStore_mayStore h
    case stbK | sthK | stwK => exact issueStoreK_mayStore h
    case mv o => cases o <;> cases hi
    case neg o => cases o <;> cases hi
    case not o => cases o <;> cases hi
    case zero o => cases o <;> cases hi
    all_goals cases hi
  · exact .inl (exec_memories h hi)

theorem State.MayStore.keeps_codeStores (h : s.MayStore t) (ha : a ∈ s.codeStores) : a ∈ t.codeStores := by
  rcases h with h | ⟨u, ea, n, v, h, -, rfl⟩
  · obtain ⟨-, -, hcode⟩ := State.memories_eq_iff.1 h
    exact hcode ▸ ha
  · obtain ⟨-, -, hcode⟩ := State.memories_eq_iff.1 h
    exact (u.mem_codeStores_store ..).2 (.inl (hcode ▸ ha))

/-- A shared byte that changes is one the store touches, so it is recorded. -/
theorem State.MayStore.records_change (h : s.MayStore t) (hw : Memory.wf s.mem = true)
    (hne : readByte t.mem a ≠ readByte s.mem a) (hs : SharedByte s a) : a ∈ t.codeStores := by
  rcases h with h | ⟨u, ea, n, v, h, hdevice, rfl⟩
  · obtain ⟨hmem, -, -⟩ := State.memories_eq_iff.1 h
    exact absurd (by rw [hmem]) hne
  · obtain ⟨hmem, -, -⟩ := State.memories_eq_iff.1 h
    have htouched : a ∈ u.touched ea n := by
      by_contra hout
      exact hne ((State.store_frame (hmem ▸ hw) v hout).trans (by rw [hmem]))
    exact (u.mem_codeStores_store ..).2 (.inr ⟨htouched, hdevice ▸ (fetchShares_iff s a).2 hs⟩)

/-! No step forgets a recorded address. -/

theorem runAll_keeps_codeStores {p : List Instr} (h : runAll p s = .next t) (ha : a ∈ s.codeStores) :
    a ∈ t.codeStores := by
  induction p generalizing s with
  | nil => exact Host.Outcome.next.inj h ▸ ha
  | cons i rest ih =>
    rw [runAll] at h
    split at h
    · rename_i u hu
      exact ih h ((exec_mayStore hu).keeps_codeStores ha)
    · cases h
    · cases h

theorem State.landExternal_keeps_codeStores (ha : a ∈ s.codeStores) : a ∈ s.landExternal.codeStores := by
  rw [State.landExternal_codeStores, mem_insertAddresses_iff]
  exact .inr ha

theorem State.endCycle_keeps_codeStores (issues : List Issue) (seq : Word) (ha : a ∈ s.codeStores) :
    a ∈ (s.endCycle issues seq).codeStores := by
  rw [State.endCycle_codeStores]
  exact State.landExternal_keeps_codeStores ha

theorem State.takeInterrupt_codeStores (s : State) (n : Nat) : (s.takeInterrupt n).codeStores = s.codeStores := by
  obtain ⟨pwrd, ht⟩ := s.takeInterrupt_frame n
  rw [ht]
  split <;> rfl

theorem step_keeps_codeStores (h : step s = .next t) (ha : a ∈ s.codeStores) : a ∈ t.codeStores := by
  have hend (u : State) (issues : List Issue) (seq : Word) (hu : a ∈ u.codeStores) :
      a ∈ (u.endCycle issues seq).codeStores := State.endCycle_keeps_codeStores issues seq hu
  rcases step_cases h with ⟨-, rfl⟩ | ⟨-, -, rfl⟩ | ⟨-, -, n, -, rfl⟩ | ⟨-, -, -, ⟨-, rfl⟩ | ⟨-, -, rfl⟩ |
    ⟨-, -, -, rfl⟩ | ⟨-, -, -, p, u, -, -, hu, rfl⟩⟩
  · rw [State.warmReset_codeStores]
    exact State.landExternal_keeps_codeStores ha
  · exact hend _ [] _ ha
  · exact hend _ [] _ (by rwa [State.takeInterrupt_codeStores])
  · exact hend _ [] _ ha
  · exact hend _ [] _ ha
  · exact hend _ [] _ ha
  · exact hend u _ _ (runAll_keeps_codeStores hu ha)

/-! What a fetch returns. -/

theorem State.contested_of_contested (h : s.contested a = true) : Contested s a := by
  obtain ⟨c, hc, hca⟩ := List.any_eq_true.1 h
  exact (s.contested_iff (beq_iff_eq.1 hca ▸ s.external_lt c hc)).1 h

theorem State.codeKnown_iff (s : State) (a : Nat) :
    s.codeKnown a = true ↔ InCode s a ∧ a ∉ s.codeStores ∧ s.contested a = false := by
  rw [State.codeKnown, Bool.and_eq_true, fetchBacked_iff, Bool.not_eq_true', Bool.or_eq_false_iff,
    ← Bool.not_eq_true, List.contains_iff_mem]

end

/-- Settles O32: the only writers of the record are stores (`exec_mayStore`) and other bus masters, and both only add to
it; a fetch consults it byte by byte (`State.codeKnown_iff`). -/
theorem unknownCode : Obligations.UnknownCode := by
  refine ⟨fun i s t a hw h hne hs => (exec_mayStore h).records_change hw hne hs,
    fun i s t ea n v upd hi hc h k hk hs => ?container, fun s t a => step_keeps_codeStores,
    fun s a hlt h => ?unknown, fun s a hs hi hc => ?known⟩
  case container =>
    obtain ⟨-, hn⟩ := isStore_spec hi
    rw [exec_of_isStore hi hc] at h
    rw [← Host.Outcome.next.inj h, State.mem_codeStores_store]
    exact .inr ⟨(State.mem_touched_iff hn).2 ⟨k, hk, rfl⟩, (fetchShares_iff s _).2 hs⟩
  case unknown =>
    rw [State.fetchByte, if_neg]
    intro hknown
    obtain ⟨hcode, hstored, hquiet⟩ := (s.codeKnown_iff a).1 hknown
    rcases h with h | h | h
    · exact hstored h
    · exact h hcode
    · rw [(s.contested_iff hlt).2 h] at hquiet
      cases hquiet
  case known =>
    have hquiet : s.contested a = false := Bool.not_eq_true _ ▸ mt State.contested_of_contested hc
    rw [State.fetchByte, if_pos ((s.codeKnown_iff a).2 ⟨hi, hs, hquiet⟩)]
    exact ⟨fun h => if_pos ((fetchShares_iff s a).2 h), fun h => if_neg (mt (fetchShares_iff s a).1 h)⟩

end Sys2Proof.Machine
end
